-- ==== Sys2Proof/Word.lean ====
section
/-! DEFINITION. The index types, bit sets and byte type of the DW716 model. Sets of ports, domains and
condition kinds are bit sets because the management frames carry them as bit sets (R183). -/

namespace Sys2Proof

/-- One byte of a payload. -/
abbrev Byte := BitVec 8

/-- A port, by the index of R175: 0 is TP and 1 to 6 are BP1 to BP6. -/
abbrev Port := Fin 7

/-- A branch: 0 to 5 are BP1 to BP6. -/
abbrev Branch := Fin 6

/-- A power domain D0 to D15. -/
abbrev DomainIx := Fin 16

/-- A rule record, 0 to 127. -/
abbrev RuleIx := Fin 128

/-- A schedule entry S0 to S7. -/
abbrev EntryIx := Fin 8

/-- A set of domains, Dn at bit n (R183). -/
abbrev DomainSet := BitVec 16

/-- A set of ports, TP at bit 0 and BPn at bit n (R183). -/
abbrev PortSet := BitVec 7

/-- A set of condition kinds, kind code k at bit k − 1 (R183). -/
abbrev KindSet := BitVec 10

/-- The trunk port. -/
abbrev trunkPort : Port := 0

/-- The port of a branch. -/
def portOf (b : Branch) : Port := b.succ

/-- The branch of a port, if it is not TP. -/
def branchOf (p : Port) : Option Branch :=
  if h : p = 0 then none else some (p.pred h)

/-- The seven ports in the port order of R68. -/
def allPorts : List Port := [0, 1, 2, 3, 4, 5, 6]

/-- The six branches in ascending order. -/
def allBranches : List Branch := [0, 1, 2, 3, 4, 5]

/-- The sixteen domains in ascending order. -/
def allDomains : List DomainIx := [0, 1, 2, 3, 4, 5, 6, 7, 8, 9, 10, 11, 12, 13, 14, 15]

/-- The eight schedule entries in ascending order. -/
def allEntries : List EntryIx := [0, 1, 2, 3, 4, 5, 6, 7]

/-- The 128 rule indices in ascending order. -/
def allRules : List RuleIx := List.finRange 128

end Sys2Proof
end

