-- ==== Sys2Proof/Syntax.lean ====
section
/-! DEFINITION. The commands of the DW716: one constructor per row of spec/opcode_table.json. A row is an
event that reaches the part (a frame, a pin, the end of an attempt, a timer's expiry) or a step that the part
itself takes (classification, dispatch, the beginning of an attempt, the execution of the request at the head
of the request queue). -/

namespace Sys2Proof

/-- The kind of an identifier (R16). -/
inductive IdKind where
  | base
  | extended
  deriving DecidableEq, Repr

/-- The format of a frame (R16). -/
inductive Format where
  | classic
  | fd
  deriving DecidableEq, Repr

/-- The contents the front end keeps of a data frame (R16): identifier kind, identifier, format and payload.
The bit-rate switch and error-state indicators are not kept. -/
structure Frame where
  kind    : IdKind
  id      : BitVec 29
  format  : Format
  payload : List Byte
  deriving DecidableEq, Repr

/-- How a transmission attempt ends (R17). -/
inductive AttemptOutcome where
  | delivered
  | failed
  deriving DecidableEq, Repr

/-- The commands, one per row of the table, in the table's order. -/
inductive Instr where
  /-- FULL_RESET (R12): power-on or brown-out, with the value then on the strap inputs. -/
  | fullReset (straps : Fin 4)
  /-- RESET_INPUT (R13): an assertion of the reset input, with the value then on the strap inputs. -/
  | resetInput (straps : Fin 4)
  /-- WARM_RESET_TAKES_PLACE (R13): the warm reset of an answered Warm Reset request. -/
  | warmResetTakesPlace (straps : Fin 4)
  /-- FRAME_RECEPTION (R20): a data frame completes reception at a port. -/
  | frameReception (p : Port) (f : Frame)
  /-- REMOTE_FRAME (R16): a remote frame arrives at a port. -/
  | remoteFrame (p : Port)
  /-- CLASSIFIER_TAKES_FRAME (R24). -/
  | classifierTakesFrame
  /-- CLASSIFICATION_DISPATCH (R25). -/
  | classificationDispatch
  /-- TRANSMISSION_ATTEMPT (R27): the port's transmitter begins an attempt. -/
  | transmissionAttempt (p : Port)
  /-- ATTEMPT_END (R27): the port's attempt in flight ends. -/
  | attemptEnd (p : Port) (o : AttemptOutcome)
  /-- SILENCE_TIMER_EXPIRY (R31). -/
  | silenceTimerExpiry
  /-- CONFIGURATION_DEADLINE_EXPIRY (R4). -/
  | configurationDeadlineExpiry
  /-- FAULT_INPUT_ASSERTS (R112): the domain's fault input takes a level; true is asserted. The table has no
  row for a deassertion, so the level is the operand (log entry 3). -/
  | faultInputAsserts (d : DomainIx) (level : Bool)
  /-- SETTLE_EXPIRY (R105). -/
  | settleExpiry (d : DomainIx)
  /-- LINGER_EXPIRY (R108). -/
  | lingerExpiry (d : DomainIx)
  /-- DRAIN_LIMIT_EXPIRY (R91). -/
  | drainLimitExpiry (b : Branch)
  /-- DEADLINE_EXPIRY (R82): the deadline of the item at a place of a port's egress queue, 0 the head. -/
  | deadlineExpiry (p : Port) (place : Nat)
  /-- ACCOUNTING_EXPIRY (R137). -/
  | accountingExpiry
  /-- CHATTER_WINDOW_EXPIRY (R126). -/
  | chatterWindowExpiry (b : Branch)
  /-- ISOLATION_TIMER_EXPIRY (R130). -/
  | isolationTimerExpiry (b : Branch)
  /-- SUSPECT_TIMER_EXPIRY (R158). -/
  | suspectTimerExpiry (r : RuleIx)
  /-- QUARANTINE_TIMER_EXPIRY (R158). -/
  | quarantineTimerExpiry (r : RuleIx)
  /-- SCHEDULE_EXPIRY (R167). -/
  | scheduleExpiry (e : EntryIx)
  /-- EMPTY_REQUEST (R172): the head request has length 0. -/
  | emptyRequest
  /-- UNKNOWN_COMMAND (R173): the head request's command code is unassigned. -/
  | unknownCommand
  /-- READ_IDENTITY (R176). This and the rows down to `depart` execute the request at the head of the request
  queue when it is one of that row (R172); their operands stand in that request's bytes. -/
  | readIdentity
  /-- READ_STATUS (R177). -/
  | readStatus
  /-- CLEAR_CONDITIONS (R179). -/
  | clearConditions
  /-- SET_REPORT_MASKS (R178). -/
  | setReportMasks
  /-- WARM_RESET (R13). -/
  | warmReset
  /-- WRITE_RULE (R48, R49). -/
  | writeRule
  /-- READ_RULE (R52). -/
  | readRule
  /-- SET_RULE_ENABLE (R50). -/
  | setRuleEnable
  /-- RELEASE_QUARANTINE (R159). -/
  | releaseQuarantine
  /-- WRITE_MONITOR (R154). -/
  | writeMonitor
  /-- WRITE_DOMAIN (R98). -/
  | writeDomain
  /-- READ_DOMAIN (R119). -/
  | readDomain
  /-- FORCE_DOMAIN_ON (R114). -/
  | forceDomainOn
  /-- FORCE_DOMAIN_OFF (R115). -/
  | forceDomainOff
  /-- CLEAR_FAULT (R116). -/
  | clearFault
  /-- SET_INRUSH_LIMIT (R106). -/
  | setInrushLimit
  /-- WRITE_PORT (R18, R19). -/
  | writePort
  /-- READ_PORT (R18). -/
  | readPort
  /-- RELEASE_PORT (R131). -/
  | releasePort
  /-- WRITE_BUDGET (R135). -/
  | writeBudget
  /-- WRITE_SCHEDULE (R164). -/
  | writeSchedule
  /-- READ_SCHEDULE (R165). -/
  | readSchedule
  /-- PARK (R7, R8). -/
  | park
  /-- DEPART (R9). -/
  | depart
  /-- PARK_CLOCK_ADVANCE (R15): a one-second step of the time base. -/
  | parkClockAdvance
  deriving DecidableEq, Repr

end Sys2Proof
end

