-- ==== Sys2Proof/Config.lean ====
section
/-! DEFINITION. The constants the manual fixes for the part. No value is left open by the manual in a way that
needs a free value, so there is no opaque constant here. -/

namespace Sys2Proof.Config

/-- Frame buffers in the pool (R75). -/
def poolSize : Nat := 96
/-- The last free buffers left to class A (R76). -/
def classAReserve : Nat := 8
/-- Frames a landing buffer holds (R21). -/
def landingDepth : Nat := 2
/-- Requests the request queue holds (R171). -/
def requestDepth : Nat := 4
/-- Records the report queue holds (R181). -/
def reportDepth : Nat := 16
/-- Attempts after which a candidate is discarded, and discards that isolate a branch (R27, R28). -/
def attemptLimit : Nat := 3
/-- Seconds loaded into the configuration deadline (R4). -/
def configurationDeadline : Nat := 120
/-- Milliseconds of an accounting interval (R137). -/
def accountingInterval : Nat := 250
/-- The largest value of the 32-bit counts: park clock (R15) and consumed charge (R138). -/
def max32 : Nat := 4294967295
/-- The battery figure that means unknown (R144). -/
def unknownVb : Nat := 0xFFFF
/-- Greatest schedule delay or period, in seconds (R163). -/
def maxDelay : Nat := 86400

/-- The management identifiers the straps select (R26). -/
def mreq : Fin 4 → BitVec 29
  | 0 => 0x6C0#29
  | 1 => 0x6D0#29
  | 2 => 0x6E0#29
  | 3 => 0x5C0#29

/-- The identifier of responses (R26). -/
def mrsp : Fin 4 → BitVec 29
  | 0 => 0x6C1#29
  | 1 => 0x6D1#29
  | 2 => 0x6E1#29
  | 3 => 0x5C1#29

/-- The identifier of reports (R26). -/
def mrep : Fin 4 → BitVec 29
  | 0 => 0x6C2#29
  | 1 => 0x6D2#29
  | 2 => 0x6E2#29
  | 3 => 0x5C2#29

end Sys2Proof.Config
end

