-- ==== Sys2Proof/Machine/State.lean ====
section
/-! DEFINITION. The state of the DW716 as plain data, block by block, and the state after a full reset. Outputs
that are functions of this state (domain enables R99, transceiver mode pairs R120, the central wake line R33) are
computed in Machine/Ops.lean. -/

namespace Sys2Proof.Machine

/-- The part mode (R1). -/
inductive PartMode where
  | unconfigured
  | fallback
  | drive
  | parked
  deriving DecidableEq, Repr

/-- The trunk state (R31). -/
inductive TrunkState where
  | quiet
  | active
  deriving DecidableEq, Repr

/-- The domain states (R99). -/
inductive DomainState where
  | off
  | queued
  | powerUp
  | on
  | releasing
  | fault
  deriving DecidableEq, Repr

/-- The branch states (R120). -/
inductive BranchMode where
  | off
  | listen
  | waking
  | awake
  | draining
  | isolated
  deriving DecidableEq, Repr

/-- The transceiver modes (R120). -/
inductive Transceiver where
  | off
  | lowPower
  | normal
  deriving DecidableEq, Repr

/-- The rest state of a branch (R18). -/
inductive RestState where
  | off
  | listen
  deriving DecidableEq, Repr

/-- The no-match policy of a port (R18). -/
inductive NoMatchPolicy where
  | drop
  | pass
  deriving DecidableEq, Repr

/-- The class of a rule, a scheduled wake or an entry; A is the highest. -/
inductive WakeClass where
  | a
  | b
  | c
  deriving DecidableEq, Repr

/-- The charge levels, best to worst (R145). -/
inductive Level where
  | green
  | amber
  | red
  | exhausted
  deriving DecidableEq, Repr

/-- The outcomes of admission (R56). -/
inductive AdmissionOutcome where
  | honour
  | deliverOnly
  | drop
  deriving DecidableEq, Repr

/-- The cause of an isolation (R120). -/
inductive IsolationCause where
  | none
  | chatter
  | noAck
  deriving DecidableEq, Repr

/-- The condition kinds, in the order of their codes (R183). -/
inductive Condition where
  | domainFault
  | ruleQuarantined
  | portIsolated
  | levelChanged
  | batteryLow
  | holdOverflow
  | landingOverrun
  | scheduleSkipped
  | accountSaturated
  | fallbackEntered
  deriving DecidableEq, Repr

/-- The identifier kinds a rule accepts (R38). -/
inductive KindTest where
  | base
  | extended
  | any
  deriving DecidableEq, Repr

/-- The formats a rule accepts (R39). -/
inductive FormatTest where
  | classic
  | fd
  | any
  deriving DecidableEq, Repr

/-- The comparison operators (R41). -/
inductive Comparison where
  | eq
  | ne
  | ge
  | le
  deriving DecidableEq, Repr

/-- The mode of a schedule entry (R163). -/
inductive ScheduleMode where
  | repeating
  | oneShot
  deriving DecidableEq, Repr

/-- One lane test of a rule (R34, R41). -/
structure LaneTest where
  offset  : Nat
  mask    : Byte
  op      : Comparison
  operand : Byte
  deriving DecidableEq, Repr

/-- The word test of a rule (R34, R42). -/
structure WordTest where
  offset   : Nat
  lowFirst : Bool
  mask     : BitVec 16
  op       : Comparison
  operand  : BitVec 16
  compare  : Bool
  deriving DecidableEq, Repr

/-- The fields of a rule record that Write Rule sets (R34). -/
structure RuleRecord where
  valid     : Bool
  enabled   : Bool
  ingress   : PortSet
  kind      : KindTest
  format    : FormatTest
  idValue   : BitVec 29
  idMask    : BitVec 29
  minLength : Nat
  lanes     : List LaneTest
  word      : Option WordTest
  cls       : WakeClass
  wake      : DomainSet
  activity  : DomainSet
  forward   : PortSet
  hold      : Bool
  battery   : Bool
  confirm   : Bool
  linger    : Nat
  deriving DecidableEq, Repr

/-- A rule record with the states the confirmation monitor keeps in it (R34, R153): the seconds left while the
rule is suspect or quarantined. -/
structure Rule where
  record     : RuleRecord
  suspect    : Option Nat
  quarantine : Option Nat
  deriving DecidableEq, Repr

/-- What a match hands to admission (R44, R45). -/
structure Match where
  rule     : RuleIx
  cls      : WakeClass
  wake     : DomainSet
  activity : DomainSet
  forward  : PortSet
  hold     : Bool
  confirm  : Bool
  linger   : Nat
  battery  : Option (BitVec 16)
  deriving DecidableEq, Repr

/-- What the classifier dispatches (R25, R46, R47). -/
inductive Verdict where
  | management
  | transparent (forward : PortSet)
  | matched (m : Match)
  | pass (forward : PortSet)
  | dropped
  deriving DecidableEq, Repr

/-- A classification in flight (R25). -/
structure Classification where
  frame   : Frame
  port    : Port
  verdict : Verdict
  deriving DecidableEq, Repr

/-- A frame entry of an egress queue (R79). `deadline` is its deadline count in seconds. -/
structure Entry where
  frame     : Frame
  cls       : WakeClass
  hold      : Bool
  attempts  : Nat
  sending   : Bool
  deadline  : Nat
  deriving DecidableEq, Repr

/-- The two kinds of entry of an egress queue (R79). -/
inductive QueueItem where
  | frame (e : Entry)
  | marker
  deriving DecidableEq, Repr

/-- What the attempt in flight on a port is of. `removed` is a frame entry taken from its queue during the
attempt (R83), whose buffer stays in use. -/
inductive TxSource where
  | entry
  | removed
  | response
  | report
  deriving DecidableEq, Repr

/-- The attempt in flight on a port and the frame it puts on the bus (R27). -/
structure Flight where
  source : TxSource
  frame  : Frame
  deriving DecidableEq, Repr

/-- The fields of the port record that every port holds (R18). `maxPayload` is 8 or 64. -/
structure PortParams where
  maxPayload : Nat
  holdCap    : Nat
  holdAge    : Nat
  noMatch    : NoMatchPolicy
  forward    : PortSet
  deriving DecidableEq, Repr

/-- A port front end with its egress queue (R18, R21, R22, R27, R28, R79). -/
structure PortState where
  params   : PortParams
  landing  : List Frame
  overrun  : Bool
  queue    : List QueueItem
  flight   : Option Flight
  discards : Nat
  deriving DecidableEq, Repr

/-- The fields of the port record that only the branches hold (R18). -/
structure BranchParams where
  rest          : RestState
  current       : Nat
  chatterLimit  : Nat
  chatterWindow : Nat
  isolationTime : Nat
  drainLimit    : Nat
  deriving DecidableEq, Repr

/-- A branch record (R120) and the drain state the queue manager keeps for the branch (R86). A timer that is
stopped is `none`. -/
structure BranchState where
  params         : BranchParams
  mode           : BranchMode
  chatterCount   : Nat
  windowTimer    : Option Nat
  isolationTimer : Option Nat
  cause          : IsolationCause
  seen           : Bool
  drainTimer     : Option Nat
  closing        : Bool
  deriving DecidableEq, Repr

/-- A domain record (R97, R99) and the monitor's waker and awaiting mark for it (R153). -/
structure Domain where
  branch        : Option Branch
  ia            : Nat
  settleTime    : Nat
  defaultLinger : Nat
  state         : DomainState
  remaining     : Nat
  pending       : Nat
  pendingClass  : WakeClass
  settle        : Nat
  seen          : Bool
  waker         : Option RuleIx
  awaiting      : Bool
  deriving DecidableEq, Repr

/-- The budget parameters (R134). -/
structure Budget where
  allowance : Nat
  t1        : Nat
  t2        : Nat
  ibase     : Nat
  shift     : Nat
  hmin      : Nat
  vcrit     : Nat
  lcap      : Nat
  deriving DecidableEq, Repr

/-- The state of the charge account besides its parameters (R136). -/
structure Account where
  consumed  : Nat
  carry     : Nat
  remaining : Nat
  davg      : Nat
  saturated : Bool
  vb        : Nat
  override  : Bool
  level     : Level
  effective : Level
  timer     : Nat
  deriving DecidableEq, Repr

/-- A schedule entry (R163). -/
structure ScheduleEntry where
  enabled    : Bool
  mode       : ScheduleMode
  firstDelay : Nat
  period     : Nat
  wake       : DomainSet
  cls        : WakeClass
  linger     : Nat
  countdown  : Nat
  deriving DecidableEq, Repr

/-- The response in the response slot: its bytes before padding, and its attempt count (R172, R174). -/
structure Response where
  bytes    : List Byte
  attempts : Nat
  deriving DecidableEq, Repr

/-- A report record (R180) with its attempt count (R27). An absent subject is `none`, an absent detail 0. -/
structure Report where
  kind     : Condition
  subject  : Option Nat
  detail1  : Nat
  detail2  : Nat
  stamp    : Nat
  urgent   : Bool
  lost     : Bool
  attempts : Nat
  deriving DecidableEq, Repr

/-- The whole state of the part. -/
structure State where
  /-- Part mode (R1). -/
  mode : PartMode
  /-- The levels on the strap inputs, a pair of pins (R26). -/
  strapPins : Fin 4
  /-- The strap value read at the last reset (R26). -/
  strap : Fin 4
  /-- Configuration deadline, in seconds; it counts in Unconfigured (R4, R187). -/
  deadline : Nat
  /-- Park clock, in seconds (R15). -/
  parkClock : Nat
  /-- Request queue, head first (R171). -/
  requests : List (List Byte)
  /-- Request-overrun flag (R171). -/
  requestOverrun : Bool
  /-- Response slot (R172). -/
  response : Option Response
  /-- A Warm Reset request has been answered and its reset has not taken place (R13). -/
  warmResetPending : Bool
  /-- Report queue, head first (R181). -/
  reports : List Report
  /-- Reports-lost mark (R182). -/
  reportsLost : Bool
  /-- Condition flags (R180). -/
  flags : KindSet
  /-- Report mask (R178). -/
  reportMask : KindSet
  /-- Urgent mask (R178). -/
  urgentMask : KindSet
  /-- Trunk state (R31). -/
  trunk : TrunkState
  /-- Silence timer, in 100 ms units; `none` when stopped (R31). -/
  silence : Option Nat
  /-- Trunk silence time of TP's port record (R18). -/
  silenceTime : Nat
  /-- The seven port front ends and egress queues. -/
  ports : Vector PortState 7
  /-- The six branch records. -/
  branches : Vector BranchState 6
  /-- Round-robin pointer of the classifier (R24). -/
  pointer : Port
  /-- The classification in flight, if the classifier is not free (R25). -/
  classification : Option Classification
  /-- The rule table (R34). -/
  rules : Vector Rule 128
  /-- Free buffers of the frame pool (R75). -/
  freeBuffers : Nat
  /-- The sixteen domain records. -/
  domains : Vector Domain 16
  /-- The levels on the domain fault inputs, a pin each; true is asserted (R112). -/
  faultInputs : BitVec 16
  /-- Inrush limit K (R103). -/
  inrushLimit : Nat
  /-- Last-granted pointer (R103). -/
  lastGranted : DomainIx
  /-- Budget parameters (R134). -/
  budget : Budget
  /-- The charge account (R136). -/
  account : Account
  /-- Suspect window, in seconds (R153). -/
  suspectWindow : Nat
  /-- Quarantine time, in seconds (R153). -/
  quarantineTime : Nat
  /-- The eight schedule entries (R163). -/
  schedule : Vector ScheduleEntry 8
  /-- The model's own: milliseconds since the last one-second step of the time base (log entry 2). -/
  phase : Nat
  /-- The model's own: the commands that wait, first in first out. -/
  pending : List Instr
  deriving DecidableEq, Repr

/-- Why a command stops the machine. -/
inductive Fault where
  /-- Raised by FRAME_RECEPTION alone, for operands that are no data frame of the bus by R16 (an identifier or a
  length that no frame has). The bus cannot bring them, so stopping is safe. -/
  | notADataFrame
  deriving DecidableEq, Repr

/-- Why a command has no meaning in the model. -/
inductive Refusal where
  /-- Raised by exec's arm of a command that has no meaning yet. No arm raises it now. It would be safe. -/
  | notModelled (mnemonic : String)
  deriving DecidableEq, Repr

/-- The full-reset values of a rule record (R34, R53). -/
def RuleRecord.reset : RuleRecord where
  valid := false
  enabled := false
  ingress := 0
  kind := .any
  format := .any
  idValue := 0
  idMask := 0
  minLength := 0
  lanes := []
  word := none
  cls := .c
  wake := 0
  activity := 0
  forward := 0
  hold := false
  battery := false
  confirm := false
  linger := 0

/-- The full-reset value of a rule (R34, R53, R153). -/
def Rule.reset : Rule := { record := RuleRecord.reset, suspect := none, quarantine := none }

/-- The full-reset values of a port record (R18). -/
def PortParams.reset (p : Port) : PortParams where
  maxPayload := 64
  holdCap := 16
  holdAge := 600
  noMatch := .pass
  forward := if p = trunkPort then 0b1111110#7 else 0b0000001#7

/-- A port front end after a full reset (R18, R23, R28, R79). -/
def PortState.reset (p : Port) : PortState where
  params := PortParams.reset p
  landing := []
  overrun := false
  queue := []
  flight := none
  discards := 0

/-- The full-reset values of the branches' port fields (R18). -/
def BranchParams.reset : BranchParams where
  rest := .listen
  current := 0
  chatterLimit := 20
  chatterWindow := 10
  isolationTime := 300
  drainLimit := 50

/-- A branch record at a full reset before the entry effects of Unconfigured (R132, R86). -/
def BranchState.cold : BranchState where
  params := BranchParams.reset
  mode := .off
  chatterCount := 0
  windowTimer := none
  isolationTimer := none
  cause := .none
  seen := false
  drainTimer := none
  closing := false

/-- A domain record at a full reset before the entry effects of Unconfigured (R97, R118, R153). -/
def Domain.cold : Domain where
  branch := none
  ia := 0
  settleTime := 10
  defaultLinger := 600
  state := .off
  remaining := 0
  pending := 0
  pendingClass := .c
  settle := 0
  seen := false
  waker := none
  awaiting := false

/-- The full-reset values of the budget parameters (R134). -/
def Budget.reset : Budget where
  allowance := 0
  t1 := 0
  t2 := 0
  ibase := 0
  shift := 4
  hmin := 0
  vcrit := 0
  lcap := 300

/-- The charge account after a full reset (R136). -/
def Account.reset : Account where
  consumed := 0
  carry := 0
  remaining := 0
  davg := 0
  saturated := false
  vb := Config.unknownVb
  override := false
  level := .exhausted
  effective := .exhausted
  timer := Config.accountingInterval

/-- The full-reset values of a schedule entry (R163). -/
def ScheduleEntry.reset : ScheduleEntry where
  enabled := false
  mode := .repeating
  firstDelay := 3600
  period := 3600
  wake := 0
  cls := .c
  linger := 0
  countdown := 3600

/-- Every item at its full-reset value, before the entry effects of Unconfigured act on domains and branches
(R12, R118, R132). The strap value and the pins are taken as 0 (log entries 4 and 3), and the command queue is
empty. -/
def State.cold : State where
  mode := .unconfigured
  strapPins := 0
  strap := 0
  deadline := Config.configurationDeadline
  parkClock := 0
  requests := []
  requestOverrun := false
  response := none
  warmResetPending := false
  reports := []
  reportsLost := false
  flags := 0
  reportMask := 0x3FF#10
  urgentMask := 0
  trunk := .quiet
  silence := none
  silenceTime := 20
  ports := Vector.ofFn PortState.reset
  branches := Vector.replicate 6 BranchState.cold
  pointer := 6
  classification := none
  rules := Vector.replicate 128 Rule.reset
  freeBuffers := Config.poolSize
  domains := Vector.replicate 16 Domain.cold
  faultInputs := 0
  inrushLimit := 2
  lastGranted := 0
  budget := Budget.reset
  account := Account.reset
  suspectWindow := 600
  quarantineTime := 3600
  schedule := Vector.replicate 8 ScheduleEntry.reset
  phase := 0
  pending := []

/-- A branch right after a full reset: Awake, its seen-powered mark set (R2, R120). -/
def BranchState.reset : BranchState := { BranchState.cold with mode := .awake, seen := true }

/-- A domain right after a full reset: the arbiter, searching from D15 with K at 2, has granted D15 and D14
(R105), and the others wait Queued with class B and the default linger (R2, R14). -/
def Domain.reset (d : DomainIx) : Domain :=
  if 14 ≤ d.val then
    { Domain.cold with state := .powerUp, pending := 600, pendingClass := .b, settle := 10, seen := true }
  else
    { Domain.cold with state := .queued, pending := 600, pendingClass := .b }

/-- The machine right after a full reset (R12, R14): Unconfigured, its entry effects done and the first two
grants made. -/
def State.reset : State :=
  { State.cold with
    branches := Vector.replicate 6 BranchState.reset
    domains := Vector.ofFn Domain.reset
    lastGranted := 14 }

end Sys2Proof.Machine
end

