-- ==== Sys2Proof/Machine/Ops.lean ====
section
/-! DEFINITION. The named operations over the state: updates of one record of a table, the outputs that are
functions of the state, and the operations of the egress queues and the frame pool (chapter 5). -/

namespace Sys2Proof.Machine

/-! ## Updates of one record -/

/-- Replace a port front end by its image. -/
def State.modPort (s : State) (p : Port) (f : PortState → PortState) : State :=
  { s with ports := s.ports.set p (f s.ports[p]) }

/-- Replace a branch record by its image. -/
def State.modBranch (s : State) (b : Branch) (f : BranchState → BranchState) : State :=
  { s with branches := s.branches.set b (f s.branches[b]) }

/-- Replace a domain record by its image. -/
def State.modDomain (s : State) (d : DomainIx) (f : Domain → Domain) : State :=
  { s with domains := s.domains.set d (f s.domains[d]) }

/-- Replace a rule by its image. -/
def State.modRule (s : State) (r : RuleIx) (f : Rule → Rule) : State :=
  { s with rules := s.rules.set r (f s.rules[r]) }

/-- Replace a schedule entry by its image. -/
def State.modEntry (s : State) (e : EntryIx) (f : ScheduleEntry → ScheduleEntry) : State :=
  { s with schedule := s.schedule.set e (f s.schedule[e]) }

/-- Replace every port front end by its image. -/
def State.mapPorts (s : State) (f : Port → PortState → PortState) : State :=
  { s with ports := Vector.ofFn fun p => f p s.ports[p] }

/-- Replace every branch record by its image. -/
def State.mapBranches (s : State) (f : Branch → BranchState → BranchState) : State :=
  { s with branches := Vector.ofFn fun b => f b s.branches[b] }

/-- Replace every domain record by its image. -/
def State.mapDomains (s : State) (f : DomainIx → Domain → Domain) : State :=
  { s with domains := Vector.ofFn fun d => f d s.domains[d] }

/-- Replace every rule by its image. -/
def State.mapRules (s : State) (f : RuleIx → Rule → Rule) : State :=
  { s with rules := Vector.ofFn fun r => f r s.rules[r] }

/-- Replace every schedule entry by its image. -/
def State.mapSchedule (s : State) (f : EntryIx → ScheduleEntry → ScheduleEntry) : State :=
  { s with schedule := Vector.ofFn fun e => f e s.schedule[e] }

/-! ## Domains -/

/-- The enable output is on exactly in PowerUp, On and Releasing (R99). -/
def DomainState.enabled : DomainState → Bool
  | .powerUp | .on | .releasing => true
  | .off | .queued | .fault => false

/-- Queued or PowerUp: the domain waits to be powered (R99). -/
def DomainState.waiting : DomainState → Bool
  | .queued | .powerUp => true
  | .off | .on | .releasing | .fault => false

/-- Queued, PowerUp, On or Releasing: the states a cut and Force Domain Off act on (R115, R117). -/
def DomainState.active : DomainState → Bool
  | .queued | .powerUp | .on | .releasing => true
  | .off | .fault => false

/-- The domain enable output (R99). -/
def State.enableOutput (s : State) (d : DomainIx) : Bool := s.domains[d].state.enabled

/-- The domain's record in Off: lingers 0, pending class C, settle timer stopped, waker and awaiting mark
cleared without charge (R99, R115, R161). -/
def Domain.switchedOff (d : Domain) : Domain :=
  { d with state := .off, remaining := 0, pending := 0, pendingClass := .c, settle := 0,
           waker := none, awaiting := false }

/-- The domain's record in Fault (R112). -/
def Domain.faulted (d : Domain) : Domain := { d.switchedOff with state := .fault }

/-- The domain's waker and awaiting mark cleared without charge (R161). -/
def Domain.unarmed (d : Domain) : Domain := { d with waker := none, awaiting := false }

/-- How many domains are in PowerUp (R103). -/
def State.powerUpCount (s : State) : Nat :=
  allDomains.countP fun d => s.domains[d].state = .powerUp

/-- Some domain of the branch is in a state of the given kind. -/
def State.anyDomainOf (s : State) (b : Branch) (k : DomainState → Bool) : Bool :=
  allDomains.any fun d => s.domains[d].branch = some b && k s.domains[d].state

/-- The effective level caps lingers (R60, R110): Red or Exhausted. -/
def Level.capping : Level → Bool
  | .red | .exhausted => true
  | .green | .amber => false

/-- A linger under the Red linger cap when the level caps (R60). -/
def capLinger (l : Level) (lcap linger : Nat) : Nat :=
  if l.capping then min linger lcap else linger

/-- A domain's default linger under the cap of the effective level held (R64, R111, R114). -/
def State.cappedDefault (s : State) (d : DomainIx) : Nat :=
  capLinger s.account.effective s.budget.lcap s.domains[d].defaultLinger

/-! ## Branches and trunk -/

/-- The transceiver mode pair of a branch follows its state (R120). -/
def BranchMode.transceiver : BranchMode → Transceiver
  | .off | .isolated => .off
  | .listen => .lowPower
  | .waking | .awake | .draining => .normal

/-- The transceiver mode pair of a port; TP's is held at normal (R17, R120). -/
def State.transceiver (s : State) (p : Port) : Transceiver :=
  match branchOf p with
  | none => .normal
  | some b => s.branches[b].mode.transceiver

/-- Off or Listen: the branch is at rest. -/
def BranchMode.atRest : BranchMode → Bool
  | .off | .listen => true
  | .waking | .awake | .draining | .isolated => false

/-- The branch state that a rest state names (R120). -/
def RestState.mode : RestState → BranchMode
  | .off => .off
  | .listen => .listen

/-- The port receives (R20's table). -/
def State.receives (s : State) (p : Port) : Bool :=
  match branchOf p with
  | none => true
  | some b => s.branches[b].mode != .off && s.branches[b].mode != .isolated

/-- The port transmits egress entries (R20's table). -/
def State.transmits (s : State) (p : Port) : Bool :=
  match branchOf p with
  | none => s.trunk == .active
  | some b => s.branches[b].mode == .awake || s.branches[b].mode == .draining

/-- The trunk becomes or stays Active, its silence timer loaded from the trunk silence time (R31). -/
def State.trunkHeard (s : State) : State :=
  { s with trunk := .active, silence := some s.silenceTime }

/-- A Delivered end on TP reloads the silence timer while the trunk is Active (R31). -/
def State.trunkDelivered (s : State) : State :=
  if s.trunk = .active then { s with silence := some s.silenceTime } else s

/-- The trunk becomes Quiet and its silence timer stops (R29, R31). -/
def State.trunkSilent (s : State) : State :=
  { s with trunk := .quiet, silence := none }

/-- What a port's transmitter puts on its bus: the frame of the attempt in flight, and whether the bit-rate switch is
set, as it is in every FD frame (R16, R27). -/
def State.busOutput (s : State) (p : Port) : Option (Frame × Bool) :=
  s.ports[p].flight.map fun f => (f.frame, f.frame.format == .fd)

/-! ## Egress queues and the frame pool -/

/-- A frame entry whose hold flag is set. -/
def QueueItem.held : QueueItem → Bool
  | .frame e => e.hold
  | .marker => false

/-- A frame entry in transmission. -/
def QueueItem.sending : QueueItem → Bool
  | .frame e => e.sending
  | .marker => false

/-- A frame entry. -/
def QueueItem.isFrame : QueueItem → Bool
  | .frame _ => true
  | .marker => false

/-- A frame entry that may be evicted: not of class A and not in transmission (R77). -/
def QueueItem.evictable : QueueItem → Bool
  | .frame e => e.cls != .a && !e.sending
  | .marker => false

/-- The number of frame entries of a queue (R76). -/
def frameCount (q : List QueueItem) : Nat := q.countP QueueItem.isFrame

/-- The number of held frame entries of a queue (R95). -/
def heldCount (q : List QueueItem) : Nat := q.countP QueueItem.held

/-- The central wake line (R33). -/
def State.wakeLine (s : State) : Bool :=
  s.trunk == .quiet && (s.reports.any (·.urgent) || s.ports[trunkPort].queue.any QueueItem.held)

/-- The attempt in flight once its entry has been taken from the queue (R83). -/
def Flight.orphan (f : Flight) : Flight :=
  if f.source = .entry then { f with source := .removed } else f

/-- Remove the items of a port's queue that are not kept, in one step: an entry in transmission leaves its
attempt to run out with its buffer (R83), the buffers of the others are freed (R75). -/
def State.purge (s : State) (p : Port) (keep : QueueItem → Bool) : State :=
  let gone := s.ports[p].queue.filter fun i => !keep i
  { s.modPort p fun ps =>
      { ps with
        queue := ps.queue.filter keep
        flight := if gone.any QueueItem.sending then ps.flight.map Flight.orphan else ps.flight } with
    freeBuffers := s.freeBuffers + gone.countP fun i => i.isFrame && !i.sending }

/-- Remove one item of a port's queue that is no longer in transmission, freeing its buffer (R75). -/
def State.dropAt (s : State) (p : Port) (place : Nat) : State :=
  { s.modPort p fun ps => { ps with queue := ps.queue.eraseIdx place } with
    freeBuffers := s.freeBuffers + 1 }

/-- Append a frame entry at the tail of a port's queue, taking one buffer and loading its deadline from the
port's hold age limit (R76, R80). -/
def State.enqueue (s : State) (p : Port) (f : Frame) (cls : WakeClass) (hold : Bool) : State :=
  let e : Entry :=
    { frame := f, cls := cls, hold := hold, attempts := 0, sending := false,
      deadline := s.ports[p].params.holdAge }
  { s.modPort p fun ps => { ps with queue := ps.queue ++ [.frame e] } with
    freeBuffers := s.freeBuffers - 1 }

/-- Queue room: fewer frame entries than the hold cap (R76). -/
def State.queueRoom (s : State) (p : Port) : Bool :=
  decide (frameCount s.ports[p].queue < s.ports[p].params.holdCap)

/-- Pool room: 1 free buffer for class A, 9 for class B and C (R76). -/
def State.poolRoom (s : State) (cls : WakeClass) : Bool :=
  match cls with
  | .a => decide (1 ≤ s.freeBuffers)
  | .b | .c => decide (Config.classAReserve + 1 ≤ s.freeBuffers)

/-- Stop the branch's drain timer and clear its closing mark (R85, R87, R89, R93). -/
def State.stopDrain (s : State) (b : Branch) : State :=
  s.modBranch b fun bs => { bs with drainTimer := none, closing := false }

end Sys2Proof.Machine
end

