-- ==== Sys2Proof/Machine/Flags.lean ====
section
/-! DEFINITION. Conditions and reports (section 11.3) and the level computations of the charge account
(section 8.4). -/

namespace Sys2Proof.Machine

/-! ## Conditions and reports -/

/-- The code of a condition kind less one, its bit in a kind set (R183). -/
def Condition.index : Condition → Nat
  | .domainFault => 0
  | .ruleQuarantined => 1
  | .portIsolated => 2
  | .levelChanged => 3
  | .batteryLow => 4
  | .holdOverflow => 5
  | .landingOverrun => 6
  | .scheduleSkipped => 7
  | .accountSaturated => 8
  | .fallbackEntered => 9

/-- The kind set of one kind. -/
def Condition.bit (c : Condition) : KindSet := BitVec.twoPow 10 c.index

/-- Offer a record to the report queue; a full queue discards it and sets the reports-lost mark (R181). -/
def State.offerReport (s : State) (r : Report) : State :=
  if s.reports.length < Config.reportDepth then { s with reports := s.reports ++ [r] }
  else { s with reportsLost := true }

/-- Raise a condition: set its flag and, if the report mask holds the kind, create a record (R180). -/
def State.raise (s : State) (c : Condition) (subject : Option Nat) (detail1 detail2 : Nat) : State :=
  let s1 := { s with flags := s.flags ||| c.bit }
  if s.reportMask.getLsbD c.index then
    s1.offerReport
      { kind := c, subject := subject, detail1 := detail1, detail2 := detail2, stamp := s.parkClock,
        urgent := s.urgentMask.getLsbD c.index, lost := false, attempts := 0 }
  else s1

/-! ## Codes of the codes table (R183) that conditions carry -/

/-- Level codes. -/
def Level.code : Level → Nat
  | .green => 0
  | .amber => 1
  | .red => 2
  | .exhausted => 3

/-- Class codes. -/
def WakeClass.code : WakeClass → Nat
  | .a => 0
  | .b => 1
  | .c => 2

/-- Domain state codes. -/
def DomainState.code : DomainState → Nat
  | .off => 0
  | .queued => 1
  | .powerUp => 2
  | .on => 3
  | .releasing => 4
  | .fault => 5

/-- Isolation cause codes. -/
def IsolationCause.code : IsolationCause → Nat
  | .none => 0
  | .chatter => 1
  | .noAck => 2

/-- Outcome codes. -/
def AdmissionOutcome.code : AdmissionOutcome → Nat
  | .honour => 0
  | .deliverOnly => 1
  | .drop => 2

/-! ## Classes -/

/-- The higher of two classes, A above B above C (R101). -/
def WakeClass.higher (x y : WakeClass) : WakeClass := if x.code ≤ y.code then x else y

/-! ## Levels -/

/-- The charge level of a remaining charge under the thresholds T1 and T2 (R143). -/
def chargeLevel (r t1 t2 : Nat) : Level :=
  if r = 0 then .exhausted else if r < t2 then .red else if r < t1 then .amber else .green

/-- The worse of two levels, Green best and Exhausted worst (R145). -/
def Level.worse (x y : Level) : Level := if x.code ≤ y.code then y else x

/-- The account with remaining charge, override mark, charge level and effective level recomputed from the
parameters, the consumed charge and the battery figure (R138, R143, R145). -/
def Account.recomputed (a : Account) (b : Budget) : Account :=
  let r := b.allowance - a.consumed
  let o := decide (a.vb < b.vcrit)
  let l := chargeLevel r b.t1 b.t2
  { a with remaining := r, override := o, level := l, effective := if o then l.worse .red else l }

/-- The recomputation at a reset: no condition and no cap order (R136). -/
def State.recomputeSilently (s : State) : State :=
  { s with account := s.account.recomputed s.budget }

/-- A domain under the cap order (R110). -/
def Domain.capped (lcap : Nat) (d : Domain) : Domain :=
  match d.state with
  | .on => { d with remaining := min d.remaining lcap }
  | .queued | .powerUp => { d with pending := min d.pending lcap }
  | .off | .releasing | .fault => d

/-- The cap order to every domain (R110). -/
def State.capOrder (s : State) : State :=
  s.mapDomains fun _ d => d.capped s.budget.lcap

/-- The recomputation with its effects: BATTERY_LOW when the override engages, LEVEL_CHANGED when the effective
level changes, then the cap order when the new level is Red or Exhausted (R146). -/
def State.recompute (s : State) : State :=
  let new := s.account.recomputed s.budget
  let old := s.account
  let s1 := { s with account := new }
  let s2 := if new.override && !old.override then s1.raise .batteryLow none new.vb 0 else s1
  if new.effective = old.effective then s2
  else
    let s3 := s2.raise .levelChanged none old.effective.code new.effective.code
    if new.effective.capping then s3.capOrder else s3

/-- The reserve check (R147). -/
def State.reserveCheck (s : State) : Bool :=
  decide (s.account.davg * s.budget.hmin * 225 ≤ s.account.remaining)

/-- A battery figure taken by the account (R144). -/
def State.takeBattery (s : State) (vb : BitVec 16) : State :=
  { s with account := { s.account with vb := vb.toNat } }.recompute

end Sys2Proof.Machine
end

