-- ==== Sys2Proof/Machine/Power.lean ====
section
/-! DEFINITION. The operations that the domain controller, the inrush arbiter, the branch controller and the
queue manager's drain share (chapters 5 to 7). -/

namespace Sys2Proof.Machine

/-! ## Branch states -/

/-- A branch enters a state: the seen-powered mark is set at an entry to Waking, and at an entry to Awake from
a state other than Waking and Draining (R120); leaving Listen for a state other than Isolated clears the chatter
count and stops its window (R124). -/
def BranchState.enter (bs : BranchState) (m : BranchMode) : BranchState :=
  let marks :=
    match m with
    | .waking => bs.mode != .waking
    | .awake => bs.mode != .waking && bs.mode != .draining && bs.mode != .awake
    | .off | .listen | .draining | .isolated => false
  let quits := bs.mode == .listen && m != .listen && m != .isolated
  { bs with
    mode := m
    seen := bs.seen || marks
    chatterCount := if quits then 0 else bs.chatterCount
    windowTimer := if quits then none else bs.windowTimer }

/-- Put a branch into a state. -/
def State.enterBranch (s : State) (b : Branch) (m : BranchMode) : State :=
  s.modBranch b fun bs => bs.enter m

/-- Empty a port's landing buffer and clear its overrun-reported mark (R23). -/
def PortState.emptied (ps : PortState) : PortState := { ps with landing := [], overrun := false }

/-- The chatter count cleared and the window timer loaded and started (R124). -/
def BranchState.freshWindow (bs : BranchState) : BranchState :=
  { bs with chatterCount := 0, windowTimer := some bs.params.chatterWindow }

/-- Entry to the rest state the port record holds (R124). -/
def State.goRest (s : State) (b : Branch) : State :=
  let s1 := s.enterBranch b s.branches[b].params.rest.mode
  match s.branches[b].params.rest with
  | .off => s1.modPort (portOf b) PortState.emptied
  | .listen => if s.mode = .parked then s1.modBranch b BranchState.freshWindow else s1

/-- A return to rest without the marker reaching the head (R85): unheld entries discarded, held entries kept,
any marker removed, then the entry to rest. -/
def State.returnToRest (s : State) (b : Branch) : State :=
  ((s.purge (portOf b) QueueItem.held).stopDrain b).goRest b

/-! ## The drain -/

/-- The Releasing domains of a branch switched off at its drain's completion (R87, R111). -/
def State.switchOffReleasing (s : State) (b : Branch) : State :=
  s.mapDomains fun _ d => if d.branch = some b ∧ d.state = .releasing then d.switchedOff else d

/-- The Releasing domains of a branch returned to On with their capped default lingers (R111). -/
def State.reviveReleasing (s : State) (b : Branch) : State :=
  s.mapDomains fun i d =>
    if d.branch = some b ∧ d.state = .releasing then
      { d with state := .on, remaining := s.cappedDefault i }
    else d

/-- The completion of a drain, at the marker's reaching the head (R87) or at closing (R91): the marker and the
unheld entries go, held entries stay in order, the Releasing domains go Off and the branch goes to rest. -/
def State.completeDrain (s : State) (b : Branch) : State :=
  (((s.purge (portOf b) QueueItem.held).stopDrain b).switchOffReleasing b).goRest b

/-- A drain completes when the marker stands at the head (R87, R88), or when the closing mark is set and no
attempt is in flight (R91). A marker at the head completes it at once also while the closing mark is set and the
attempt of an entry removed earlier is still in flight (log entry 35). Any other branch is left as it is. -/
def State.settleDrain (s : State) (b : Branch) : State :=
  if s.branches[b].mode = .draining ∧
      (s.ports[portOf b].queue.head? = some .marker ∨
        (s.branches[b].closing = true ∧ s.ports[portOf b].flight = none)) then
    s.completeDrain b
  else s

/-- `settleDrain` for a port: TP has no drain (R79). -/
def State.settlePort (s : State) (p : Port) : State :=
  match branchOf p with
  | none => s
  | some b => s.settleDrain b

/-- An Awake branch goes Draining and its sleep marker is placed at the tail of its queue (R86, R121, R122); at
an empty queue the drain completes in the same step. -/
def State.placeMarker (s : State) (b : Branch) : State :=
  if s.branches[b].mode = .awake then
    let s1 := s.enterBranch b .draining
    let s2 := s1.modPort (portOf b) fun ps => { ps with queue := ps.queue ++ [.marker] }
    let s3 := s2.modBranch b fun bs => { bs with drainTimer := some bs.params.drainLimit, closing := false }
    s3.settleDrain b
  else s

/-- The withdrawal of a Draining branch's sleep marker (R89): entries keep their places, the branch is Awake,
its Releasing domains return to On. Any other branch holds no marker and is left as it is. -/
def State.withdrawMarker (s : State) (b : Branch) : State :=
  if s.branches[b].mode = .draining then
    let s1 := s.modPort (portOf b) fun ps => { ps with queue := ps.queue.filter QueueItem.isFrame }
    ((s1.stopDrain b).enterBranch b .awake).reviveReleasing b
  else s

/-! ## Domain transitions and the branch -/

/-- A domain of the branch has gone from Off to Queued (R121): in Parked a branch at rest goes to Waking and a
Draining branch has its marker withdrawn. Outside Parked domains do not move the branch (R11). -/
def State.branchJoined (s : State) (b : Branch) : State :=
  if s.mode = .parked then
    match s.branches[b].mode with
    | .off | .listen => s.enterBranch b .waking
    | .draining => s.withdrawMarker b
    | .waking | .awake | .isolated => s
  else s

/-- A domain of the branch has gone On, Off or to Fault (R121), judged on the domain states after the
transition. Outside Parked domains do not move the branch (R11). -/
def State.branchFollow (s : State) (b : Branch) : State :=
  if s.mode = .parked then
    match s.branches[b].mode with
    | .waking =>
      if s.anyDomainOf b DomainState.waiting then s
      else if s.anyDomainOf b (· == .on) then s.enterBranch b .awake
      else s.returnToRest b
    | .awake | .draining =>
      if s.anyDomainOf b DomainState.active then s else s.returnToRest b
    | .off | .listen | .isolated => s
  else s

/-- `branchFollow` for a domain's branch, if it has one. -/
def State.followDomain (s : State) (d : DomainIx) : State :=
  match s.domains[d].branch with
  | none => s
  | some b => s.branchFollow b

/-- The last two effects of a domain's entry to Fault (R112): the branch's reaction, and DOMAIN_FAULT with the state
it left. -/
def State.reportFault (s : State) (d : DomainIx) (left : DomainState) : State :=
  (s.followDomain d).raise .domainFault (some d.val) left.code 0

/-! ## The inrush arbiter -/

/-- The order of the arbiter's search: from one below the last-granted pointer downward, wrapping from D0 to
D15, ending at the pointer's own index (R104). -/
def searchOrder (pointer : DomainIx) : List DomainIx :=
  allDomains.map fun i => pointer - 1 - i

/-- A domain of the pending set (R103). -/
def State.isPending (s : State) (d : DomainIx) : Bool := s.domains[d].state == .queued

/-- The arbiter's choice: the first candidate of its search, the candidates being the pending domains of class A
if there is one, otherwise the whole pending set (R104). -/
def State.chooseGrant (s : State) : Option DomainIx :=
  let isA := fun d => s.isPending d && s.domains[d].pendingClass == .a
  let candidate := if allDomains.any isA then isA else s.isPending
  (searchOrder s.lastGranted).find? candidate

/-- A grant (R105): PowerUp with the enable on, the seen-powered mark set and the settle timer loaded. -/
def State.grant (s : State) (d : DomainIx) : State :=
  { s.modDomain d fun x => { x with state := .powerUp, seen := true, settle := x.settleTime } with lastGranted := d }

/-- Grants while fewer than K domains are in PowerUp and a domain is pending (R103). An input already asserted puts
the granted domain in Fault in the same step, and the place it frees is granted on before the branch reacts and
DOMAIN_FAULT is raised (R112). Each grant takes a domain out of the pending set, so sixteen rounds suffice. -/
def State.grantRounds : Nat → State → State
  | 0, s => s
  | n + 1, s =>
    if s.powerUpCount < s.inrushLimit then
      match s.chooseGrant with
      | none => s
      | some d =>
        if s.faultInputs.getLsbD d.val then
          (((s.grant d).modDomain d Domain.faulted).grantRounds n).reportFault d .powerUp
        else (s.grant d).grantRounds n
    else s

/-- The arbiter grants all it can (R103). -/
def State.runArbiter (s : State) : State := s.grantRounds 16

/-- A domain enters Fault (R112): its record, the grants that a freed PowerUp place allows, then the branch's
reaction and DOMAIN_FAULT (log entry 14). -/
def State.enterFault (s : State) (d : DomainIx) : State :=
  (s.modDomain d Domain.faulted).runArbiter.reportFault d s.domains[d].state

/-! ## Wake requests and activity reloads -/

/-- The Off-to-Queued move of a wake request, armed with a rule only where the domain has a branch (R101,
R155). -/
def Domain.queuedFor (d : Domain) (cls : WakeClass) (linger : Nat) (armed : Option RuleIx) : Domain :=
  let d1 := { d with state := .queued, pending := linger, pendingClass := cls }
  match armed, d.branch with
  | some r, some _ => { d1 with waker := some r, awaiting := true }
  | _, _ => d1

/-- A wake request without the arbiter's grants that follow it (R101). -/
def State.requestWake (s : State) (d : DomainIx) (cls : WakeClass) (linger : Nat) (armed : Option RuleIx) :
    State :=
  let x := s.domains[d]
  match x.state with
  | .off =>
    match x.branch with
    | none => s.modDomain d fun x => x.queuedFor cls linger armed
    | some b =>
      if s.branches[b].mode = .isolated then s
      else (s.modDomain d fun x => x.queuedFor cls linger armed).branchJoined b
  | .queued | .powerUp =>
    s.modDomain d fun x =>
      { x with pending := max x.pending linger, pendingClass := x.pendingClass.higher cls }
  | .on => s.modDomain d fun x => { x with remaining := max x.remaining linger }
  | .releasing =>
    let s1 := s.modDomain d fun x => { x with state := .on, remaining := linger }
    match x.branch with
    | none => s1
    | some b => s1.withdrawMarker b
  | .fault => s

/-- A wake request followed by the grants it allows (R101, R103). -/
def State.wake (s : State) (d : DomainIx) (cls : WakeClass) (linger : Nat) (armed : Option RuleIx) : State :=
  (s.requestWake d cls linger armed).runArbiter

/-- Class B wake requests with the default linger to a group of domains, taken together: every domain joins
the pending set before the arbiter grants (R2, R9, R11, R118; log entry 6). -/
def State.wakeGroup (s : State) (ds : List DomainIx) : State :=
  (ds.foldl (fun t d => t.requestWake d .b t.domains[d].defaultLinger none) s).runArbiter

/-- An activity reload with its reload value (R64). -/
def State.reloadActivity (s : State) (d : DomainIx) (linger : Nat) : State :=
  let x := s.domains[d]
  match x.state with
  | .on => s.modDomain d fun x => { x with remaining := max x.remaining linger }
  | .releasing =>
    let s1 := s.modDomain d fun x => { x with state := .on, remaining := max x.remaining linger }
    match x.branch with
    | none => s1
    | some b => s1.withdrawMarker b
  | .off | .queued | .powerUp | .fault => s

/-! ## Switching off -/

/-- Force Domain Off (R115): at once, without drain, from Queued, PowerUp, On or Releasing. -/
def State.switchOff (s : State) (d : DomainIx) : State :=
  if s.domains[d].state.active then
    ((s.modDomain d Domain.switchedOff).followDomain d).runArbiter
  else s

/-- A cut of a group of domains, with the grants of the places it frees (R117). -/
def State.cut (s : State) (group : Domain → Bool) : State :=
  (s.mapDomains fun _ d => if group d && d.state.active then d.switchedOff else d).runArbiter

/-! ## Isolation and chatter -/

/-- Entry to Isolated (R129), with the flush of R93 and the cut of R117. A branch already Isolated is not
isolated again. -/
def State.isolate (s : State) (b : Branch) (cause : IsolationCause) : State :=
  if s.branches[b].mode = .isolated then s
  else
    let time := s.branches[b].params.isolationTime
    let s1 := (s.enterBranch b .isolated).modPort (portOf b) PortState.emptied
    let s2 := (s1.purge (portOf b) fun _ => false).stopDrain b
    let s3 := s2.cut fun d => d.branch = some b
    let s4 := s3.modBranch b fun bs =>
      { bs with windowTimer := none, cause := cause, isolationTimer := some time }
    s4.raise .portIsolated (some (portOf b).val) cause.code time

/-- A chattered frame reported to the branch controller (R126, R127): counted in Parked while the branch is in
Listen; a count at or above the limit isolates the branch. -/
def State.chatter (s : State) (b : Branch) : State :=
  if s.mode = .parked ∧ s.branches[b].mode = .listen then
    let s1 := s.modBranch b fun bs => { bs with chatterCount := bs.chatterCount + 1 }
    if s1.branches[b].params.chatterLimit ≤ s1.branches[b].chatterCount then s1.isolate b .chatter else s1
  else s

/-- The isolation cause, timer and counts cleared as a branch leaves Isolated (R130, R132). -/
def BranchState.released (bs : BranchState) : BranchState :=
  { bs with cause := .none, isolationTimer := none, chatterCount := 0 }

/-- A branch leaves Isolated (R130, R11): to its rest state in Parked, to Awake in Unconfigured and Drive with
a wake request to each of its Off domains. -/
def State.leaveIsolated (s : State) (b : Branch) : State :=
  let s1 := (s.modBranch b BranchState.released).modPort (portOf b) fun ps => { ps with discards := 0 }
  match s.mode with
  | .parked => s1.goRest b
  | .fallback => s1.enterBranch b .listen
  | .unconfigured | .drive =>
    (s1.enterBranch b .awake).wakeGroup
      (allDomains.filter fun d => s1.domains[d].branch = some b ∧ s1.domains[d].state = .off)

/-! ## Confirmation -/

/-- A reception notice at the confirmation monitor (R156): every On awaiting domain of the branch is confirmed,
and a suspect rule that its waker names is cleared of suspicion. -/
def State.confirm (s : State) (b : Branch) : State :=
  let confirmed := fun (d : Domain) => d.branch = some b ∧ d.state = .on ∧ d.awaiting = true
  let s1 := s.mapRules fun r x =>
    if allDomains.any fun d => confirmed s.domains[d] && s.domains[d].waker == some r then
      { x with suspect := none }
    else x
  s1.mapDomains fun _ d => if confirmed d then d.unarmed else d

/-- A reception notice for a branch (R21): it confirms (R156), and it withdraws the marker of a Draining branch
(R90). -/
def State.receptionNotice (s : State) (b : Branch) : State :=
  (s.confirm b).withdrawMarker b

/-- Clear without charge the waker and awaiting mark of every domain whose waker names a rule (R49, R50). -/
def State.clearWakers (s : State) (r : RuleIx) : State :=
  s.mapDomains fun _ d => if d.waker = some r then d.unarmed else d

/-- A classification in flight that matched a rule is dispatched with confirm no once the rule has been
written, disabled or quarantined (R51). -/
def State.dropConfirm (s : State) (r : RuleIx) : State :=
  { s with classification := s.classification.map fun c =>
      match c.verdict with
      | .matched m => if m.rule = r then { c with verdict := .matched { m with confirm := false } } else c
      | .management | .transparent _ | .pass _ | .dropped => c }

/-- The charge of an unconfirmed wake to its rule (R157). -/
def State.charge (s : State) (r : RuleIx) (d : DomainIx) : State :=
  let x := s.rules[r]
  if x.quarantine.isSome then
    s.modRule r fun x => { x with quarantine := some s.quarantineTime }
  else if x.suspect.isSome then
    let s1 := s.modRule r fun x => { x with suspect := none, quarantine := some s.quarantineTime }
    (s1.dropConfirm r).raise .ruleQuarantined (some r.val) d.val s.quarantineTime
  else
    s.modRule r fun x => { x with suspect := some s.suspectWindow }

end Sys2Proof.Machine
end

