-- ==== Sys2Proof/Machine/Transmit.lean ====
section
/-! DEFINITION. Transmission (section 2.6), the frames of responses and reports (R174, R186), and the meanings of
TRANSMISSION_ATTEMPT, ATTEMPT_END and SILENCE_TIMER_EXPIRY. -/

namespace Sys2Proof.Machine

/-! ## Bytes -/

/-- One byte of a number. -/
def byte (n : Nat) : Byte := BitVec.ofNat 8 n

/-- A two-byte value, high byte first (R183). -/
def be16 (n : Nat) : List Byte := [byte (n / 0x100), byte n]

/-- A four-byte value, high byte first (R183). -/
def be32 (n : Nat) : List Byte := [byte (n / 0x1000000), byte (n / 0x10000), byte (n / 0x100), byte n]

/-- One flag at a bit of a byte. -/
def flagBit (b : Bool) (n : Nat) : Nat := if b then 2 ^ n else 0

/-! ## Frames of responses and reports -/

/-- The smallest FD length that holds a number of bytes (R174). -/
def fdLength (n : Nat) : Nat :=
  if n ≤ 8 then n else if n ≤ 12 then 12 else if n ≤ 16 then 16 else if n ≤ 20 then 20
  else if n ≤ 24 then 24 else if n ≤ 32 then 32 else if n ≤ 48 then 48 else 64

/-- The frame of a response on MRSP: classic up to 8 bytes, otherwise FD padded with zero bytes (R174). -/
def responseFrame (strap : Fin 4) (bytes : List Byte) : Frame :=
  if bytes.length ≤ 8 then { kind := .base, id := Config.mrsp strap, format := .classic, payload := bytes }
  else
    { kind := .base, id := Config.mrsp strap, format := .fd,
      payload := bytes ++ List.replicate (fdLength bytes.length - bytes.length) 0 }

/-- The twelve bytes of a report (R186). -/
def Report.bytes (r : Report) : List Byte :=
  [byte (r.kind.index + 1), byte (flagBit r.lost 0 + flagBit r.urgent 1)] ++ be32 r.stamp
    ++ [byte (r.subject.getD 0xFF)] ++ be16 r.detail1 ++ be16 r.detail2 ++ [0]

/-- The frame of a report on MREP (R186). -/
def reportFrame (strap : Fin 4) (r : Report) : Frame :=
  { kind := .base, id := Config.mrep strap, format := .fd, payload := r.bytes }

/-! ## Beginning an attempt -/

/-- The attempt on the head entry of a port's queue (R27, R81). -/
def State.beginEntry (s : State) (p : Port) : State :=
  match s.ports[p].queue with
  | .frame e :: rest =>
    if e.attempts < Config.attemptLimit then
      s.modPort p fun ps =>
        { ps with
          queue := .frame { e with attempts := e.attempts + 1, sending := true } :: rest
          flight := some { source := .entry, frame := e.frame } }
    else s
  | _ => s

/-- The attempt on the response in the slot (R27, R30). -/
def State.beginResponse (s : State) (r : Response) : State :=
  if r.attempts < Config.attemptLimit then
    { s with response := some { r with attempts := r.attempts + 1 } }.modPort trunkPort fun ps =>
      { ps with flight := some { source := .response, frame := responseFrame s.strap r.bytes } }
  else s

/-- The attempt on the head record of the report queue, which takes the reports-lost mark with it, on a retry too
(R27, R182; log entry 32). -/
def State.beginReport (s : State) (r : Report) (rest : List Report) : State :=
  if r.attempts < Config.attemptLimit then
    let r1 := { r with attempts := r.attempts + 1, lost := r.lost || s.reportsLost }
    { s with reports := r1 :: rest, reportsLost := false }.modPort trunkPort fun ps =>
      { ps with flight := some { source := .report, frame := reportFrame s.strap r1 } }
  else s

/-- The TP transmitter's choice: the response slot in either trunk state, then, while the trunk is Active, the
head report, then the head entry (R30). -/
def State.beginTrunk (s : State) : State :=
  match s.response with
  | some r => s.beginResponse r
  | none =>
    if s.trunk = .active then
      match s.reports with
      | r :: rest => s.beginReport r rest
      | [] => s.beginEntry trunkPort
    else s

/-- A branch's transmitter works on the head of its queue in a state that transmits (R27), and begins nothing
while the closing mark is set (R91). -/
def State.beginBranch (s : State) (b : Branch) : State :=
  if s.transmits (portOf b) ∧ s.branches[b].closing = false then s.beginEntry (portOf b) else s

/-- TRANSMISSION_ATTEMPT (R27), when the port's transmitter is not already in an attempt. -/
def execTransmissionAttempt (p : Port) (s : State) : Host.Outcome State Fault Refusal :=
  if s.ports[p].flight.isSome then .next s
  else
    match branchOf p with
    | none => .next s.beginTrunk
    | some b => .next (s.beginBranch b)

/-! ## The end of an attempt -/

/-- TP's consecutive-discard count reaches 3 (R29): Quiet, the unheld TP entries discarded, the count 0. -/
def State.trunkGivesUp (s : State) : State :=
  (s.trunkSilent.purge trunkPort fun i => !i.isFrame || i.held).modPort trunkPort fun ps =>
    { ps with discards := 0 }

/-- A discard after a third Failed attempt (R28): the port's count increases, and at 3 R29 applies on TP, or the
branch is isolated for NO_ACK, in any mode but Fallback (R128; log entry 24). -/
def State.countDiscard (s : State) (p : Port) : State :=
  let s1 := s.modPort p fun ps => { ps with discards := min Config.attemptLimit (ps.discards + 1) }
  if s1.ports[p].discards < Config.attemptLimit then s1
  else
    match branchOf p with
    | none => s1.trunkGivesUp
    | some b => if s1.mode = .fallback then s1 else s1.isolate b .noAck

/-- A Delivered outcome on a port (R27, R31): its consecutive-discard count becomes 0, and on TP the silence
timer is reloaded while Active. -/
def State.delivered (s : State) (p : Port) : State :=
  let s1 := s.modPort p fun ps => { ps with discards := 0 }
  if p = trunkPort then s1.trunkDelivered else s1

/-- The head entry of a port's queue is no longer in transmission. -/
def State.headIdle (s : State) (p : Port) : State :=
  s.modPort p fun ps =>
    match ps.queue with
    | .frame e :: rest => { ps with queue := .frame { e with sending := false } :: rest }
    | _ => ps

/-- The end of an attempt on the head entry (R27, R81, R82). -/
def State.endEntry (s : State) (p : Port) (o : AttemptOutcome) : State :=
  match s.ports[p].queue with
  | .frame e :: _ =>
    match o with
    | .delivered => ((s.dropAt p 0).delivered p).settlePort p
    | .failed =>
      if Config.attemptLimit ≤ e.attempts then ((s.dropAt p 0).countDiscard p).settlePort p
      else if e.deadline = 0 then (s.dropAt p 0).settlePort p
      else (s.headIdle p).settlePort p
  | _ => s

/-- The end of the attempt of an entry removed during it (R83): its buffer is freed, a Delivered outcome clears
the count, a Failed one is not counted. -/
def State.endRemoved (s : State) (p : Port) (o : AttemptOutcome) : State :=
  let s1 := { s with freeBuffers := s.freeBuffers + 1 }
  match o with
  | .delivered => (s1.delivered p).settlePort p
  | .failed => s1.settlePort p

/-- The end of an attempt on the response (R27, R172). -/
def State.endResponse (s : State) (o : AttemptOutcome) : State :=
  match s.response with
  | none => s
  | some r =>
    match o with
    | .delivered => { s with response := none }.delivered trunkPort
    | .failed =>
      if Config.attemptLimit ≤ r.attempts then { s with response := none }.countDiscard trunkPort else s

/-- The end of an attempt on the head report (R27, R181, R182). -/
def State.endReport (s : State) (o : AttemptOutcome) : State :=
  match s.reports with
  | [] => s
  | r :: rest =>
    match o with
    | .delivered => { s with reports := rest }.delivered trunkPort
    | .failed =>
      if Config.attemptLimit ≤ r.attempts then
        { s with reports := rest, reportsLost := true }.countDiscard trunkPort
      else s

/-- An attempt in flight ends (R27). -/
def State.endAttempt (s : State) (p : Port) (f : Flight) (o : AttemptOutcome) : State :=
  let s1 := s.modPort p fun ps => { ps with flight := none }
  match f.source with
  | .entry => s1.endEntry p o
  | .removed => s1.endRemoved p o
  | .response => s1.endResponse o
  | .report => s1.endReport o

/-- ATTEMPT_END (R27), when an attempt is in flight on the port. -/
def execAttemptEnd (p : Port) (o : AttemptOutcome) (s : State) : Host.Outcome State Fault Refusal :=
  match s.ports[p].flight with
  | none => .next s
  | some f => .next (s.endAttempt p f o)

/-- The silence timer has run out (R31). -/
def State.silenceDue (s : State) : Bool := s.silence == some 0

/-- SILENCE_TIMER_EXPIRY (R31): the trunk becomes Quiet and keeps its queued entries. An expiry whose timer a frame
has reloaded first does not take place (log entry 5). -/
def execSilenceTimerExpiry (s : State) : Host.Outcome State Fault Refusal :=
  .next (if s.silenceDue then s.trunkSilent else s)

end Sys2Proof.Machine
end

