-- ==== Sys2Proof/Machine/Operands.lean ====
section
/-! DEFINITION. The layouts of section 11.4: the argument forms of the requests, decoded with their range and code
checks, and the data forms of the responses. -/

namespace Sys2Proof.Machine

/-- The results of a request (R173). -/
inductive Result where
  | done
  | unknown
  | badIndex
  | badValue
  | wrongMode
  | wrongState
  deriving DecidableEq, Repr

/-- Result codes (R173). -/
def Result.code : Result → Nat
  | .done => 0
  | .unknown => 1
  | .badIndex => 2
  | .badValue => 3
  | .wrongMode => 4
  | .wrongState => 5

/-! ## Reading arguments -/

/-- The byte at an offset of the arguments. -/
def arg8 (a : List Byte) (i : Nat) : Nat := (a.getD i 0).toNat

/-- The two-byte value at an offset of the arguments, high byte first (R183). -/
def arg16 (a : List Byte) (i : Nat) : Nat := 0x100 * arg8 a i + arg8 a (i + 1)

/-- The four-byte value at an offset of the arguments, high byte first (R183). -/
def arg32 (a : List Byte) (i : Nat) : Nat := 0x10000 * arg16 a i + arg16 a (i + 2)

/-- A bit of the byte at an offset of the arguments. -/
def argBit (a : List Byte) (i n : Nat) : Bool := (arg8 a i).testBit n

/-- A bound on an index, checked. -/
def index? (n i : Nat) : Option (Fin n) := if h : i < n then some ⟨i, h⟩ else none

/-! ## Codes (R183) -/

/-- A yes or no code. -/
def boolOf : Nat → Option Bool
  | 0 => some false
  | 1 => some true
  | _ => none

/-- A class code. -/
def classOf : Nat → Option WakeClass
  | 0 => some .a
  | 1 => some .b
  | 2 => some .c
  | _ => none

/-- An identifier kind code. -/
def kindOf : Nat → Option KindTest
  | 0 => some .base
  | 1 => some .extended
  | 2 => some .any
  | _ => none

/-- A format code. -/
def formatOf : Nat → Option FormatTest
  | 0 => some .classic
  | 1 => some .fd
  | 2 => some .any
  | _ => none

/-- An operator code. -/
def comparisonOf : Nat → Option Comparison
  | 0 => some .eq
  | 1 => some .ne
  | 2 => some .ge
  | 3 => some .le
  | _ => none

/-- A schedule mode code. -/
def scheduleModeOf : Nat → Option ScheduleMode
  | 0 => some .repeating
  | 1 => some .oneShot
  | _ => none

/-- A rest state code. -/
def restOf : Nat → Option RestState
  | 0 => some .off
  | 1 => some .listen
  | _ => none

/-- A no-match policy code. -/
def noMatchOf : Nat → Option NoMatchPolicy
  | 0 => some .drop
  | 1 => some .pass
  | _ => none

/-- A branch code: 0 none, 1 to 6 BP1 to BP6. -/
def branchCodeOf : Nat → Option (Option Branch)
  | 0 => some none
  | n + 1 => (index? 6 n).map some

/-- A port set byte: bit 7 names no port (R173, R183). -/
def portSetOf (n : Nat) : Option PortSet := if n < 0x80 then some (BitVec.ofNat 7 n) else none

/-- Identifier kind code. -/
def KindTest.code : KindTest → Nat
  | .base => 0
  | .extended => 1
  | .any => 2

/-- Format code. -/
def FormatTest.code : FormatTest → Nat
  | .classic => 0
  | .fd => 1
  | .any => 2

/-- Operator code. -/
def Comparison.code : Comparison → Nat
  | .eq => 0
  | .ne => 1
  | .ge => 2
  | .le => 3

/-- Schedule mode code. -/
def ScheduleMode.code : ScheduleMode → Nat
  | .repeating => 0
  | .oneShot => 1

/-- Rest state code. -/
def RestState.code : RestState → Nat
  | .off => 0
  | .listen => 1

/-- No-match policy code. -/
def NoMatchPolicy.code : NoMatchPolicy → Nat
  | .drop => 0
  | .pass => 1

/-- Branch code. -/
def branchCode : Option Branch → Nat
  | none => 0
  | some b => b.val + 1

/-- Part mode code. -/
def PartMode.code : PartMode → Nat
  | .unconfigured => 0
  | .fallback => 1
  | .drive => 2
  | .parked => 3

/-- Branch state code. -/
def BranchMode.code : BranchMode → Nat
  | .off => 0
  | .listen => 1
  | .waking => 2
  | .awake => 3
  | .draining => 4
  | .isolated => 5

/-- Trunk state code. -/
def TrunkState.code : TrunkState → Nat
  | .quiet => 0
  | .active => 1

/-! ## The rule record image (R184) -/

/-- A check that holds, or BAD_VALUE. -/
def check (b : Bool) : Option Unit := if b then some () else none

/-- One lane test of the image, with its checks (R48, R184). -/
def laneOf (a : List Byte) (i : Nat) : Option LaneTest := do
  check (decide (arg8 a i ≤ 63))
  let op ← comparisonOf (arg8 a (i + 2))
  pure { offset := arg8 a i, mask := a.getD (i + 1) 0, op := op, operand := a.getD (i + 3) 0 }

/-- The lane tests within the count, from the given place of the image. -/
def lanesOf (a : List Byte) : Nat → Nat → Option (List LaneTest)
  | 0, _ => some []
  | n + 1, i => do
    let t ← laneOf a i
    let rest ← lanesOf a n (i + 4)
    pure (t :: rest)

/-- The word test of the image, absent where bit 0 of byte 29 is clear (R184). -/
def wordTestOf (a : List Byte) : Option (Option WordTest) :=
  if argBit a 29 0 then do
    let op ← comparisonOf (arg8 a 30)
    check (decide (arg8 a 31 ≤ 62))
    pure (some
      { offset := arg8 a 31, lowFirst := argBit a 29 2, mask := BitVec.ofNat 16 (arg16 a 32), op := op,
        operand := BitVec.ofNat 16 (arg16 a 34), compare := argBit a 29 1 })
  else some none

/-- The rule record of a 43-byte image, or none for a BAD_VALUE of R48 (R184). Unassigned bits of its flag bytes are
ignored (R173), and so are bits 6 and 7 of byte 2 (log entry 20). -/
def ruleOf (a : List Byte) : Option RuleRecord := do
  let ingress ← portSetOf (arg8 a 1)
  let kind ← kindOf (arg8 a 2 % 4)
  let format ← formatOf (arg8 a 2 / 4 % 4)
  let cls ← classOf (arg8 a 2 / 16 % 4)
  check (decide (arg32 a 3 < 2 ^ 29))
  check (decide (arg32 a 7 < 2 ^ 29))
  check (decide (arg8 a 11 ≤ 64))
  check (decide (arg8 a 12 ≤ 4))
  let lanes ← lanesOf a (arg8 a 12) 13
  let word ← wordTestOf a
  let forward ← portSetOf (arg8 a 40)
  check (!(argBit a 0 3) || word.isSome)
  pure
    { valid := argBit a 0 0, enabled := argBit a 0 1, ingress := ingress, kind := kind, format := format,
      idValue := BitVec.ofNat 29 (arg32 a 3), idMask := BitVec.ofNat 29 (arg32 a 7), minLength := arg8 a 11,
      lanes := lanes, word := word, cls := cls, wake := BitVec.ofNat 16 (arg16 a 36),
      activity := BitVec.ofNat 16 (arg16 a 38), forward := forward, hold := argBit a 0 2,
      battery := argBit a 0 3, confirm := argBit a 0 4, linger := arg16 a 41 }

/-- The four bytes of a lane test. -/
def LaneTest.bytes (t : LaneTest) : List Byte := [byte t.offset, t.mask, byte t.op.code, t.operand]

/-- Bytes padded with zeros to a length. -/
def padTo (n : Nat) (a : List Byte) : List Byte := a ++ List.replicate (n - a.length) 0

/-- Bytes 29 to 35 of the image. -/
def wordBytes : Option WordTest → List Byte
  | none => List.replicate 7 0
  | some t =>
    [byte (1 + flagBit t.compare 1 + flagBit t.lowFirst 2), byte t.op.code, byte t.offset]
      ++ be16 t.mask.toNat ++ be16 t.operand.toNat

/-- The 43-byte image of a rule record (R184). -/
def RuleRecord.image (r : RuleRecord) : List Byte :=
  [byte (flagBit r.valid 0 + flagBit r.enabled 1 + flagBit r.hold 2 + flagBit r.battery 3 + flagBit r.confirm 4),
    byte r.ingress.toNat, byte (r.kind.code + 4 * r.format.code + 16 * r.cls.code)]
    ++ be32 r.idValue.toNat ++ be32 r.idMask.toNat ++ [byte r.minLength, byte r.lanes.length]
    ++ padTo 16 (r.lanes.flatMap LaneTest.bytes) ++ wordBytes r.word ++ be16 r.wake.toNat
    ++ be16 r.activity.toNat ++ [byte r.forward.toNat] ++ be16 r.linger

/-! ## Domains -/

/-- The parameters Write Domain carries (R97). -/
structure DomainParams where
  branch        : Option Branch
  ia            : Nat
  settleTime    : Nat
  defaultLinger : Nat
  deriving DecidableEq, Repr

/-- The parameters in Write Domain's arguments, or none for a BAD_VALUE (R98, R183). -/
def domainOf (a : List Byte) : Option DomainParams := do
  let branch ← branchCodeOf (arg8 a 1)
  check (decide (arg16 a 2 ≤ 16383))
  check (decide (1 ≤ arg8 a 4))
  check (decide (1 ≤ arg16 a 5))
  pure { branch := branch, ia := arg16 a 2, settleTime := arg8 a 4, defaultLinger := arg16 a 5 }

/-- The parameters as bytes 1 to 6 of Write Domain's arguments. -/
def Domain.paramBytes (d : Domain) : List Byte :=
  [byte (branchCode d.branch)] ++ be16 d.ia ++ [byte d.settleTime] ++ be16 d.defaultLinger

/-- The seconds left on a timer, or 0 when it is stopped. -/
def timerLeft (t : Option Nat) : Nat := t.getD 0

/-- The data of Read Domain (R119, R185). -/
def State.domainData (s : State) (i : DomainIx) : List Byte :=
  let d := s.domains[i]
  [byte i.val] ++ d.paramBytes ++ [byte d.state.code] ++ be16 d.remaining ++ be16 d.pending
    ++ [byte d.pendingClass.code, byte d.settle,
        byte (flagBit d.seen 0 + flagBit (s.faultInputs.getLsbD i.val) 1 + flagBit d.awaiting 2),
        byte ((d.waker.map (·.val)).getD 0xFF), byte s.inrushLimit, byte s.lastGranted.val]

/-! ## Ports -/

/-- The common fields in Write Port's arguments (R18, R183). -/
def portParamsOf (p : Port) (a : List Byte) : Option PortParams := do
  check (arg8 a 2 == 8 || arg8 a 2 == 64)
  check (decide (arg8 a 4 ≤ Config.poolSize))
  check (decide (1 ≤ arg16 a 5))
  let noMatch ← noMatchOf (arg8 a 7)
  let forward ← portSetOf (arg8 a 8)
  check (!(forward.getLsbD p.val))
  pure { maxPayload := arg8 a 2, holdCap := arg8 a 4, holdAge := arg16 a 5, noMatch := noMatch, forward := forward }

/-- The branch fields in Write Port's arguments (R18, R183). -/
def branchParamsOf (a : List Byte) : Option BranchParams := do
  let rest ← restOf (arg8 a 1)
  check (decide (1 ≤ arg8 a 9))
  check (decide (1 ≤ arg8 a 10))
  check (decide (1 ≤ arg16 a 11))
  check (decide (1 ≤ arg8 a 13))
  pure
    { rest := rest, current := arg8 a 3, chatterLimit := arg8 a 9, chatterWindow := arg8 a 10,
      isolationTime := arg16 a 11, drainLimit := arg8 a 13 }

/-- The trunk silence time in Write Port's arguments for TP (R18). -/
def silenceOf (a : List Byte) : Option Nat := do
  check (decide (1 ≤ arg8 a 14))
  pure (arg8 a 14)

/-- The data of Read Port, laid out as the Write Port arguments; the fields the port does not hold are 0
(R175, R185). -/
def State.portData (s : State) (p : Port) : List Byte :=
  let x := s.ports[p].params
  match branchOf p with
  | none =>
    [byte p.val, 0, byte x.maxPayload, 0, byte x.holdCap] ++ be16 x.holdAge
      ++ [byte x.noMatch.code, byte x.forward.toNat, 0, 0, 0, 0, 0, byte s.silenceTime]
  | some b =>
    let y := s.branches[b].params
    [byte p.val, byte y.rest.code, byte x.maxPayload, byte y.current, byte x.holdCap] ++ be16 x.holdAge
      ++ [byte x.noMatch.code, byte x.forward.toNat, byte y.chatterLimit, byte y.chatterWindow]
      ++ be16 y.isolationTime ++ [byte y.drainLimit, 0]

/-! ## Budget and schedule -/

/-- The budget in Write Budget's arguments, or none for a BAD_VALUE (R135, R183). -/
def budgetOf (a : List Byte) : Option Budget := do
  check (decide (arg16 a 12 ≤ 1023))
  check (decide (arg8 a 14 ≤ 15))
  check (decide (arg16 a 16 ≤ 65534))
  check (decide (1 ≤ arg16 a 18))
  check (decide (arg32 a 8 ≤ arg32 a 4))
  pure
    { allowance := arg32 a 0, t1 := arg32 a 4, t2 := arg32 a 8, ibase := arg16 a 12, shift := arg8 a 14,
      hmin := arg8 a 15, vcrit := arg16 a 16, lcap := arg16 a 18 }

/-- The twenty bytes of the budget parameters. -/
def Budget.bytes (b : Budget) : List Byte :=
  be32 b.allowance ++ be32 b.t1 ++ be32 b.t2 ++ be16 b.ibase ++ [byte b.shift, byte b.hmin] ++ be16 b.vcrit
    ++ be16 b.lcap

/-- The entry in Write Schedule's arguments, its countdown loaded with the first delay, or none for a BAD_VALUE
(R164, R183). -/
def scheduleOf (a : List Byte) : Option ScheduleEntry := do
  let enabled ← boolOf (arg8 a 1)
  let mode ← scheduleModeOf (arg8 a 2)
  check (decide (1 ≤ arg32 a 3) && decide (arg32 a 3 ≤ Config.maxDelay))
  check (decide (1 ≤ arg32 a 7) && decide (arg32 a 7 ≤ Config.maxDelay))
  let cls ← classOf (arg8 a 13)
  pure
    { enabled := enabled, mode := mode, firstDelay := arg32 a 3, period := arg32 a 7,
      wake := BitVec.ofNat 16 (arg16 a 11), cls := cls, linger := arg16 a 14, countdown := arg32 a 3 }

/-- The data of Read Schedule: the Write Schedule arguments and the countdown (R165, R185). -/
def State.scheduleData (s : State) (i : EntryIx) : List Byte :=
  let e := s.schedule[i]
  [byte i.val, byte (flagBit e.enabled 0), byte e.mode.code] ++ be32 e.firstDelay ++ be32 e.period
    ++ be16 e.wake.toNat ++ [byte e.cls.code] ++ be16 e.linger ++ be32 e.countdown

/-- The data of Read Rule (R52, R185). -/
def State.ruleData (s : State) (r : RuleIx) : List Byte :=
  let x := s.rules[r]
  [byte r.val] ++ x.record.image ++ be16 (timerLeft x.suspect) ++ be16 (timerLeft x.quarantine)

/-! ## Status pages and identity -/

/-- The data of Read Identity (R176, R185). -/
def State.identityData (s : State) : List Byte :=
  [0xDB, 0x07, 0x16, 0x01, byte s.strap.val, 128, 16, 7, 8]

/-- A set of branches as a byte, BPn at bit n (R185). -/
def branchBits (k : Branch → Bool) : Byte :=
  byte ((allBranches.map fun b => flagBit (k b) (b.val + 1)).sum)

/-- Page 0 of Read Status (R95, R177, R185). -/
def State.page0 (s : State) : List Byte :=
  [0, byte s.mode.code, byte s.trunk.code,
    byte (flagBit s.wakeLine 0 + flagBit s.requestOverrun 1 + flagBit s.reportsLost 2)]
    ++ be16 s.flags.toNat ++ be16 s.reportMask.toNat ++ be16 s.urgentMask.toNat ++ be32 s.parkClock
    ++ [byte s.deadline, byte s.reports.length, byte s.requests.length, byte s.freeBuffers]
    ++ allPorts.flatMap (fun p => [byte (frameCount s.ports[p].queue), byte (heldCount s.ports[p].queue)])
    ++ [branchBits fun b => s.ports[portOf b].queue.contains .marker, branchBits fun b => s.branches[b].closing]

/-- The six bytes of a branch on page 1 (R133, R185). -/
def BranchState.statusBytes (bs : BranchState) : List Byte :=
  [byte bs.mode.code, byte bs.chatterCount, byte (timerLeft bs.windowTimer), byte bs.cause.code]
    ++ be16 (timerLeft bs.isolationTimer)

/-- Page 1 of Read Status (R133, R185). -/
def State.page1 (s : State) : List Byte :=
  [1] ++ allBranches.flatMap (fun b => s.branches[b].statusBytes) ++ [branchBits fun b => s.branches[b].seen]

/-- Page 2 of Read Status (R151, R185). -/
def State.page2 (s : State) : List Byte :=
  let a := s.account
  [2] ++ be32 a.consumed ++ [byte a.carry] ++ be32 a.remaining ++ be32 a.davg
    ++ [byte (flagBit a.saturated 0 + flagBit a.override 1)] ++ be16 a.vb
    ++ [byte a.level.code, byte a.effective.code, byte a.timer]

/-- Page 3 of Read Status (R151, R185). -/
def State.page3 (s : State) : List Byte :=
  [3] ++ s.budget.bytes ++ be16 s.suspectWindow ++ be16 s.quarantineTime

end Sys2Proof.Machine
end

