-- ==== Sys2Proof/Machine/Classify.lean ====
section
/-! DEFINITION. The classifier: the match tests of chapter 3 and the meaning of CLASSIFIER_TAKES_FRAME. -/

namespace Sys2Proof.Machine

/-- The relation of a comparison operator, on unsigned whole numbers (R41). -/
def Comparison.holds : Comparison → Nat → Nat → Bool
  | .eq, x, y => decide (x = y)
  | .ne, x, y => decide (x ≠ y)
  | .ge, x, y => decide (y ≤ x)
  | .le, x, y => decide (x ≤ y)

/-- The identifier kind test (R38). -/
def KindTest.accepts : KindTest → IdKind → Bool
  | .any, _ => true
  | .base, k => k == .base
  | .extended, k => k == .extended

/-- The format test (R39). -/
def FormatTest.accepts : FormatTest → Format → Bool
  | .any, _ => true
  | .classic, k => k == .classic
  | .fd, k => k == .fd

/-- A lane test (R41): false where the byte does not exist. -/
def LaneTest.holds (t : LaneTest) (payload : List Byte) : Bool :=
  match payload[t.offset]? with
  | none => false
  | some x => t.op.holds (x &&& t.mask).toNat t.operand.toNat

/-- The word of a frame, where it exists (R42). -/
def WordTest.wordOf (t : WordTest) (payload : List Byte) : Option (BitVec 16) :=
  match payload[t.offset]?, payload[t.offset + 1]? with
  | some x, some y => some (if t.lowFirst then y ++ x else x ++ y)
  | _, _ => none

/-- The masked word, where the word exists (R42). -/
def WordTest.masked (t : WordTest) (payload : List Byte) : Option (BitVec 16) :=
  (t.wordOf payload).map (· &&& t.mask)

/-- The word test as a match test (R42): with compare off it neither passes nor fails a frame. -/
def WordTest.accepts (t : WordTest) (payload : List Byte) : Bool :=
  if t.compare then
    match t.masked payload with
    | none => false
    | some w => t.op.holds w.toNat t.operand.toNat
  else true

/-- The word test of a record, passed where it is absent (R43). -/
def RuleRecord.wordAccepts (r : RuleRecord) (payload : List Byte) : Bool :=
  match r.word with
  | none => true
  | some t => t.accepts payload

/-- A record's match fields accept a frame that landed at a port (R37 to R43). -/
def RuleRecord.accepts (r : RuleRecord) (p : Port) (f : Frame) : Bool :=
  r.ingress.getLsbD p.val
    && r.kind.accepts f.kind
    && (f.id &&& r.idMask == r.idValue &&& r.idMask)
    && r.format.accepts f.format
    && decide (r.minLength ≤ f.payload.length)
    && r.lanes.all (·.holds f.payload)
    && r.wordAccepts f.payload

/-- A rule takes part in the walk: valid, enabled and not quarantined (R35). -/
def Rule.takesPart (r : Rule) : Bool := r.record.valid && r.record.enabled && r.quarantine.isNone

/-- The walk: the lowest rule that takes part and accepts the frame (R36). -/
def State.walk (s : State) (p : Port) (f : Frame) : Option RuleIx :=
  allRules.find? fun r => s.rules[r].takesPart && s.rules[r].record.accepts p f

/-- The battery figure a match carries (R45): the masked word, where battery is on and the word exists. -/
def RuleRecord.batteryFigure (r : RuleRecord) (f : Frame) : Option (BitVec 16) :=
  if r.battery then r.word.bind fun t => t.masked f.payload else none

/-- The port set with a port removed (R44). -/
def PortSet.without (x : PortSet) (p : Port) : PortSet := x &&& ~~~(BitVec.twoPow 7 p.val)

/-- What a match hands to admission (R44). -/
def RuleRecord.toMatch (r : RuleRecord) (i : RuleIx) (p : Port) (f : Frame) : Match where
  rule := i
  cls := r.cls
  wake := r.wake
  activity := r.activity
  forward := PortSet.without r.forward p
  hold := r.hold
  confirm := r.confirm
  linger := r.linger
  battery := r.batteryFigure f

/-- A management request: on TP, base, with identifier MREQ (R26). -/
def State.isRequest (s : State) (p : Port) (f : Frame) : Bool :=
  p == trunkPort && f.kind == .base && f.id == Config.mreq s.strap

/-- What the classifier makes of a frame at the moment it takes it (R36, R46, R47). -/
def State.classify (s : State) (p : Port) (f : Frame) : Verdict :=
  if s.isRequest p f then .management
  else
    match s.mode with
    | .unconfigured | .fallback => .transparent s.ports[p].params.forward
    | .drive | .parked =>
      match s.walk p f with
      | some r => .matched (s.rules[r].record.toMatch r p f)
      | none =>
        match s.ports[p].params.noMatch with
        | .pass => .pass s.ports[p].params.forward
        | .drop => .dropped

/-- The round-robin search: the ports in cyclic order from the one after the pointer (R24). -/
def roundRobin (pointer : Port) : List Port := allPorts.map fun i => pointer + 1 + i

/-- The port whose oldest frame is served next (R24). -/
def State.nextPort (s : State) : Option Port :=
  (roundRobin s.pointer).find? fun p => !s.ports[p].landing.isEmpty

/-- Take the oldest landed frame of a port (R24): its mark is cleared when the buffer is left empty (R22), and
the classification begins. -/
def State.take (s : State) (p : Port) (f : Frame) (rest : List Frame) : State :=
  { s.modPort p fun ps => { ps with landing := rest, overrun := ps.overrun && !rest.isEmpty } with
    pointer := p
    classification := some { frame := f, port := p, verdict := s.classify p f } }

/-- CLASSIFIER_TAKES_FRAME (R24), when the classifier is free and a frame is landed. No frame is classified in
Fallback itself (R47). -/
def execClassifierTakesFrame (s : State) : Host.Outcome State Fault Refusal :=
  if s.classification.isSome ∨ s.mode = .fallback then .next s
  else
    match s.nextPort with
    | none => .next s
    | some p =>
      match s.ports[p].landing with
      | [] => .next s
      | f :: rest => .next (s.take p f rest)

end Sys2Proof.Machine
end

