-- ==== Sys2Proof/Machine/Admission.lean ====
section
/-! DEFINITION. Admission (chapter 4), the taking of copies by the queue manager (section 5.1), and the meaning
of CLASSIFICATION_DISPATCH. -/

namespace Sys2Proof.Machine

/-! ## Forward copies -/

/-- The target port's state accepts a copy with the given hold flag (R69, R71). -/
def State.acceptsCopy (s : State) (p : Port) (hold : Bool) : Bool :=
  match branchOf p with
  | none => s.trunk == .active || hold
  | some b =>
    match s.branches[b].mode with
    | .waking | .awake | .draining => true
    | .off | .listen => hold
    | .isolated => false

/-- HOLD_OVERFLOW for a copy of a class: detail 1 is 0 for a dropped copy and 1 for an eviction (R78, R186). -/
def State.holdOverflow (s : State) (p : Port) (evicted : Nat) (cls : WakeClass) : State :=
  s.raise .holdOverflow (some p.val) evicted cls.code

/-- The place of the eviction candidate: the first entry not of class A and not in transmission (R77). -/
def evictionPlace (q : List QueueItem) : Option Nat := q.findIdx? QueueItem.evictable

/-- A class A copy without room (R77): it takes the place of the candidate when the queue holds no more than its
cap, and is dropped otherwise. On a Quiet trunk an unheld entry is a candidate like any other (log entry 29). The
drain of a Draining branch is settled once the copy stands in the queue (log entry 15). -/
def State.evictFor (s : State) (p : Port) (f : Frame) (hold : Bool) : State :=
  match evictionPlace s.ports[p].queue with
  | none => s.holdOverflow p 0 .a
  | some place =>
    if frameCount s.ports[p].queue ≤ s.ports[p].params.holdCap then
      (((s.dropAt p place).enqueue p f .a hold).holdOverflow p 1 .a).settlePort p
    else s.holdOverflow p 0 .a

/-- A copy offered to the queue manager for one target port (R68, R69, R71, R76, R77, R78). -/
def State.offerCopy (s : State) (p : Port) (f : Frame) (cls : WakeClass) (hold : Bool) : State :=
  if s.acceptsCopy p hold then
    if s.queueRoom p && s.poolRoom cls then s.enqueue p f cls hold
    else
      match cls with
      | .a => s.evictFor p f hold
      | .b | .c => s.holdOverflow p 0 cls
  else s

/-- The copies of one dispatch, one port at a time in the order of R68. -/
def State.offerCopies (s : State) (targets : PortSet) (f : Frame) (cls : WakeClass) (hold : Bool) : State :=
  (allPorts.filter fun p => targets.getLsbD p.val).foldl (fun t p => t.offerCopy p f cls hold) s

/-! ## The decision -/

/-- The class-by-level matrix of Parked (R56). -/
def State.matrix (s : State) (cls : WakeClass) : AdmissionOutcome :=
  match cls, s.account.effective with
  | .a, _ => .honour
  | .b, .green | .b, .amber => .honour
  | .b, .red | .b, .exhausted => .deliverOnly
  | .c, .green => if s.reserveCheck then .honour else .deliverOnly
  | .c, .amber => .deliverOnly
  | .c, .red | .c, .exhausted => .drop

/-- The outcome of a matched dispatch: the matrix in Parked, Honour in Drive (R56, R58; log entry 21). -/
def State.outcomeFor (s : State) (cls : WakeClass) : AdmissionOutcome :=
  if s.mode = .parked then s.matrix cls else .honour

/-! ## The work of a submission -/

/-- The effective linger of a wake request, at the level used for the decision (R60). -/
def State.effectiveLinger (s : State) (lvl : Level) (override : Nat) (d : DomainIx) : Nat :=
  capLinger lvl s.budget.lcap (if override = 0 then s.domains[d].defaultLinger else override)

/-- The wake requests of an Honoured submission, in ascending domain index (R61, R62). -/
def State.issueWakes (s : State) (lvl : Level) (wake : DomainSet) (cls : WakeClass) (override : Nat)
    (armed : Option RuleIx) : State :=
  (allDomains.filter fun d => wake.getLsbD d.val).foldl
    (fun t d => t.wake d cls (t.effectiveLinger lvl override d) armed) s

/-- The activity reloads of a submission, in ascending domain index (R61, R64). -/
def State.issueReloads (s : State) (lvl : Level) (activity : DomainSet) : State :=
  (allDomains.filter fun d => activity.getLsbD d.val).foldl
    (fun t d => t.reloadActivity d (capLinger lvl t.budget.lcap t.domains[d].defaultLinger)) s

/-- The battery figure, if the dispatch carries one (R65). -/
def State.issueBattery (s : State) (figure : Option (BitVec 16)) : State :=
  match figure with
  | none => s
  | some vb => s.takeBattery vb

/-- The frame landed on a branch that is in Listen in Parked when admission receives its submission (R73). -/
def State.inListen (s : State) (p : Port) : Bool :=
  match branchOf p with
  | none => false
  | some b => s.mode == .parked && s.branches[b].mode == .listen

/-- The chatter report of a submission that calls for one (R73). -/
def State.issueChatter (s : State) (due : Bool) (p : Port) : State :=
  match branchOf p with
  | none => s
  | some b => if due then s.chatter b else s

/-- The rule that arms the wake requests of a dispatch: in Parked, with confirm yes (R63). -/
def State.armedBy (s : State) (m : Match) : Option RuleIx :=
  if s.mode = .parked ∧ m.confirm = true then some m.rule else none

/-- Honour (R61). -/
def State.honour (s : State) (p : Port) (f : Frame) (m : Match) : State :=
  let lvl := s.account.effective
  let s1 := s.issueWakes lvl m.wake m.cls m.linger (s.armedBy m)
  let s2 := s1.issueReloads lvl m.activity
  let s3 := (s2.offerCopies m.forward f m.cls m.hold).issueBattery m.battery
  s3.issueChatter (s.inListen p && m.wake == 0) p

/-- Deliver-only of a matched frame (R66). -/
def State.deliverOnly (s : State) (p : Port) (f : Frame) (m : Match) : State :=
  let s1 := s.issueReloads s.account.effective m.activity
  let s2 := (s1.offerCopies m.forward f m.cls false).issueBattery m.battery
  s2.issueChatter (s.inListen p) p

/-- Drop of a matched frame (R67). -/
def State.dropMatched (s : State) (p : Port) (m : Match) : State :=
  (s.issueBattery m.battery).issueChatter (s.inListen p) p

/-- A matched dispatch, treated by the mode and level that hold at its receipt (R55 to R58). -/
def State.dispatchMatch (s : State) (p : Port) (f : Frame) (m : Match) : State :=
  match s.outcomeFor m.cls with
  | .honour => s.honour p f m
  | .deliverOnly => s.deliverOnly p f m
  | .drop => s.dropMatched p m

/-- A management request joins the request queue, or is dropped at a full queue (R171). -/
def State.queueRequest (s : State) (payload : List Byte) : State :=
  if s.requests.length < Config.requestDepth then { s with requests := s.requests ++ [payload] }
  else { s with requestOverrun := true }

/-- The dispatch of a classification (R25, R46, R55, R59, R66, R67). -/
def State.dispatch (s : State) (c : Classification) : State :=
  match c.verdict with
  | .management => s.queueRequest c.frame.payload
  | .transparent forward => s.offerCopies forward c.frame .b false
  | .matched m => s.dispatchMatch c.port c.frame m
  | .pass forward => (s.offerCopies forward c.frame .b false).issueChatter (s.inListen c.port) c.port
  | .dropped => s.issueChatter (s.inListen c.port) c.port

/-- CLASSIFICATION_DISPATCH (R25): the classifier is free again at the dispatch. -/
def execClassificationDispatch (s : State) : Host.Outcome State Fault Refusal :=
  match s.classification with
  | none => .next s
  | some c => .next ({ s with classification := none }.dispatch c)

end Sys2Proof.Machine
end

