-- ==== Sys2Proof/Machine/Modes.lean ====
section
/-! DEFINITION. The part modes and the effects of their changes (chapter 1). -/

namespace Sys2Proof.Machine

/-- A branch record going to Awake by an entry effect, whatever its domains do: its drain ends and, if it is
Isolated, it stays as it is (R2, R9). -/
def BranchState.roused (bs : BranchState) : BranchState :=
  if bs.mode = .isolated then bs else { bs.enter .awake with drainTimer := none, closing := false }

/-- Every branch that is not Isolated goes to Awake, its marker withdrawn (R2, R9). -/
def State.rouseBranches (s : State) : State :=
  (s.mapPorts fun _ ps => { ps with queue := ps.queue.filter QueueItem.isFrame }).mapBranches fun _ bs =>
    bs.roused

/-- Entry to Unconfigured (R2, R4). -/
def State.enterUnconfigured (s : State) : State :=
  ({ s with mode := .unconfigured, deadline := Config.configurationDeadline }.rouseBranches).wakeGroup allDomains

/-- A branch record at the entry to Fallback (R5, R94, R124). -/
def BranchState.fallen (bs : BranchState) : BranchState :=
  { bs with mode := .listen, chatterCount := 0, windowTimer := none, isolationTimer := none, cause := .none,
            drainTimer := none, closing := false }

/-- A port front end at the entry to Fallback, its queue apart (R5, R23): TP keeps its discard count. -/
def PortState.fallen (p : Port) (ps : PortState) : PortState :=
  { ps.emptied with discards := if p = trunkPort then ps.discards else 0 }

/-- Every egress queue is flushed (R94). -/
def State.flushQueues (s : State) : State :=
  allPorts.foldl (fun t p => t.purge p fun _ => false) s

/-- Entry to Fallback (R5). The deadline reads 0 (R187), and a classification in flight is abandoned (R25). -/
def State.enterFallback (s : State) : State :=
  let s1 := { s with mode := .fallback, deadline := 0, requests := [], classification := none }
  let s2 := (s1.cut fun _ => true).mapBranches fun _ bs => bs.fallen
  let s3 := s2.flushQueues.mapPorts PortState.fallen
  s3.raise .fallbackEntered none 0 0

/-- A domain record at Park, for the linger Park loads (R8). An Off domain stays Off (log entry 30), and an armed
domain carried through a repeat Park keeps its waker and awaiting mark, as R161 says (log entry 33). -/
def Domain.parked (d : Domain) (linger : Nat) : Domain :=
  match d.state with
  | .on => { d with remaining := linger }
  | .queued | .powerUp => { d with pending := linger }
  | .off | .releasing | .fault => d

/-- A branch brought into line with its domains at Park (R8). A branch already in its rest state does not enter
it anew (log entry 8). No run reaches a Draining branch with a domain in Queued, PowerUp or On; the withdrawal
keeps the marker's law in such a state too. -/
def State.parkBranch (s : State) (b : Branch) : State :=
  if s.branches[b].mode = .isolated then s
  else if s.anyDomainOf b DomainState.waiting then (s.withdrawMarker b).enterBranch b .waking
  else if s.anyDomainOf b (· == .on) then (s.withdrawMarker b).enterBranch b .awake
  else if s.anyDomainOf b (· == .releasing) then s
  else if s.branches[b].mode = s.branches[b].params.rest.mode then s
  else s.returnToRest b

/-- The account restarted by Park (R150). -/
def Account.restarted (a : Account) (b : Budget) : Account :=
  { a with consumed := 0, carry := 0, davg := 16 * b.ibase, saturated := false,
           timer := Config.accountingInterval }

/-- The effects of an accepted Park (R7, R8). -/
def State.parkNow (s : State) : State :=
  let s1 := { s with account := s.account.restarted s.budget, parkClock := 0 }.recompute
  let s2 := { s1 with mode := .parked }.mapSchedule fun _ e =>
    if e.enabled then { e with countdown := e.firstDelay } else e
  let s3 := s2.mapDomains fun d x => x.parked (s2.cappedDefault d)
  allBranches.foldl State.parkBranch s3

/-- The effects of an accepted Depart (R9). Every countdown holds the value it had reached, and one that has come to 0
with its expiry not yet taken holds 0 (R169; log entry 34). -/
def State.departNow (s : State) : State :=
  let s1 := { s with mode := .drive }.rouseBranches.mapBranches fun _ bs => { bs with chatterCount := 0 }
  (s1.mapDomains fun _ d => d.unarmed).wakeGroup allDomains

end Sys2Proof.Machine
end

