-- ==== Sys2Proof/Machine/Timers.lean ====
section
/-! DEFINITION. The expiries, the fault inputs and the one-second step of the time base. An expiry takes place when
its timer runs and its count stands at 0. Where another event has stopped or reloaded the timer first it does not
take place, and its command changes nothing (R102, R109, R142, R160, R169; log entry 5). -/

namespace Sys2Proof.Machine

/-! ## Counts that have reached 0 -/

/-- The configuration deadline has run out in Unconfigured (R4). -/
def State.deadlineDue (s : State) : Bool := s.mode == .unconfigured && s.deadline == 0

/-- A PowerUp domain's settle timer has run out (R105). -/
def State.settleDue (s : State) (d : DomainIx) : Bool :=
  s.domains[d].state == .powerUp && s.domains[d].settle == 0

/-- An On domain's linger has run out in Parked (R107, R108). -/
def State.lingerDue (s : State) (d : DomainIx) : Bool :=
  s.mode == .parked && s.domains[d].state == .on && s.domains[d].remaining == 0

/-- A Draining branch's drain timer has run out (R91). -/
def State.drainDue (s : State) (b : Branch) : Bool :=
  s.branches[b].mode == .draining && s.branches[b].drainTimer == some 0

/-- A branch's chatter window has run out (R126). -/
def State.windowDue (s : State) (b : Branch) : Bool := s.branches[b].windowTimer == some 0

/-- An Isolated branch's isolation timer has run out (R130). -/
def State.isolationDue (s : State) (b : Branch) : Bool :=
  s.branches[b].mode == .isolated && s.branches[b].isolationTimer == some 0

/-- A rule's suspect timer has run out (R158). -/
def State.suspectDue (s : State) (r : RuleIx) : Bool := s.rules[r].suspect == some 0

/-- A rule's quarantine timer has run out (R158). -/
def State.quarantineDue (s : State) (r : RuleIx) : Bool := s.rules[r].quarantine == some 0

/-- An enabled entry's countdown has run out in Parked (R166). -/
def State.scheduleDue (s : State) (e : EntryIx) : Bool :=
  s.mode == .parked && s.schedule[e].enabled && s.schedule[e].countdown == 0

/-- The accounting timer has run out (R137). -/
def State.accountingDue (s : State) : Bool := s.account.timer == 0

/-- A frame entry's deadline has passed while it is not in transmission (R82). -/
def QueueItem.overdue : QueueItem → Bool
  | .frame e => e.deadline == 0 && !e.sending
  | .marker => false

/-! ## Expiries of the configuration deadline, of domains, drains and entries -/

/-- CONFIGURATION_DEADLINE_EXPIRY (R4). -/
def execConfigurationDeadlineExpiry (s : State) : Host.Outcome State Fault Refusal :=
  .next (if s.deadlineDue then s.enterFallback else s)

/-- A domain fault input takes a level (R112). -/
def State.setFaultInput (s : State) (d : DomainIx) (level : Bool) : State :=
  { s with faultInputs :=
      if level then s.faultInputs ||| BitVec.twoPow 16 d.val
      else s.faultInputs &&& ~~~(BitVec.twoPow 16 d.val) }

/-- FAULT_INPUT_ASSERTS (R112): an input that asserts while the enable is on puts the domain in Fault, and the
arbiter offers a freed place. With the enable off only the pin changes, also where a linger expiry taken first has
turned it off (log entry 36). -/
def execFaultInputAsserts (d : DomainIx) (level : Bool) (s : State) : Host.Outcome State Fault Refusal :=
  let s1 := s.setFaultInput d level
  if level && s.domains[d].state.enabled then .next (s1.enterFault d) else .next s1

/-- A PowerUp domain goes On with its pending linger (R105). -/
def Domain.settled (d : Domain) : Domain :=
  { d with state := .on, settle := 0, remaining := d.pending, pending := 0, pendingClass := .c }

/-- SETTLE_EXPIRY (R105). -/
def execSettleExpiry (d : DomainIx) (s : State) : Host.Outcome State Fault Refusal :=
  .next (if s.settleDue d then ((s.modDomain d Domain.settled).followDomain d).runArbiter else s)

/-- The confirmation step of a linger expiry (R108, R157): an awaiting domain charges the rule its waker names,
and its waker and mark are cleared whether or not a charge was made. -/
def State.judge (s : State) (d : DomainIx) : State :=
  let s1 :=
    match s.domains[d].awaiting, s.domains[d].waker with
    | true, some r => s.charge r d
    | _, _ => s
  s1.modDomain d Domain.unarmed

/-- Another domain of the branch is in Queued, PowerUp or On (R108). -/
def State.othersKeep (s : State) (b : Branch) (d : DomainIx) : Bool :=
  allDomains.any fun i =>
    i != d && s.domains[i].branch == some b && (s.domains[i].state.waiting || s.domains[i].state == .on)

/-- The destination of a domain at its linger expiry (R108): Off, or Releasing with its branch Draining. -/
def State.lingerOut (s : State) (d : DomainIx) : State :=
  match s.domains[d].branch with
  | none => s.modDomain d Domain.switchedOff
  | some b =>
    if s.othersKeep b d then s.modDomain d Domain.switchedOff
    else (s.modDomain d fun x => { x with state := .releasing, remaining := 0 }).placeMarker b

/-- LINGER_EXPIRY (R108). -/
def execLingerExpiry (d : DomainIx) (s : State) : Host.Outcome State Fault Refusal :=
  .next (if s.lingerDue d then (s.judge d).lingerOut d else s)

/-- DRAIN_LIMIT_EXPIRY (R91), with the marker standing: the closing mark is set, and the closing follows at once
when no attempt is in flight. -/
def execDrainLimitExpiry (b : Branch) (s : State) : Host.Outcome State Fault Refusal :=
  .next
    (if s.drainDue b then
      (s.modBranch b fun bs => { bs with drainTimer := none, closing := true }).settleDrain b
    else s)

/-- DEADLINE_EXPIRY (R82) of the entry at a place of a port's queue: an entry not in transmission leaves at once;
one in transmission stays, its count 0, until its attempt ends. -/
def execDeadlineExpiry (p : Port) (place : Nat) (s : State) : Host.Outcome State Fault Refusal :=
  .next (if s.ports[p].queue[place]?.any QueueItem.overdue then (s.dropAt p place).settlePort p else s)

/-! ## The accounting expiry -/

/-- The draw sum S (R137). -/
def State.drawSum (s : State) : Nat :=
  s.budget.ibase
    + (allDomains.map fun d => if s.domains[d].seen then s.domains[d].ia else 0).sum
    + (allBranches.map fun b => if s.branches[b].seen then s.branches[b].params.current else 0).sum

/-- The charge and the carry of an interval (R138), and the draw average (R140), whose division by 2^k rounds
toward minus infinity. Saturation is judged by the caller. -/
def Account.charged (a : Account) (b : Budget) (sum : Nat) : Account :=
  let t := sum + a.carry
  let c := a.consumed + t / 4
  let d : Int := 16 * (sum : Int) - (a.davg : Int)
  { a with
    consumed := min c Config.max32
    carry := t % 4
    saturated := a.saturated || decide (Config.max32 < c)
    davg := ((a.davg : Int) + d.fdiv (2 ^ b.shift)).toNat }

/-- The marks of what is no longer powered are cleared (R141). -/
def State.clearMarks (s : State) : State :=
  (s.mapDomains fun _ d => { d with seen := d.seen && d.state.enabled }).mapBranches fun _ bs =>
    { bs with seen := bs.seen && !(bs.mode.atRest || bs.mode == .isolated) }

/-- The work of an expiry that takes effect, in the order of R137. -/
def State.accountNow (s : State) : State :=
  let a := s.account.charged s.budget s.drawSum
  let s1 := { s with account := a }
  let s2 := if a.saturated && !s.account.saturated then s1.raise .accountSaturated none 0 0 else s1
  s2.clearMarks.recompute

/-- The accounting timer is loaded again (R137). -/
def State.reloadAccounting (s : State) : State :=
  { s with account := { s.account with timer := Config.accountingInterval } }

/-- ACCOUNTING_EXPIRY (R137): in Drive the expiry takes no effect (R149). -/
def execAccountingExpiry (s : State) : Host.Outcome State Fault Refusal :=
  .next
    (if s.accountingDue then
      if s.mode = .drive then s.reloadAccounting else s.reloadAccounting.accountNow
    else s)

/-! ## Branch, rule and schedule timers -/

/-- CHATTER_WINDOW_EXPIRY (R126): the count is cleared and the window reloaded. -/
def execChatterWindowExpiry (b : Branch) (s : State) : Host.Outcome State Fault Refusal :=
  .next (if s.windowDue b then s.modBranch b BranchState.freshWindow else s)

/-- ISOLATION_TIMER_EXPIRY (R130). -/
def execIsolationTimerExpiry (b : Branch) (s : State) : Host.Outcome State Fault Refusal :=
  .next (if s.isolationDue b then s.leaveIsolated b else s)

/-- SUSPECT_TIMER_EXPIRY (R158): the rule's suspect state is cleared. -/
def execSuspectTimerExpiry (r : RuleIx) (s : State) : Host.Outcome State Fault Refusal :=
  .next (if s.suspectDue r then s.modRule r fun x => { x with suspect := none } else s)

/-- QUARANTINE_TIMER_EXPIRY (R158): the rule's quarantine state is cleared. -/
def execQuarantineTimerExpiry (r : RuleIx) (s : State) : Host.Outcome State Fault Refusal :=
  .next (if s.quarantineDue r then s.modRule r fun x => { x with quarantine := none } else s)

/-- The end of a schedule entry's expiry (R168). -/
def ScheduleEntry.fired (e : ScheduleEntry) : ScheduleEntry :=
  match e.mode with
  | .repeating => { e with countdown := e.period }
  | .oneShot => { e with enabled := false, countdown := 0 }

/-- A scheduled wake at admission (R74, R167): on Honour its unarmed wake requests, otherwise SCHEDULE_SKIPPED. -/
def State.scheduledWake (s : State) (i : EntryIx) : State :=
  let e := s.schedule[i]
  let lvl := s.account.effective
  match s.matrix e.cls with
  | .honour => s.issueWakes lvl e.wake e.cls e.linger none
  | .deliverOnly => s.raise .scheduleSkipped (some i.val) AdmissionOutcome.deliverOnly.code lvl.code
  | .drop => s.raise .scheduleSkipped (some i.val) AdmissionOutcome.drop.code lvl.code

/-- SCHEDULE_EXPIRY (R167). -/
def execScheduleExpiry (i : EntryIx) (s : State) : Host.Outcome State Fault Refusal :=
  .next (if s.scheduleDue i then (s.scheduledWake i).modEntry i ScheduleEntry.fired else s)

/-! ## The one-second step -/

/-- A running timer reduced by one unit. -/
def tickDown (t : Option Nat) : Option Nat := t.map (· - 1)

/-- A frame entry's deadline count reduced by one (R82). -/
def QueueItem.aged : QueueItem → QueueItem
  | .frame e => .frame { e with deadline := e.deadline - 1 }
  | .marker => .marker

/-- A schedule entry's countdown in Parked: reduced by one while the entry is enabled (R166). -/
def ScheduleEntry.counted (e : ScheduleEntry) : ScheduleEntry :=
  if e.enabled then { e with countdown := e.countdown - 1 } else e

/-- A one-second step of the time base: the park clock (R15) and every count of seconds that is reduced at it,
the suspect and quarantine timers (R158), the isolation and window timers (R126, R130), the deadlines (R82), the
countdowns (R166) and the configuration deadline (R187). A count that reaches 0 is then due. -/
def State.secondStep (s : State) : State :=
  let s1 :=
    { s with
      parkClock := min Config.max32 (s.parkClock + 1)
      deadline := if s.mode = PartMode.unconfigured then s.deadline - 1 else s.deadline }
  let s2 := s1.mapRules fun _ r =>
    { r with suspect := tickDown r.suspect, quarantine := tickDown r.quarantine }
  let s3 := s2.mapBranches fun _ bs =>
    { bs with isolationTimer := tickDown bs.isolationTimer, windowTimer := tickDown bs.windowTimer }
  let s4 := s3.mapPorts fun _ ps => { ps with queue := ps.queue.map QueueItem.aged }
  if s.mode = .parked then s4.mapSchedule fun _ e => e.counted else s4

/-- PARK_CLOCK_ADVANCE (R15): a one-second step of the time base. -/
def execParkClockAdvance (s : State) : Host.Outcome State Fault Refusal :=
  .next s.secondStep

end Sys2Proof.Machine
end

