-- ==== Sys2Proof/Machine/Requests.lean ====
section
/-! DEFINITION. The management unit's requests (sections 11.1 to 11.3): the execution of the request at the head
of the request queue, and the meaning of each request row. -/

namespace Sys2Proof.Machine

/-! ## Execution -/

/-- The row of Force Domain by its action. A Force Domain request without a valid action is refused under
FORCE_DOMAIN_ON's row (log entry 7). -/
def forceRow (args : List Byte) : Instr :=
  match arg8 args 1 with
  | 1 => .forceDomainOff
  | 2 => .clearFault
  | _ => .forceDomainOn

/-- The row that executes a request, by its command code (R175). -/
def rowOf (req : List Byte) : Instr :=
  match req with
  | [] => .emptyRequest
  | code :: rest =>
    match code.toNat with
    | 0x01 => .readIdentity
    | 0x02 => .readStatus
    | 0x03 => .clearConditions
    | 0x04 => .setReportMasks
    | 0x05 => .warmReset
    | 0x10 => .writeRule
    | 0x11 => .readRule
    | 0x12 => .setRuleEnable
    | 0x13 => .releaseQuarantine
    | 0x14 => .writeMonitor
    | 0x20 => .writeDomain
    | 0x21 => .readDomain
    | 0x22 => forceRow (rest.drop 1)
    | 0x23 => .setInrushLimit
    | 0x30 => .writePort
    | 0x31 => .readPort
    | 0x32 => .releasePort
    | 0x40 => .writeBudget
    | 0x50 => .writeSchedule
    | 0x51 => .readSchedule
    | 0x60 => .park
    | 0x61 => .depart
    | _ => .unknownCommand

/-- What a command does with its arguments: the new state and the data of its response, or the result it is
refused with. -/
abbrev Action := List Byte → State → Except Result (State × List Byte)

/-- The modes of a command marked "all" in R175: every mode in which a request can be executed (log entry
19). -/
def anyMode (m : PartMode) : Bool := m != .fallback

/-- The request leaves the queue and its response is placed in the slot (R172, R174): code, tag, result, data. -/
def State.respond (s : State) (code tag : Byte) (r : Result) (data : List Byte) : State :=
  { s with
    requests := s.requests.tail
    response := some { bytes := [code, tag, byte r.code] ++ data, attempts := 0 } }

/-- A request of an assigned command, checked in the order of R173: no tag, too short, wrong mode, then the
command's own checks. A refused request changes nothing. -/
def State.runRequest (s : State) (req : List Byte) (nargs : Nat) (modes : PartMode → Bool) (act : Action) : State :=
  match req with
  | [] => s
  | [code] => s.respond code 0 .badValue []
  | code :: tag :: args =>
    if args.length < nargs then s.respond code tag .badValue []
    else if modes s.mode then
      match act args s with
      | .ok (s1, data) => s1.respond code tag .done data
      | .error r => s.respond code tag r []
    else s.respond code tag .wrongMode []

/-- The management unit takes the request at the head of its queue when the response slot is empty (R172) and no
warm reset is awaited (R13). -/
def State.headRequest (s : State) : Option (List Byte) :=
  if s.response = none ∧ s.warmResetPending = false then s.requests.head? else none

/-- Execute the head request if it is one of the given row; otherwise the step does not arise. -/
def State.execute (s : State) (row : Instr) (nargs : Nat) (modes : PartMode → Bool) (act : Action) : State :=
  match s.headRequest with
  | none => s
  | some req => if rowOf req = row then s.runRequest req nargs modes act else s

/-- A checked operand, or the result it is refused with. -/
def need {α : Type} (r : Result) : Option α → Except Result α
  | none => .error r
  | some x => .ok x

/-! ## Identity, status, conditions and reset -/

/-- EMPTY_REQUEST (R172): a request of length 0 is discarded at its turn without check or response. -/
def execEmptyRequest (s : State) : Host.Outcome State Fault Refusal :=
  match s.headRequest with
  | some [] => .next { s with requests := s.requests.tail }
  | _ => .next s

/-- The answer to an unassigned command code (R173): UNKNOWN, with the tag byte 0 where the request has none. -/
def State.answerUnknown (s : State) (req : List Byte) : State :=
  match req with
  | [] => s
  | [code] => s.respond code 0 .unknown []
  | code :: tag :: _ => s.respond code tag .unknown []

/-- UNKNOWN_COMMAND (R173). -/
def execUnknownCommand (s : State) : Host.Outcome State Fault Refusal :=
  match s.headRequest with
  | none => .next s
  | some req => if rowOf req = .unknownCommand then .next (s.answerUnknown req) else .next s

/-- READ_IDENTITY (R176). -/
def execReadIdentity (s : State) : Host.Outcome State Fault Refusal :=
  .next (s.execute .readIdentity 0 anyMode fun _ s => .ok (s, s.identityData))

/-- The page of a Read Status, or none above 3 (R177). -/
def State.statusPage (s : State) (n : Nat) : Option (List Byte) :=
  match n with
  | 0 => some s.page0
  | 1 => some s.page1
  | 2 => some s.page2
  | 3 => some s.page3
  | _ => none

/-- The action of Read Status (R177): the page as it stands, then the request-overrun flag cleared, whatever the page
(log entry 31). -/
def actReadStatus : Action := fun a s => do
  let page ← need .badValue (s.statusPage (arg8 a 0))
  pure ({ s with requestOverrun := false }, page)

/-- READ_STATUS (R177). -/
def execReadStatus (s : State) : Host.Outcome State Fault Refusal :=
  .next (s.execute .readStatus 1 anyMode actReadStatus)

/-- A kind set in arguments: bits 10 to 15 are ignored (R183). -/
def kindSetOf (a : List Byte) (i : Nat) : KindSet := BitVec.ofNat 10 (arg16 a i)

/-- The action of Clear Conditions (R179). -/
def actClearConditions : Action := fun a s =>
  .ok ({ s with flags := s.flags &&& ~~~(kindSetOf a 0) }, be16 s.flags.toNat)

/-- CLEAR_CONDITIONS (R179). -/
def execClearConditions (s : State) : Host.Outcome State Fault Refusal :=
  .next (s.execute .clearConditions 2 anyMode actClearConditions)

/-- The action of Set Report Masks (R178). -/
def actSetReportMasks : Action := fun a s =>
  .ok ({ s with reportMask := kindSetOf a 0, urgentMask := kindSetOf a 2 }, [])

/-- SET_REPORT_MASKS (R178). -/
def execSetReportMasks (s : State) : Host.Outcome State Fault Refusal :=
  .next (s.execute .setReportMasks 4 anyMode actSetReportMasks)

/-- WARM_RESET (R13): answered DONE; the reset follows once the response has left the slot. -/
def execWarmReset (s : State) : Host.Outcome State Fault Refusal :=
  .next (s.execute .warmReset 0 anyMode fun _ s => .ok ({ s with warmResetPending := true }, []))

/-! ## Rules and the monitor -/

/-- An accepted Write Rule at its completion (R49, R51). -/
def State.putRule (s : State) (r : RuleIx) (x : RuleRecord) : State :=
  ((s.modRule r fun _ => { record := x, suspect := none, quarantine := none }).clearWakers r).dropConfirm r

/-- The action of Write Rule (R48, R49). -/
def actWriteRule : Action := fun a s => do
  let r ← need .badIndex (index? 128 (arg8 a 0))
  let x ← need .badValue (ruleOf (a.drop 1))
  pure (s.putRule r x, [])

/-- WRITE_RULE (R48, R49). -/
def execWriteRule (s : State) : Host.Outcome State Fault Refusal :=
  .next (s.execute .writeRule 44 anyMode actWriteRule)

/-- The action of Read Rule (R52). -/
def actReadRule : Action := fun a s => do
  let r ← need .badIndex (index? 128 (arg8 a 0))
  pure (s, s.ruleData r)

/-- READ_RULE (R52). -/
def execReadRule (s : State) : Host.Outcome State Fault Refusal :=
  .next (s.execute .readRule 1 anyMode actReadRule)

/-- An accepted Set Rule Enable at its completion (R50, R51): no also clears the wakers that name the rule. -/
def State.setEnable (s : State) (r : RuleIx) (on : Bool) : State :=
  let s1 := s.modRule r fun x => { x with record := { x.record with enabled := on } }
  if on then s1 else (s1.clearWakers r).dropConfirm r

/-- The action of Set Rule Enable (R50). -/
def actSetRuleEnable : Action := fun a s => do
  let r ← need .badIndex (index? 128 (arg8 a 0))
  let on ← need .badValue (boolOf (arg8 a 1))
  pure (s.setEnable r on, [])

/-- SET_RULE_ENABLE (R50). -/
def execSetRuleEnable (s : State) : Host.Outcome State Fault Refusal :=
  .next (s.execute .setRuleEnable 2 anyMode actSetRuleEnable)

/-- The action of Release Quarantine (R159). -/
def actReleaseQuarantine : Action := fun a s => do
  let r ← need .badIndex (index? 128 (arg8 a 0))
  pure (s.modRule r fun x => { x with suspect := none, quarantine := none }, [])

/-- RELEASE_QUARANTINE (R159). -/
def execReleaseQuarantine (s : State) : Host.Outcome State Fault Refusal :=
  .next (s.execute .releaseQuarantine 1 anyMode actReleaseQuarantine)

/-- The action of Write Monitor (R154). -/
def actWriteMonitor : Action := fun a s =>
  if arg16 a 0 = 0 ∨ arg16 a 2 = 0 then .error .badValue
  else .ok ({ s with suspectWindow := arg16 a 0, quarantineTime := arg16 a 2 }, [])

/-- WRITE_MONITOR (R154). -/
def execWriteMonitor (s : State) : Host.Outcome State Fault Refusal :=
  .next (s.execute .writeMonitor 4 anyMode actWriteMonitor)

/-! ## Domains -/

/-- A domain with its four parameters replaced (R98). -/
def Domain.withParams (d : Domain) (x : DomainParams) : Domain :=
  { d with branch := x.branch, ia := x.ia, settleTime := x.settleTime, defaultLinger := x.defaultLinger }

/-- The action of Write Domain (R98): a change of branch is refused in Queued, PowerUp, On and Releasing. -/
def actWriteDomain : Action := fun a s => do
  let d ← need .badIndex (index? 16 (arg8 a 0))
  let x ← need .badValue (domainOf a)
  if x.branch ≠ s.domains[d].branch ∧ s.domains[d].state.active = true then .error .wrongState
  else pure (s.modDomain d fun y => y.withParams x, [])

/-- WRITE_DOMAIN (R98). -/
def execWriteDomain (s : State) : Host.Outcome State Fault Refusal :=
  .next (s.execute .writeDomain 7 anyMode actWriteDomain)

/-- The action of Read Domain (R119). -/
def actReadDomain : Action := fun a s => do
  let d ← need .badIndex (index? 16 (arg8 a 0))
  pure (s, s.domainData d)

/-- READ_DOMAIN (R119). -/
def execReadDomain (s : State) : Host.Outcome State Fault Refusal :=
  .next (s.execute .readDomain 1 anyMode actReadDomain)

/-- Clear Fault on a domain (R116): an asserted input refuses it in Fault, and any other state is unchanged. -/
def State.clearFault (s : State) (d : DomainIx) : Except Result State :=
  if s.domains[d].state = .fault then
    if s.faultInputs.getLsbD d.val then .error .wrongState
    else .ok ((s.modDomain d fun x => { x with state := .off }).followDomain d)
  else .ok s

/-- The action of Force Domain (R114, R115, R116). -/
def actForceDomain : Action := fun a s => do
  let d ← need .badIndex (index? 16 (arg8 a 0))
  match arg8 a 1 with
  | 0 => pure (s.wake d .a (s.cappedDefault d) none, [])
  | 1 => pure (s.switchOff d, [])
  | 2 => do
    let s1 ← s.clearFault d
    pure (s1, [])
  | _ => .error .badValue

/-- FORCE_DOMAIN_ON (R114). -/
def execForceDomainOn (s : State) : Host.Outcome State Fault Refusal :=
  .next (s.execute .forceDomainOn 2 anyMode actForceDomain)

/-- FORCE_DOMAIN_OFF (R115). -/
def execForceDomainOff (s : State) : Host.Outcome State Fault Refusal :=
  .next (s.execute .forceDomainOff 2 anyMode actForceDomain)

/-- CLEAR_FAULT (R116). -/
def execClearFault (s : State) : Host.Outcome State Fault Refusal :=
  .next (s.execute .clearFault 2 anyMode actForceDomain)

/-- The action of Set Inrush Limit (R106). -/
def actSetInrushLimit : Action := fun a s =>
  if arg8 a 0 < 1 ∨ 4 < arg8 a 0 then .error .badValue
  else if s.powerUpCount ≠ 0 then .error .wrongState
  else .ok ({ s with inrushLimit := arg8 a 0 }.runArbiter, [])

/-- SET_INRUSH_LIMIT (R106). -/
def execSetInrushLimit (s : State) : Host.Outcome State Fault Refusal :=
  .next (s.execute .setInrushLimit 1 anyMode actSetInrushLimit)

/-! ## Ports -/

/-- The action of Write Port (R18, R19): all the fields the port holds, in one step. -/
def actWritePort : Action := fun a s => do
  let p ← need .badIndex (index? 7 (arg8 a 0))
  let x ← need .badValue (portParamsOf p a)
  let s1 := s.modPort p fun ps => { ps with params := x }
  match branchOf p with
  | none => do
    let t ← need .badValue (silenceOf a)
    pure ({ s1 with silenceTime := t }, [])
  | some b => do
    let y ← need .badValue (branchParamsOf a)
    pure (s1.modBranch b fun bs => { bs with params := y }, [])

/-- WRITE_PORT (R18, R19). -/
def execWritePort (s : State) : Host.Outcome State Fault Refusal :=
  .next (s.execute .writePort 15 anyMode actWritePort)

/-- The action of Read Port (R18). -/
def actReadPort : Action := fun a s => do
  let p ← need .badIndex (index? 7 (arg8 a 0))
  pure (s, s.portData p)

/-- READ_PORT (R18). -/
def execReadPort (s : State) : Host.Outcome State Fault Refusal :=
  .next (s.execute .readPort 1 anyMode actReadPort)

/-- The action of Release Port (R131): TP is never Isolated. -/
def actReleasePort : Action := fun a s => do
  let p ← need .badIndex (index? 7 (arg8 a 0))
  match branchOf p with
  | none => .error .wrongState
  | some b => if s.branches[b].mode = .isolated then pure (s.leaveIsolated b, []) else .error .wrongState

/-- RELEASE_PORT (R131). -/
def execReleasePort (s : State) : Host.Outcome State Fault Refusal :=
  .next (s.execute .releasePort 1 anyMode actReleasePort)

/-! ## Budget, schedule and part modes -/

/-- The action of Write Budget (R135). -/
def actWriteBudget : Action := fun a s => do
  let b ← need .badValue (budgetOf a)
  pure ({ s with budget := b }.recompute, [])

/-- WRITE_BUDGET (R135). -/
def execWriteBudget (s : State) : Host.Outcome State Fault Refusal :=
  .next (s.execute .writeBudget 20 anyMode actWriteBudget)

/-- The action of Write Schedule (R164). -/
def actWriteSchedule : Action := fun a s => do
  let i ← need .badIndex (index? 8 (arg8 a 0))
  let e ← need .badValue (scheduleOf a)
  pure (s.modEntry i fun _ => e, [])

/-- WRITE_SCHEDULE (R164). -/
def execWriteSchedule (s : State) : Host.Outcome State Fault Refusal :=
  .next (s.execute .writeSchedule 16 anyMode actWriteSchedule)

/-- The action of Read Schedule (R165). -/
def actReadSchedule : Action := fun a s => do
  let i ← need .badIndex (index? 8 (arg8 a 0))
  pure (s, s.scheduleData i)

/-- READ_SCHEDULE (R165). -/
def execReadSchedule (s : State) : Host.Outcome State Fault Refusal :=
  .next (s.execute .readSchedule 1 anyMode actReadSchedule)

/-- PARK (R7, R8). -/
def execPark (s : State) : Host.Outcome State Fault Refusal :=
  .next (s.execute .park 0 anyMode fun _ s => .ok (s.parkNow, []))

/-- The modes in which Depart is accepted (R9, R175). -/
def departModes (m : PartMode) : Bool := m == .unconfigured || m == .parked

/-- DEPART (R9). -/
def execDepart (s : State) : Host.Outcome State Fault Refusal :=
  .next (s.execute .depart 0 departModes fun _ s => .ok (s.departNow, []))

end Sys2Proof.Machine
end

