-- ==== Sys2Proof/Machine/Clock.lean ====
section
/-! DEFINITION. What the part does by itself while no command waits: the time base, and the choice of the next
step that is due (log entries 1 and 2). -/

namespace Sys2Proof.Machine

/-! ## The time base -/

/-- The counts of 1 ms (R105, R137): the settle timers of PowerUp domains and the accounting timer. -/
def State.msStep (s : State) : State :=
  { s.mapDomains fun _ d => if d.state = .powerUp then { d with settle := d.settle - 1 } else d with
    account := { s.account with timer := s.account.timer - 1 } }

/-- The counts of 10 ms (R86): the drain timers. -/
def State.tenMsStep (s : State) : State :=
  s.mapBranches fun _ bs => { bs with drainTimer := tickDown bs.drainTimer }

/-- The counts of 100 ms: the silence timer (R31), and in Parked the remaining lingers of On domains (R107). -/
def State.hundredMsStep (s : State) : State :=
  let s1 := { s with silence := tickDown s.silence }
  if s.mode = .parked then
    s1.mapDomains fun _ d => if d.state = .on then { d with remaining := d.remaining - 1 } else d
  else s1

/-- One millisecond of the time base. The longer steps fall on the multiples of their length within the second
(log entry 2). -/
def State.advance (s : State) : State :=
  let n := s.phase + 1
  let s1 := s.msStep
  let s2 := if n % 10 = 0 then s1.tenMsStep else s1
  let s3 := if n % 100 = 0 then s2.hundredMsStep else s2
  if n % 1000 = 0 then { s3.secondStep with phase := 0 } else { s3 with phase := n }

/-! ## Steps that are due -/

/-- The first expiry of the list whose element meets a test. -/
def firstDue {α : Type} (xs : List α) (test : α → Bool) (cmd : α → Instr) : Option Instr :=
  (xs.find? test).map cmd

/-- The first deadline that has passed for an entry not in transmission (R82). -/
def State.dueDeadline (s : State) : Option Instr :=
  allPorts.findSome? fun p => (s.ports[p].queue.findIdx? QueueItem.overdue).map (Instr.deadlineExpiry p)

/-- The expiries of timers that have reached 0, in a fixed order (log entry 1). -/
def State.dueExpiries (s : State) : List (Option Instr) :=
  [ firstDue allDomains s.settleDue .settleExpiry,
    firstDue allDomains s.lingerDue .lingerExpiry,
    firstDue allBranches s.drainDue .drainLimitExpiry,
    if s.silenceDue then some .silenceTimerExpiry else none,
    firstDue allBranches s.windowDue .chatterWindowExpiry,
    firstDue allBranches s.isolationDue .isolationTimerExpiry,
    firstDue allRules s.suspectDue .suspectTimerExpiry,
    firstDue allRules s.quarantineDue .quarantineTimerExpiry,
    firstDue allEntries s.scheduleDue .scheduleExpiry,
    if s.accountingDue then some .accountingExpiry else none,
    if s.deadlineDue then some .configurationDeadlineExpiry else none,
    s.dueDeadline ]

/-- The port's transmitter can begin an attempt (R27, R30, R91). -/
def State.canBegin (s : State) (p : Port) : Bool :=
  let headReady :=
    match s.ports[p].queue with
    | .frame e :: _ => decide (e.attempts < Config.attemptLimit)
    | _ => false
  s.ports[p].flight.isNone &&
    match branchOf p with
    | none =>
      match s.response with
      | some r => decide (r.attempts < Config.attemptLimit)
      | none =>
        s.trunk == .active &&
          match s.reports with
          | r :: _ => decide (r.attempts < Config.attemptLimit)
          | [] => headReady
    | some b => s.transmits p && !s.branches[b].closing && headReady

/-- The steps the part takes by itself that are enabled, in a fixed order (log entry 1). -/
def State.dueSteps (s : State) : List (Option Instr) :=
  [ if s.warmResetPending = true ∧ s.response = none then some (.warmResetTakesPlace s.strapPins) else none ]
    ++ s.dueExpiries
    ++ [ s.headRequest.map rowOf,
         if s.classification.isSome then some .classificationDispatch else none,
         if s.classification.isNone ∧ s.mode ≠ .fallback ∧ s.nextPort.isSome then some .classifierTakesFrame
         else none,
         firstDue allPorts s.canBegin .transmissionAttempt ]

/-- The next step the part takes by itself, if one is due. -/
def State.nextStep (s : State) : Option Instr := s.dueSteps.findSome? id

end Sys2Proof.Machine
end

