-- ==== Sys2Proof/WellFormed.lean ====
section
/-! DEFINITION. Which command operands describe something the bus can bring (R16). Every other operand is
bounded by its type. -/

namespace Sys2Proof

/-- The payload lengths an FD frame may have (R16). -/
def fdLengths : List Nat := [0, 1, 2, 3, 4, 5, 6, 7, 8, 12, 16, 20, 24, 32, 48, 64]

/-- A payload length allowed by the format (R16). -/
def Format.allows : Format → Nat → Bool
  | .classic, n => decide (n ≤ 8)
  | .fd, n => fdLengths.contains n

/-- A base identifier has eleven bits (R16). -/
def IdKind.allows : IdKind → BitVec 29 → Bool
  | .base, id => decide (id.toNat ≤ 0x7FF)
  | .extended, _ => true

/-- The contents of a data frame as R16 lists them. -/
def Frame.wf (f : Frame) : Bool :=
  f.kind.allows f.id && f.format.allows f.payload.length

/-- A command whose operands the part can meet. -/
def Instr.wf : Instr → Bool
  | .frameReception _ f => f.wf
  | _ => true

end Sys2Proof
end

