-- ==== Sys2Proof/Machine/Reception.lean ====
section
/-! DEFINITION. Reception (section 2.3): the meanings of FRAME_RECEPTION and REMOTE_FRAME. -/

namespace Sys2Proof.Machine

/-- The chattered frame of packet babble or of a drop at a full landing buffer (R20, R22); TP has none. -/
def State.chatterAt (s : State) (p : Port) : State :=
  match branchOf p with
  | none => s
  | some b => s.chatter b

/-- On TP every completed reception makes the trunk Active (R31). -/
def State.heardAt (s : State) (p : Port) : State :=
  if p = trunkPort then s.trunkHeard else s

/-- A frame over the port's maximum payload (R20). -/
def State.packetBabble (s : State) (p : Port) : State :=
  (s.heardAt p).chatterAt p

/-- A frame lands (R21): it joins the buffer, TP's landing makes the trunk Active, a branch's gives a reception
notice, and in Fallback it ends Fallback (R6). -/
def State.land (s : State) (p : Port) (f : Frame) : State :=
  let s1 := (s.modPort p fun ps => { ps with landing := ps.landing ++ [f] }).heardAt p
  let s2 := match branchOf p with
    | none => s1
    | some b => s1.receptionNotice b
  if s.mode = .fallback then s2.enterUnconfigured else s2

/-- LANDING_OVERRUN at a drop, if the overrun-reported mark is clear (R22). -/
def State.reportOverrun (s : State) (p : Port) : State :=
  if s.ports[p].overrun then s
  else (s.modPort p fun ps => { ps with overrun := true }).raise .landingOverrun (some p.val) 0 0

/-- A frame dropped at a full landing buffer (R22). The overrun is reported before the chattered frame is
counted (log entry 9). -/
def State.dropAtLanding (s : State) (p : Port) : State :=
  ((s.heardAt p).reportOverrun p).chatterAt p

/-- The reception of a data frame at a port that receives (R20, R21, R22). -/
def State.receive (s : State) (p : Port) (f : Frame) : State :=
  if s.ports[p].params.maxPayload < f.payload.length then s.packetBabble p
  else if s.ports[p].landing.length < Config.landingDepth then s.land p f
  else s.dropAtLanding p

/-- FRAME_RECEPTION (R20). A branch Off or Isolated does not see the frame. -/
def execFrameReception (p : Port) (f : Frame) (s : State) : Host.Outcome State Fault Refusal :=
  if f.wf then
    if s.receives p then .next (s.receive p f) else .next s
  else .fault .notADataFrame

/-- REMOTE_FRAME (R16): discarded as it arrives, without effect. -/
def execRemoteFrame (_p : Port) (s : State) : Host.Outcome State Fault Refusal := .next s

end Sys2Proof.Machine
end

