-- ==== Sys2Proof/Machine/Reset.lean ====
section
/-! DEFINITION. The two kinds of reset (section 1.6): the meanings of FULL_RESET, RESET_INPUT and
WARM_RESET_TAKES_PLACE. -/

namespace Sys2Proof.Machine

/-- A full reset (R12): every item at its full-reset value, the straps read, then the entry to Unconfigured. The
fault inputs are pins and keep their levels; the command queue is the model's own. -/
def State.fullReset (s : State) (straps : Fin 4) : State :=
  { State.cold with
    strapPins := straps
    strap := straps
    faultInputs := s.faultInputs
    pending := s.pending }.enterUnconfigured

/-- A domain at a warm reset (R14, R13): its parameters and seen-powered mark kept, its waker cleared. A domain
in Off or Fault goes to Off and is then Queued by the request of R2. -/
def Domain.warmed (d : Domain) : Domain :=
  let d1 := d.unarmed
  match d.state with
  | .on | .releasing =>
    { d1 with state := .on, remaining := d.defaultLinger, pending := 0, pendingClass := .c, settle := 0 }
  | .powerUp =>
    { d1 with remaining := 0, pending := d.defaultLinger, pendingClass := .b, settle := d.settleTime }
  | .queued | .off | .fault =>
    { d1 with state := .queued, remaining := 0, pending := d.defaultLinger, pendingClass := .b, settle := 0 }

/-- A branch at a warm reset (R132): its isolation ended, its chatter cleared, then Awake by R2. -/
def BranchState.warmed (bs : BranchState) : BranchState :=
  { bs.released.enter .awake with windowTimer := none, drainTimer := none, closing := false }

/-- A port front end at a warm reset (R13, R23, R28, R75): its parameters kept, the rest emptied, an attempt in
flight abandoned. -/
def PortState.warmed (ps : PortState) : PortState :=
  { params := ps.params, landing := [], overrun := false, queue := [], flight := none, discards := 0 }

/-- A rule at a warm reset (R53): its suspect and quarantine states cleared. -/
def Rule.cleared (r : Rule) : Rule := { r with suspect := none, quarantine := none }

/-- A warm reset (R13, R14), with the arbiter's grants at its end (R103). -/
def State.warmReset (s : State) (straps : Fin 4) : State :=
  let s1 : State :=
    { s with
      mode := .unconfigured
      strapPins := straps
      strap := straps
      deadline := Config.configurationDeadline
      requests := []
      requestOverrun := false
      response := none
      warmResetPending := false
      reports := []
      reportsLost := false
      flags := 0
      trunk := .quiet
      silence := none
      pointer := 6
      classification := none
      freeBuffers := Config.poolSize
      lastGranted := 0
      account := { s.account with carry := 0, timer := Config.accountingInterval } }
  let s2 := (s1.mapPorts fun _ ps => ps.warmed).mapBranches fun _ bs => bs.warmed
  let s3 := (s2.mapRules fun _ r => r.cleared).mapSchedule fun _ e => { e with countdown := e.period }
  ((s3.mapDomains fun _ d => d.warmed).recomputeSilently).runArbiter

/-- FULL_RESET (R12). -/
def execFullReset (straps : Fin 4) (s : State) : Host.Outcome State Fault Refusal :=
  .next (s.fullReset straps)

/-- RESET_INPUT (R13): one warm reset at the assertion; a waiting Warm Reset response is lost with the slot. -/
def execResetInput (straps : Fin 4) (s : State) : Host.Outcome State Fault Refusal :=
  .next (s.warmReset straps)

/-- WARM_RESET_TAKES_PLACE (R13): once the Warm Reset response has left the slot. Before that the event does not
arise, and nothing changes (log entry 12). -/
def execWarmResetTakesPlace (straps : Fin 4) (s : State) : Host.Outcome State Fault Refusal :=
  if s.warmResetPending = true ∧ s.response = none then .next (s.warmReset straps) else .next s

end Sys2Proof.Machine
end

