-- ==== Sys2Proof/Machine/Dispatch.lean ====
section
/-! DEFINITION. Which meaning each command has: one arm per constructor of Instr. -/

namespace Sys2Proof.Machine

/-- The effect of a command on everything but the command queue. -/
def exec (i : Instr) (s : State) : Host.Outcome State Fault Refusal :=
  match i with
  | .fullReset straps => Sys2Proof.Machine.execFullReset straps s
  | .resetInput straps => Sys2Proof.Machine.execResetInput straps s
  | .warmResetTakesPlace straps => Sys2Proof.Machine.execWarmResetTakesPlace straps s
  | .frameReception p f => Sys2Proof.Machine.execFrameReception p f s
  | .remoteFrame p => Sys2Proof.Machine.execRemoteFrame p s
  | .classifierTakesFrame => Sys2Proof.Machine.execClassifierTakesFrame s
  | .classificationDispatch => Sys2Proof.Machine.execClassificationDispatch s
  | .transmissionAttempt p => Sys2Proof.Machine.execTransmissionAttempt p s
  | .attemptEnd p o => Sys2Proof.Machine.execAttemptEnd p o s
  | .silenceTimerExpiry => Sys2Proof.Machine.execSilenceTimerExpiry s
  | .configurationDeadlineExpiry => Sys2Proof.Machine.execConfigurationDeadlineExpiry s
  | .faultInputAsserts d level => Sys2Proof.Machine.execFaultInputAsserts d level s
  | .settleExpiry d => Sys2Proof.Machine.execSettleExpiry d s
  | .lingerExpiry d => Sys2Proof.Machine.execLingerExpiry d s
  | .drainLimitExpiry b => Sys2Proof.Machine.execDrainLimitExpiry b s
  | .deadlineExpiry p place => Sys2Proof.Machine.execDeadlineExpiry p place s
  | .accountingExpiry => Sys2Proof.Machine.execAccountingExpiry s
  | .chatterWindowExpiry b => Sys2Proof.Machine.execChatterWindowExpiry b s
  | .isolationTimerExpiry b => Sys2Proof.Machine.execIsolationTimerExpiry b s
  | .suspectTimerExpiry r => Sys2Proof.Machine.execSuspectTimerExpiry r s
  | .quarantineTimerExpiry r => Sys2Proof.Machine.execQuarantineTimerExpiry r s
  | .scheduleExpiry e => Sys2Proof.Machine.execScheduleExpiry e s
  | .emptyRequest => Sys2Proof.Machine.execEmptyRequest s
  | .unknownCommand => Sys2Proof.Machine.execUnknownCommand s
  | .readIdentity => Sys2Proof.Machine.execReadIdentity s
  | .readStatus => Sys2Proof.Machine.execReadStatus s
  | .clearConditions => Sys2Proof.Machine.execClearConditions s
  | .setReportMasks => Sys2Proof.Machine.execSetReportMasks s
  | .warmReset => Sys2Proof.Machine.execWarmReset s
  | .writeRule => Sys2Proof.Machine.execWriteRule s
  | .readRule => Sys2Proof.Machine.execReadRule s
  | .setRuleEnable => Sys2Proof.Machine.execSetRuleEnable s
  | .releaseQuarantine => Sys2Proof.Machine.execReleaseQuarantine s
  | .writeMonitor => Sys2Proof.Machine.execWriteMonitor s
  | .writeDomain => Sys2Proof.Machine.execWriteDomain s
  | .readDomain => Sys2Proof.Machine.execReadDomain s
  | .forceDomainOn => Sys2Proof.Machine.execForceDomainOn s
  | .forceDomainOff => Sys2Proof.Machine.execForceDomainOff s
  | .clearFault => Sys2Proof.Machine.execClearFault s
  | .setInrushLimit => Sys2Proof.Machine.execSetInrushLimit s
  | .writePort => Sys2Proof.Machine.execWritePort s
  | .readPort => Sys2Proof.Machine.execReadPort s
  | .releasePort => Sys2Proof.Machine.execReleasePort s
  | .writeBudget => Sys2Proof.Machine.execWriteBudget s
  | .writeSchedule => Sys2Proof.Machine.execWriteSchedule s
  | .readSchedule => Sys2Proof.Machine.execReadSchedule s
  | .park => Sys2Proof.Machine.execPark s
  | .depart => Sys2Proof.Machine.execDepart s
  | .parkClockAdvance => Sys2Proof.Machine.execParkClockAdvance s

end Sys2Proof.Machine
end

