-- ==== Sys2Proof/Safety.lean ====
section
/-! DEFINITION. What counts as a sound state of the DW716: the laws that the manual says hold at all times, each a
predicate that every step is to keep, and the plain vocabulary in which the statements about commands are made. -/

namespace Sys2Proof.Machine

/-! ## The vocabulary of the statements -/

/-- The command completes and its next state meets a condition. -/
def Answers (c : Instr) (s : State) (p : State → Prop) : Prop := ∃ t, exec c s = .next t ∧ p t

/-- The request stands at the head of the request queue and its turn has come (R172, R13). -/
def State.turn (s : State) (req : List Byte) (rest : List (List Byte)) : Prop :=
  s.requests = req :: rest ∧ s.response = none ∧ s.warmResetPending = false

/-- The request has left the queue and its response stands in the slot (R172). -/
def State.answered (s : State) (rest : List (List Byte)) (bytes : List Byte) : State :=
  { s with requests := rest, response := some { bytes := bytes, attempts := 0 } }

/-- The arbiter has nothing to grant: K domains are in PowerUp or none is pending (R103). -/
def State.arbiterIdle (s : State) : Prop :=
  s.inrushLimit ≤ s.powerUpCount ∨ ∀ d : DomainIx, s.domains[d].state ≠ .queued

/-- One domain record in place of another. -/
def State.putDomain (s : State) (d : DomainIx) (x : Domain) : State := { s with domains := s.domains.set d x }

/-- One branch record in place of another. -/
def State.putBranch (s : State) (b : Branch) (x : BranchState) : State := { s with branches := s.branches.set b x }

/-- One port front end in place of another. -/
def State.putPort (s : State) (p : Port) (x : PortState) : State := { s with ports := s.ports.set p x }

/-- One rule in place of another. -/
def State.putTableRule (s : State) (r : RuleIx) (x : Rule) : State := { s with rules := s.rules.set r x }

/-- A linger capped at Lcap at Red and Exhausted (R60, R111, R114). -/
def State.cappedAt (s : State) (linger : Nat) : Nat :=
  if s.account.effective = .red ∨ s.account.effective = .exhausted then min linger s.budget.lcap else linger

/-- A domain in Off by a cut, a forced switching off or the end of a drain: only its parameters and its
seen-powered mark are kept (R99, R115, R117). -/
def Domain.dark (d : Domain) : Domain :=
  { d with state := .off, remaining := 0, pending := 0, pendingClass := .c, settle := 0, waker := none,
           awaiting := false }

/-- A domain that has left Off or Releasing on its branch in Parked (R89, R101, R121), `queued` its new record: a
branch at rest goes to Waking, a Draining branch has its marker withdrawn and its other Releasing domains return to
On, and an Isolated branch lets the request have no effect. -/
def State.joined (s : State) (d : DomainIx) (b : Branch) (queued : Domain) : State :=
  let x := s.branches[b]
  let q := s.putDomain d queued
  match x.mode with
  | .off => q.putBranch b { x with mode := .waking, seen := true }
  | .listen => q.putBranch b { x with mode := .waking, seen := true, chatterCount := 0, windowTimer := none }
  | .waking | .awake => q
  | .draining =>
    { (q.putBranch b { x with mode := .awake, drainTimer := none, closing := false }).putPort (portOf b)
        { s.ports[portOf b] with queue := s.ports[portOf b].queue.filter QueueItem.isFrame } with
      domains := Vector.ofFn fun i =>
        if i = d then queued
        else if s.domains[i].branch = some b ∧ s.domains[i].state = .releasing then
          { s.domains[i] with state := .on, remaining := s.cappedAt s.domains[i].defaultLinger }
        else s.domains[i] }
  | .isolated => s

/-- What becomes of a domain that a wake request has left with the record `y`, `t` its record at the end of the
command: it waits, or, where a place was free, the arbiter has granted it one (R105), and an asserted fault input has
then put it in Fault (R112). -/
def State.waitsOrGranted (s : State) (d : DomainIx) (y t : Domain) : Prop :=
  t = y ∨ s.powerUpCount < s.inrushLimit ∧ t =
    if s.faultInputs.getLsbD d.val then { y.dark with state := .fault, seen := true }
    else { y with state := .powerUp, seen := true, settle := y.settleTime }

/-- The domain is the arbiter's choice: the first candidate of the downward search from below the last-granted
pointer, the candidates being the Queued domains of class A if there is one and otherwise all the Queued ones
(R104). -/
def State.firstCandidate (s : State) (g : DomainIx) : Prop :=
  let pending := fun i : DomainIx => s.domains[i].state = .queued
  let candidate := fun i : DomainIx => pending i ∧
    ((∃ j : DomainIx, pending j ∧ s.domains[j].pendingClass = .a) → s.domains[i].pendingClass = .a)
  candidate g ∧ ∀ i : DomainIx, candidate i → (s.lastGranted - 1 - g).val ≤ (s.lastGranted - 1 - i).val

/-- A place granted to a domain (R105). -/
def State.granted (s : State) (g : DomainIx) : State :=
  { s.putDomain g { s.domains[g] with state := .powerUp, seen := true, settle := s.domains[g].settleTime } with
    lastGranted := g }

/-- What a recomputation tells and orders, by the account as it was before (R110, R146): BATTERY_LOW where the
override engages, LEVEL_CHANGED where the effective level changes, and the cap order where it becomes Red or
Exhausted. -/
def State.levelTold (s : State) (was : Account) : State :=
  let a := s.account
  let low := if a.override = true ∧ was.override = false then s.raise .batteryLow none a.vb 0 else s
  let told := low.raise .levelChanged none was.effective.code a.effective.code
  if a.effective = was.effective then low
  else if a.effective = .red ∨ a.effective = .exhausted then
    { told with
      domains := Vector.ofFn fun i =>
        let x := s.domains[i]
        match x.state with
        | .on => { x with remaining := min x.remaining s.budget.lcap }
        | .queued | .powerUp => { x with pending := min x.pending s.budget.lcap }
        | .off | .releasing | .fault => x }
  else told

/-- The outcome of a matched dispatch is Honour (R56, R58, R147). -/
def State.honours (s : State) (cls : WakeClass) : Prop :=
  s.mode = .drive ∨
    s.mode = .parked ∧
      (cls = .a ∨ cls = .b ∧ (s.account.effective = .green ∨ s.account.effective = .amber)
        ∨ cls = .c ∧ s.account.effective = .green
          ∧ s.account.davg * s.budget.hmin * 225 ≤ s.account.remaining)

/-- Several classifications dispatched one after the other from a state. -/
def State.dispatchEach (s : State) : List Classification → Host.Outcome State Fault Refusal
  | [] => .next { s with classification := none }
  | c :: rest =>
    match exec .classificationDispatch { s with classification := some c } with
    | .next t => t.dispatchEach rest
    | .fault e => .fault e
    | .refused r => .refused r

/-- Several domains of one schedule entry requested one after the other by expiries of the entry, each with the wake
set of one domain, and the entry's record at the end. -/
def State.fireEach (s : State) (i : EntryIx) (e spent : ScheduleEntry) :
    List DomainIx → Host.Outcome State Fault Refusal
  | [] => .next { s with schedule := s.schedule.set i spent }
  | d :: rest =>
    match exec (.scheduleExpiry i)
        { s with schedule := s.schedule.set i { e with wake := BitVec.twoPow 16 d.val } } with
    | .next t => t.fireEach i e spent rest
    | .fault f => .fault f
    | .refused r => .refused r

/-- The port's state takes a copy with the given hold flag (R69, R71). -/
def State.takesCopy (s : State) (p : Port) (hold : Bool) : Prop :=
  (p = trunkPort ∧ (s.trunk = .active ∨ hold = true)) ∨
    ∃ b : Branch, p = portOf b ∧
      (s.branches[b].mode = .waking ∨ s.branches[b].mode = .awake ∨ s.branches[b].mode = .draining
        ∨ (s.branches[b].mode = .off ∨ s.branches[b].mode = .listen) ∧ hold = true)

/-- The queue and the pool have room for a copy of a class (R76). -/
def State.hasRoom (s : State) (p : Port) (cls : WakeClass) : Prop :=
  frameCount s.ports[p].queue < s.ports[p].params.holdCap
    ∧ (if cls = .a then 1 else 9) ≤ s.freeBuffers

/-- The entry that a copy becomes (R80). -/
def State.newEntry (s : State) (p : Port) (f : Frame) (cls : WakeClass) (hold : Bool) : QueueItem :=
  .frame { frame := f, cls := cls, hold := hold, attempts := 0, sending := false,
           deadline := s.ports[p].params.holdAge }

/-- No drain ends on a port that is left with this front end: it is no Draining branch, or it still has something
ahead of its marker and no closing waits for an attempt that has ended (R87, R88, R91). -/
def State.noDrainEnds (s : State) (p : Port) (left : PortState) : Prop :=
  ∀ b : Branch, p = portOf b → s.branches[b].mode = .draining →
    left.queue.head? ≠ some .marker ∧ (s.branches[b].closing = true → left.flight.isSome = true)

/-- The port is not a branch in Listen in Parked, so that no chatter is counted on it (R73, R126). -/
def State.countsNoChatter (s : State) (p : Port) : Prop :=
  ∀ b : Branch, p = portOf b → ¬ (s.mode = .parked ∧ s.branches[b].mode = .listen)

/-- How many frame entries of a queue are not in transmission: the buffers a flush frees (R75). -/
def idleFrames (q : List QueueItem) : Nat := q.countP fun i => i.isFrame && !i.sending

/-- The attempt in flight after its entry may have been removed from the queue (R83). -/
def PortState.flightAfter (ps : PortState) (gone : List QueueItem) : Option Flight :=
  if gone.any QueueItem.sending then
    ps.flight.map fun f => if f.source = .entry then { f with source := .removed } else f
  else ps.flight

/-- Entry of a branch to Isolated with a cause (R93, R117, R129), from a state in which no fault input is asserted:
the branch, its port and its domains as R129 leaves them, freed PowerUp places perhaps granted to domains of other
branches, and PORT_ISOLATED raised with the port as subject and the cause and the isolation time as details (R186). -/
def State.isolatedBy (s t : State) (b : Branch) (cause : IsolationCause) : Prop :=
  let ps := s.ports[portOf b]
  let time := s.branches[b].params.isolationTime
  let cut : State :=
    { (s.putBranch b
          { s.branches[b] with
            mode := .isolated, windowTimer := none, cause := cause, isolationTimer := some time,
            drainTimer := none, closing := false }).putPort (portOf b)
        { ps with landing := [], overrun := false, queue := [], flight := ps.flightAfter ps.queue } with
      freeBuffers := s.freeBuffers + idleFrames ps.queue }
  { t with domains := s.domains, lastGranted := s.lastGranted }
      = cut.raise .portIsolated (some (b.val + 1)) cause.code time
    ∧ ∀ d : DomainIx,
        if s.domains[d].branch = some b ∧ s.domains[d].state.active = true then t.domains[d] = s.domains[d].dark
        else t.domains[d] = s.domains[d] ∨
          s.domains[d].state = .queued ∧ t.domains[d] =
            { s.domains[d] with state := .powerUp, seen := true, settle := s.domains[d].settleTime }

/-- A branch as it enters its rest state in Parked: the seen-powered mark stays, and a rest state of Listen opens a
fresh chatter window (R124). -/
def BranchState.rested (bs : BranchState) : BranchState :=
  match bs.params.rest with
  | .off => { bs with mode := .off, drainTimer := none, closing := false }
  | .listen =>
    { bs with mode := .listen, chatterCount := 0, windowTimer := some bs.params.chatterWindow, drainTimer := none,
              closing := false }

/-- A port as its branch goes to rest: held entries alone stay, and a rest state of Off empties the landing buffer
(R85, R87, R91, R124). -/
def PortState.rested (ps : PortState) (rest : RestState) : PortState :=
  let gone := ps.queue.filter fun i => !i.held
  let kept := { ps with queue := ps.queue.filter QueueItem.held, flight := ps.flightAfter gone }
  match rest with
  | .off => { kept with landing := [], overrun := false }
  | .listen => kept

/-- A branch goes to rest in Parked from Waking, Awake or Draining, its unheld entries discarded and its marker and
drain gone (R85, R87, R124). -/
def State.rest (s : State) (b : Branch) : State :=
  { (s.putBranch b s.branches[b].rested).putPort (portOf b)
      (s.ports[portOf b].rested s.branches[b].params.rest) with
    freeBuffers := s.freeBuffers + idleFrames (s.ports[portOf b].queue.filter fun i => !i.held) }

/-- A domain's switching off or fault as its branch takes it, `lost` its record then: outside Parked and without a
branch nothing follows (R11); in Parked the loss of the branch's last powered domain sends the branch to rest, and a
Waking branch left with On domains alone goes Awake (R85, R92, R121). -/
def State.losing (s : State) (d : DomainIx) (b : Branch) (lost : Domain) : State :=
  let left := s.putDomain d lost
  let others := fun k : DomainState → Bool =>
    ∃ i : DomainIx, i ≠ d ∧ s.domains[i].branch = some b ∧ k s.domains[i].state = true
  if s.mode = .parked ∧ s.domains[d].branch = some b then
    match s.branches[b].mode with
    | .waking =>
      if others DomainState.waiting then left
      else if others (· == .on) then left.putBranch b { s.branches[b] with mode := .awake }
      else left.rest b
    | .awake | .draining => if others DomainState.active then left else left.rest b
    | .off | .listen | .isolated => left
  else left

/-- The end of a branch's drain in Parked: it goes to rest and its Releasing domains go Off (R87, R111). -/
def State.slept (s : State) (b : Branch) : State :=
  { s.rest b with
    domains := Vector.ofFn fun i : DomainIx =>
      if s.domains[i].branch = some b ∧ s.domains[i].state = .releasing then s.domains[i].dark else s.domains[i] }

/-! ## The part's own steps -/

/-- An attempt can begin on a port (R27, R30, R91). -/
def State.mayBegin (s : State) (p : Port) : Bool :=
  let entry :=
    match s.ports[p].queue with
    | .frame e :: _ => decide (e.attempts < 3)
    | _ => false
  let candidate :=
    if p = trunkPort then
      match s.response, s.trunk, s.reports with
      | some r, _, _ => decide (r.attempts < 3)
      | none, .active, x :: _ => decide (x.attempts < 3)
      | none, .active, [] => entry
      | none, .quiet, _ => false
    else
      allBranches.any fun b =>
        p == portOf b && (s.branches[b].mode == .awake || s.branches[b].mode == .draining)
          && !s.branches[b].closing && entry
  s.ports[p].flight == none && candidate

/-- The steps the part takes by itself, each with whether it is due, in the model's order (log entry 1). -/
def State.ownSteps (s : State) : List (Bool × Instr) :=
  let of := fun {α : Type} (xs : List α) (due : α → Bool) (c : α → Instr) => xs.map fun x => (due x, c x)
  let parked := s.mode == .parked
  [(s.warmResetPending && s.response == none, .warmResetTakesPlace s.strapPins)]
    ++ of allDomains (fun d => s.domains[d].state == .powerUp && s.domains[d].settle == 0) .settleExpiry
    ++ of allDomains (fun d => parked && s.domains[d].state == .on && s.domains[d].remaining == 0) .lingerExpiry
    ++ of allBranches (fun b => s.branches[b].mode == .draining && s.branches[b].drainTimer == some 0)
        .drainLimitExpiry
    ++ [(s.silence == some 0, .silenceTimerExpiry)]
    ++ of allBranches (fun b => s.branches[b].windowTimer == some 0) .chatterWindowExpiry
    ++ of allBranches (fun b => s.branches[b].mode == .isolated && s.branches[b].isolationTimer == some 0)
        .isolationTimerExpiry
    ++ of allRules (fun r => s.rules[r].suspect == some 0) .suspectTimerExpiry
    ++ of allRules (fun r => s.rules[r].quarantine == some 0) .quarantineTimerExpiry
    ++ of allEntries (fun e => parked && s.schedule[e].enabled && s.schedule[e].countdown == 0) .scheduleExpiry
    ++ [(s.account.timer == 0, .accountingExpiry),
        (s.mode == .unconfigured && s.deadline == 0, .configurationDeadlineExpiry)]
    ++ allPorts.flatMap (fun p => of (List.range s.ports[p].queue.length)
        (fun n => s.ports[p].queue[n]?.any fun (i : QueueItem) =>
          match i with
          | .frame e => e.deadline == 0 && !e.sending
          | .marker => false) (.deadlineExpiry p))
    ++ of s.requests.head?.toList (fun _ => s.response == none && !s.warmResetPending) rowOf
    ++ [(s.classification != none, .classificationDispatch),
        (s.classification == none && s.mode != .fallback && allPorts.any fun p => s.ports[p].landing != [],
          .classifierTakesFrame)]
    ++ of allPorts s.mayBegin .transmissionAttempt

/-- One millisecond of the time base but for its one-second step (R31, R86, R105, R107, R137; log entry 2). -/
def State.millisecond (s : State) : State :=
  let n := s.phase + 1
  { s with
    phase := if n % 1000 = 0 then 0 else n
    account := { s.account with timer := s.account.timer - 1 }
    silence := if n % 100 = 0 then s.silence.map (· - 1) else s.silence
    branches := Vector.ofFn fun b =>
      { s.branches[b] with
        drainTimer := if n % 10 = 0 then s.branches[b].drainTimer.map (· - 1) else s.branches[b].drainTimer }
    domains := Vector.ofFn fun d =>
      let x := s.domains[d]
      match x.state with
      | .powerUp => { x with settle := x.settle - 1 }
      | .on => if s.mode = .parked ∧ n % 100 = 0 then { x with remaining := x.remaining - 1 } else x
      | .off | .queued | .releasing | .fault => x }

/-! ## Parameters -/

/-- A rule record within the ranges of R34, battery on only with a word test (R48). -/
def RuleRecord.inRange (r : RuleRecord) : Prop :=
  r.minLength ≤ 64 ∧ r.lanes.length ≤ 4 ∧ (∀ t ∈ r.lanes, t.offset ≤ 63) ∧ (∀ t ∈ r.word, t.offset ≤ 62)
    ∧ (r.battery = true → r.word.isSome = true) ∧ r.linger ≤ 65535

/-- The common port fields within the ranges of R18; a forward set never names the port itself. -/
def PortParams.inRange (x : PortParams) (p : Port) : Prop :=
  (x.maxPayload = 8 ∨ x.maxPayload = 64) ∧ x.holdCap ≤ 96 ∧ 1 ≤ x.holdAge ∧ x.holdAge ≤ 65535
    ∧ x.forward.getLsbD p.val = false

/-- The branch fields of a port record within the ranges of R18. -/
def BranchParams.inRange (x : BranchParams) : Prop :=
  x.current ≤ 255 ∧ (1 ≤ x.chatterLimit ∧ x.chatterLimit ≤ 255) ∧ (1 ≤ x.chatterWindow ∧ x.chatterWindow ≤ 255)
    ∧ (1 ≤ x.isolationTime ∧ x.isolationTime ≤ 65535) ∧ (1 ≤ x.drainLimit ∧ x.drainLimit ≤ 255)

/-- The domain parameters within the ranges of R97. -/
def Domain.inRange (d : Domain) : Prop :=
  d.ia ≤ 16383 ∧ (1 ≤ d.settleTime ∧ d.settleTime ≤ 255) ∧ (1 ≤ d.defaultLinger ∧ d.defaultLinger ≤ 65535)

/-- The budget parameters within the ranges of R134, T1 not below T2 (R135). -/
def Budget.inRange (b : Budget) : Prop :=
  b.allowance ≤ 4294967295 ∧ b.t1 ≤ 4294967295 ∧ b.t2 ≤ b.t1 ∧ b.ibase ≤ 1023 ∧ b.shift ≤ 15 ∧ b.hmin ≤ 255
    ∧ b.vcrit ≤ 65534 ∧ (1 ≤ b.lcap ∧ b.lcap ≤ 65535)

/-- A schedule entry within the ranges of R163. -/
def ScheduleEntry.inRange (e : ScheduleEntry) : Prop :=
  (1 ≤ e.firstDelay ∧ e.firstDelay ≤ 86400) ∧ (1 ≤ e.period ∧ e.period ≤ 86400) ∧ e.linger ≤ 65535
    ∧ e.countdown ≤ 86400

/-- Every parameter that the body controller loads lies within its range (R18, R34, R97, R103, R134, R153, R163). -/
def ParameterLaw (s : State) : Prop :=
  (∀ r : RuleIx, s.rules[r].record.inRange)
    ∧ (∀ p : Port, s.ports[p].params.inRange p)
    ∧ (∀ b : Branch, s.branches[b].params.inRange)
    ∧ (∀ d : DomainIx, s.domains[d].inRange)
    ∧ (∀ e : EntryIx, s.schedule[e].inRange)
    ∧ s.budget.inRange
    ∧ (1 ≤ s.silenceTime ∧ s.silenceTime ≤ 255)
    ∧ (1 ≤ s.inrushLimit ∧ s.inrushLimit ≤ 4)
    ∧ (1 ≤ s.suspectWindow ∧ s.suspectWindow ≤ 65535)
    ∧ (1 ≤ s.quarantineTime ∧ s.quarantineTime ≤ 65535)

/-! ## The frame pool and the queues -/

/-- A frame entry that is not of class A (R75). -/
def QueueItem.belowA : QueueItem → Bool
  | .frame e => e.cls != .a
  | .marker => false

/-- The items of all seven egress queues. -/
def State.queued (s : State) : List QueueItem := allPorts.flatMap fun p => s.ports[p].queue

/-- How many attempts in flight are of entries removed from their queues (R75, R83). -/
def State.removedInFlight (s : State) : Nat :=
  allPorts.countP fun p => s.ports[p].flight.any (·.source == .removed)

/-- At most the head entry is in transmission, and exactly while the attempt in flight is of it (R81). -/
def PortState.transmissionCoherent (ps : PortState) : Prop :=
  (∀ i ∈ ps.queue.tail, i.sending = false)
    ∧ ps.queue.head?.any QueueItem.sending = ps.flight.any (·.source == .entry)

/-- Every buffer of the pool is free, in a queue, or with an attempt whose entry was removed; at most 88 queued
entries are not of class A (R75, R81). -/
def PoolLaw (s : State) : Prop :=
  s.freeBuffers + frameCount s.queued + s.removedInFlight = 96
    ∧ s.queued.countP QueueItem.belowA ≤ 88
    ∧ ∀ p : Port, s.ports[p].transmissionCoherent

/-- What a branch holds of its drain: one marker, not at the head, and a running drain timer or, with an attempt
in flight, the closing mark, exactly while it is Draining (R79, R86, R87, R91). -/
def State.drainCoherent (s : State) (b : Branch) : Prop :=
  (s.ports[portOf b].flight.all fun f => f.source == .entry || f.source == .removed) = true ∧
  if s.branches[b].mode = .draining then
    s.ports[portOf b].queue.count .marker = 1
      ∧ s.ports[portOf b].queue.head? ≠ some .marker
      ∧ s.branches[b].drainTimer.isSome = !s.branches[b].closing
      ∧ (s.branches[b].closing = true → s.ports[portOf b].flight.isSome = true)
  else
    QueueItem.marker ∉ s.ports[portOf b].queue ∧ s.branches[b].drainTimer = none ∧ s.branches[b].closing = false

/-- Only a Draining branch's queue holds a sleep marker, and TP's never does (R79, R86, R87, R91). -/
def MarkerLaw (s : State) : Prop :=
  QueueItem.marker ∉ s.ports[trunkPort].queue ∧ ∀ b : Branch, s.drainCoherent b

/-- A branch at rest holds held entries alone, one Off has landed nothing, and an Isolated one holds nothing, its
cause set and its isolation timer running (R23, R84, R93, R120, R129). -/
def State.restCoherent (s : State) (b : Branch) : Prop :=
  (s.branches[b].mode.atRest = true → ∀ i ∈ s.ports[portOf b].queue, i.held = true)
    ∧ (s.branches[b].mode = .off → s.ports[portOf b].landing = [])
    ∧ (s.branches[b].mode = .isolated → s.ports[portOf b].queue = [] ∧ s.ports[portOf b].landing = [])
    ∧ s.branches[b].isolationTimer.isSome = (s.branches[b].mode == .isolated)
    ∧ (s.branches[b].cause = .none ↔ s.branches[b].mode ≠ .isolated)

/-- What sleeping and cut-off branches hold. -/
def RestLaw (s : State) : Prop := ∀ b : Branch, s.restCoherent b

/-- A frame entry has begun at most three attempts, one of them if it is in transmission, and fewer than three if
it is not (R27, R79). -/
def QueueItem.attemptsBounded : QueueItem → Prop
  | .frame e => if e.sending then 1 ≤ e.attempts ∧ e.attempts ≤ 3 else e.attempts < 3
  | .marker => True

/-- The queues, buffers and counts keep within their sizes (R21, R27, R28, R171, R181). -/
def CapacityLaw (s : State) : Prop :=
  s.requests.length ≤ 4 ∧ s.reports.length ≤ 16 ∧ s.ports[trunkPort].discards < 3
    ∧ (∀ p : Port, s.ports[p].landing.length ≤ 2 ∧ s.ports[p].discards ≤ 3
        ∧ ∀ i ∈ s.ports[p].queue, i.attemptsBounded)
    ∧ (∀ r ∈ s.response, r.attempts ≤ 3) ∧ ∀ r ∈ s.reports, r.attempts ≤ 3

/-! ## Domains and branches -/

/-- The number of domains in PowerUp never exceeds K, and no domain waits while a place is free (R103). -/
def ArbiterLaw (s : State) : Prop :=
  1 ≤ s.inrushLimit ∧ s.inrushLimit ≤ 4 ∧ s.powerUpCount ≤ s.inrushLimit ∧ s.arbiterIdle

/-- The fields a domain holds in its state (R99). -/
def Domain.fieldsHeld (d : Domain) : Prop :=
  (d.state ≠ .on → d.remaining = 0)
    ∧ (d.state.waiting = false → d.pending = 0 ∧ d.pendingClass = .c)
    ∧ (d.state ≠ .powerUp → d.settle = 0)

/-- Every domain holds its lingers, pending class and settle timer only in the states of R99. -/
def DomainFieldLaw (s : State) : Prop := ∀ d : DomainIx, s.domains[d].fieldsHeld

/-- Some domain of the branch is in one of the given states. -/
def State.hasDomain (s : State) (b : Branch) (k : DomainState → Bool) : Prop :=
  ∃ d : DomainIx, s.domains[d].branch = some b ∧ k s.domains[d].state = true

/-- In Parked a branch's state follows its domains (R108, R121). -/
def State.branchFollows (s : State) (b : Branch) : Prop :=
  match s.branches[b].mode with
  | .off | .listen | .isolated => ¬ s.hasDomain b DomainState.active
  | .waking => s.hasDomain b DomainState.waiting ∧ ¬ s.hasDomain b (· == .releasing)
  | .awake => s.hasDomain b (fun k => k.waiting || k == .on) ∧ ¬ s.hasDomain b (· == .releasing)
  | .draining => s.hasDomain b (· == .releasing) ∧ ¬ s.hasDomain b (fun k => k.waiting || k == .on)

/-- The states that branches and domains may hold in each part mode (R1, R11, R113, R117, R121 and the table of
section 7.5); in Fallback no classification is in flight (R25, R47). -/
def BranchLaw (s : State) : Prop :=
  match s.mode with
  | .unconfigured | .drive =>
    (∀ b : Branch, s.branches[b].mode = .awake
        ∨ s.branches[b].mode = .isolated ∧ ¬ s.hasDomain b DomainState.active)
      ∧ ∀ d : DomainIx, s.domains[d].state ≠ .releasing
  | .fallback =>
    (∀ b : Branch, s.branches[b].mode = .listen) ∧ (∀ d : DomainIx, s.domains[d].state.active = false)
      ∧ s.classification = none
  | .parked =>
    (∀ b : Branch, s.branchFollows b)
      ∧ ∀ d : DomainIx, s.domains[d].state = .releasing → s.domains[d].branch.isSome = true

/-- A powered domain and a working branch have their seen-powered marks set (R141). -/
def SeenLaw (s : State) : Prop :=
  (∀ d : DomainIx, s.domains[d].state.enabled = true → s.domains[d].seen = true)
    ∧ ∀ b : Branch, s.branches[b].mode = .waking ∨ s.branches[b].mode = .awake ∨ s.branches[b].mode = .draining →
        s.branches[b].seen = true

/-! ## The account and the monitor -/

/-- The laws of the charge account (R136, R139, R143, R145), with what it recomputes always up to date. -/
def AccountLaw (s : State) : Prop :=
  s.account.carry < 4 ∧ s.account.consumed ≤ 4294967295 ∧ s.account.davg ≤ 4234896
    ∧ s.account.remaining = s.budget.allowance - s.account.consumed
    ∧ (s.account.override = true ↔ s.account.vb < s.budget.vcrit)
    ∧ s.account.level =
        (if s.account.remaining = 0 then .exhausted
          else if s.account.remaining < s.budget.t2 then .red
          else if s.account.remaining < s.budget.t1 then .amber else .green)
    ∧ s.account.effective =
        (if s.account.override = true ∧ (s.account.level = .green ∨ s.account.level = .amber) then .red
          else s.account.level)
    ∧ (s.account.saturated = true → s.account.consumed = 4294967295)

/-- The laws of the confirmation monitor (R153, R162). -/
def ConfirmationLaw (s : State) : Prop :=
  (∀ d : DomainIx,
    (s.domains[d].waker.isSome = s.domains[d].awaiting)
      ∧ (s.domains[d].awaiting = true →
          s.mode = .parked ∧ s.domains[d].branch.isSome = true
            ∧ (s.domains[d].state = .queued ∨ s.domains[d].state = .powerUp ∨ s.domains[d].state = .on)))
    ∧ ∀ r : RuleIx, s.rules[r].suspect = none ∨ s.rules[r].quarantine = none

end Sys2Proof.Machine
end

