-- ==== Sys2Proof/Certificates/Slice0/Obligations.lean ====
section
/-! DEFINITION. The statements about the DW716 that the provers are asked to prove. -/

open Sys2Proof Sys2Proof.Machine

/-! ## The machine as a whole -/

/-- A step runs the command at the front of the queue with the queue's rest. The queue of waiting commands is the
model's own (log entry 28). -/
def Obligations.StepRunsFrontCommand : Prop :=
  ∀ (s : State) (c : Instr) (rest : List Instr),
    s.pending = c :: rest → step s = exec c { s with pending := rest }

/-- On an empty queue the part takes the first of its own steps that is due; where none is due one millisecond of
its time base passes, and at the end of a second the one-second step with it. The order of the steps and the phase
of the time base are the model's choices (log entries 1 and 2). -/
def Obligations.IdleStepTakesWhatIsDue : Prop :=
  ∀ (s : State) (earlier later : List (Bool × Instr)) (c : Instr),
    s.pending = [] →
      (s.ownSteps = earlier ++ (true, c) :: later → (∀ x ∈ earlier, x.1 = false) → step s = exec c s)
        ∧ ((∀ x ∈ s.ownSteps, x.1 = false) → step s =
          if (s.phase + 1) % 1000 = 0 then exec .parkClockAdvance s.millisecond else .next s.millisecond)

/-- Every command whose operands the bus and the pins can bring completes and leaves the command queue alone; a
frame that is no data frame of R16 is the only stop. That an ill-formed frame stops is the model's choice (log
entry 11). -/
def Obligations.CommandsComplete : Prop :=
  ∀ (c : Instr) (s : State),
    (c.wf = true → Answers c s fun t => t.pending = s.pending)
      ∧ (c.wf = false → exec c s = .fault .notADataFrame)

/-- Every parameter stays within the range the manual gives it. What step does on an empty queue is the model's
choice (log entry 1). -/
def Obligations.ParametersStayInRange : Prop :=
  ∀ (s t : State), ParameterLaw s → step s = .next t → ParameterLaw t

/-- The pool's 96 buffers stay accounted for, at most 88 queued entries are not of class A, and at most the head of
a queue is in transmission. What step does on an empty queue is the model's choice (log entry 1). How the model
marks an entry in transmission is log entry 16. -/
def Obligations.PoolStaysAccounted : Prop :=
  ∀ (s t : State), PoolLaw s → step s = .next t → PoolLaw t

/-- A sleep marker stands exactly in the queue of a Draining branch, a branch at rest keeps to held entries, and an
Isolated branch holds nothing. What step does on an empty queue is the model's choice (log entry 1). That a closing
drain has no running timer is log entry 17, and that a marker at the head ends its drain at once is log entry 35. -/
def Obligations.QueuesFollowBranchState : Prop :=
  ∀ (s t : State), MarkerLaw s → RestLaw s → step s = .next t → MarkerLaw t ∧ RestLaw t

/-- Queues, buffers and attempt and discard counts keep within their sizes. What step does on an empty queue is the
model's choice (log entry 1). -/
def Obligations.QueuesStayWithinCapacity : Prop :=
  ∀ (s t : State), CapacityLaw s → step s = .next t → CapacityLaw t

/-- PowerUp never exceeds K, and no domain waits while a place is free. What step does on an empty queue is the
model's choice (log entry 1). -/
def Obligations.InrushStaysLimited : Prop :=
  ∀ (s t : State), ArbiterLaw s → step s = .next t → ArbiterLaw t

/-- Branches and domains keep to the states that the part mode allows, and in Parked branches follow their
domains; in Fallback no classification is in flight. What step does on an empty queue is the model's choice (log
entry 1). -/
def Obligations.BranchesFollowDomains : Prop :=
  ∀ (s t : State), BranchLaw s → step s = .next t → BranchLaw t

/-- Lingers, pending class and settle timer are held in the states of R99 only, and whatever is powered has its
seen-powered mark set. What step does on an empty queue is the model's choice (log entry 1). -/
def Obligations.DomainFieldsFollowState : Prop :=
  ∀ (s t : State), DomainFieldLaw s → SeenLaw s → step s = .next t → DomainFieldLaw t ∧ SeenLaw t

/-- The account's laws hold, and what it recomputes is up to date; the bound on the draw average rests on the
parameters' ranges. What step does on an empty queue is the model's choice (log entry 1). -/
def Obligations.AccountStaysLawful : Prop :=
  ∀ (s t : State), ParameterLaw s → AccountLaw s → step s = .next t → AccountLaw t

/-- Wakers stand exactly on awaiting domains, in Parked, in Queued, PowerUp and On, and no rule is suspect and
quarantined at once. What step does on an empty queue is the model's choice (log entry 1). -/
def Obligations.MonitorStaysLawful : Prop :=
  ∀ (s t : State), ConfirmationLaw s → step s = .next t → ConfirmationLaw t

/-- The state right after a full reset meets every law. -/
def Obligations.ResetMeetsEveryLaw : Prop :=
  ParameterLaw State.reset ∧ PoolLaw State.reset ∧ MarkerLaw State.reset ∧ RestLaw State.reset
    ∧ CapacityLaw State.reset ∧ ArbiterLaw State.reset ∧ DomainFieldLaw State.reset ∧ BranchLaw State.reset
    ∧ SeenLaw State.reset ∧ AccountLaw State.reset ∧ ConfirmationLaw State.reset

/-- What the body controller loads changes by its own write and by a full reset only, but for a schedule entry's
enabled flag, which its own expiry may clear; the strap value changes at resets only, and outside Park and a full
reset the consumed charge and the park clock never decrease. That the straps come with the reset commands is the
model's choice (log entry 4). -/
def Obligations.HeldValuesChangeByTheirCommands : Prop :=
  ∀ (c : Instr) (s t : State),
    exec c s = .next t → (∀ straps : Fin 4, c ≠ .fullReset straps) →
      (c ≠ .writeRule → c ≠ .setRuleEnable → ∀ r : RuleIx, t.rules[r].record = s.rules[r].record)
        ∧ (c ≠ .writeDomain → ∀ d : DomainIx,
            t.domains[d].branch = s.domains[d].branch ∧ t.domains[d].ia = s.domains[d].ia
              ∧ t.domains[d].settleTime = s.domains[d].settleTime
              ∧ t.domains[d].defaultLinger = s.domains[d].defaultLinger)
        ∧ (c ≠ .writePort → (∀ p : Port, t.ports[p].params = s.ports[p].params)
            ∧ (∀ b : Branch, t.branches[b].params = s.branches[b].params) ∧ t.silenceTime = s.silenceTime)
        ∧ (c ≠ .writeSchedule → ∀ e : EntryIx,
            t.schedule[e].mode = s.schedule[e].mode ∧ t.schedule[e].firstDelay = s.schedule[e].firstDelay
              ∧ t.schedule[e].period = s.schedule[e].period ∧ t.schedule[e].wake = s.schedule[e].wake
              ∧ t.schedule[e].cls = s.schedule[e].cls ∧ t.schedule[e].linger = s.schedule[e].linger
              ∧ (c ≠ .scheduleExpiry e → t.schedule[e].enabled = s.schedule[e].enabled))
        ∧ (c ≠ .writeBudget → t.budget = s.budget)
        ∧ (c ≠ .setInrushLimit → t.inrushLimit = s.inrushLimit)
        ∧ (c ≠ .setReportMasks → t.reportMask = s.reportMask ∧ t.urgentMask = s.urgentMask)
        ∧ (c ≠ .writeMonitor → t.suspectWindow = s.suspectWindow ∧ t.quarantineTime = s.quarantineTime)
        ∧ ((∀ straps : Fin 4, c ≠ .resetInput straps ∧ c ≠ .warmResetTakesPlace straps) →
            t.strap = s.strap ∧ t.strapPins = s.strapPins)
        ∧ (c ≠ .park → s.account.consumed ≤ 4294967295 → s.account.consumed ≤ t.account.consumed)
        ∧ (c ≠ .park → s.parkClock ≤ 4294967295 → s.parkClock ≤ t.parkClock)

/-! ## Layouts -/

/-- Write Rule's decoding of the image that Read Rule returns gives the record back. -/
def Obligations.RuleImageRoundTrip : Prop :=
  ∀ (r : RuleRecord), r.inRange → ruleOf r.image = some r

/-- Write Budget, Write Domain, Write Port and Write Schedule decode the bytes that Read Status page 3, Read
Domain, Read Port and Read Schedule return; a schedule entry's countdown is loaded anew. -/
def Obligations.ParameterBytesRoundTrip : Prop :=
  ∀ (a : Budget) (x : Domain) (i : Byte) (s : State) (p : Port) (b : Branch) (e : EntryIx),
    (a.inRange → budgetOf a.bytes = some a)
      ∧ (x.inRange → domainOf (i :: x.paramBytes) =
          some { branch := x.branch, ia := x.ia, settleTime := x.settleTime, defaultLinger := x.defaultLinger })
      ∧ (s.ports[p].params.inRange p → portParamsOf p (s.portData p) = some s.ports[p].params)
      ∧ (s.branches[b].params.inRange → branchParamsOf (s.portData (portOf b)) = some s.branches[b].params)
      ∧ (1 ≤ s.silenceTime → s.silenceTime ≤ 255 → silenceOf (s.portData trunkPort) = some s.silenceTime)
      ∧ (s.schedule[e].inRange → scheduleOf (s.scheduleData e) =
          some { s.schedule[e] with countdown := s.schedule[e].firstDelay })

/-! ## Resets -/

/-- A full reset: every item at its reset value, whatever the state was; only a fault input that is asserted
changes what the arbiter's first grants make of the domains. The phase, the kept pins and the strap operand are the
model's choices (log entries 2, 3 and 4). -/
def Obligations.FullResetState : Prop :=
  ∀ (s : State) (straps : Fin 4),
    Answers (.fullReset straps) s fun t =>
      { t with domains := State.reset.domains, lastGranted := 14, flags := 0, reports := [], reportsLost := false }
          = { State.reset with
              strapPins := straps, strap := straps, faultInputs := s.faultInputs, pending := s.pending }
        ∧ (s.faultInputs = 0 → t.domains = State.reset.domains ∧ t.lastGranted = 14 ∧ t.flags = 0
            ∧ t.reports = [] ∧ t.reportsLost = false)
        ∧ ∀ d : DomainIx, t.domains[d].state = .queued ∨ t.domains[d].state = .powerUp
            ∨ t.domains[d].state = .fault ∧ s.faultInputs.getLsbD d.val = true

/-- A warm reset, by the reset input or after an answered Warm Reset request: what it keeps and what it clears, and
each domain by the state it held. The kept phase and pins, the strap operand and the separate step are the model's
choices (log entries 2, 3, 4 and 12). -/
def Obligations.WarmResetKeepsAndClears : Prop :=
  ∀ (s : State) (straps : Fin 4) (c : Instr),
    c = .resetInput straps ∨ c = .warmResetTakesPlace straps ∧ s.warmResetPending = true ∧ s.response = none →
    Answers c s fun t =>
      { t with domains := s.domains, lastGranted := s.lastGranted, flags := s.flags, reports := s.reports,
               reportsLost := s.reportsLost }
          = { s with
              mode := .unconfigured, strapPins := straps, strap := straps, deadline := 120, requests := [],
              requestOverrun := false, response := none, warmResetPending := false, trunk := .quiet,
              silence := none, pointer := 6, classification := none, freeBuffers := 96,
              ports := Vector.ofFn fun p =>
                { s.ports[p] with landing := [], overrun := false, queue := [], flight := none, discards := 0 },
              branches := Vector.ofFn fun b =>
                { s.branches[b] with
                  mode := .awake, chatterCount := 0, windowTimer := none, isolationTimer := none, cause := .none,
                  seen := s.branches[b].seen || (s.branches[b].mode.atRest || s.branches[b].mode == .isolated),
                  drainTimer := none, closing := false },
              rules := Vector.ofFn fun r => { s.rules[r] with suspect := none, quarantine := none },
              schedule := Vector.ofFn fun e => { s.schedule[e] with countdown := s.schedule[e].period },
              account := { s.account with carry := 0, timer := 250 }.recomputed s.budget }
        ∧ (s.faultInputs = 0 → t.flags = 0 ∧ t.reports = [] ∧ t.reportsLost = false)
        ∧ ∀ d : DomainIx,
            let x := s.domains[d]
            let y := { x with waker := none, awaiting := false }
            let waits := { y with
              state := .queued, remaining := 0, pending := x.defaultLinger, pendingClass := .b, settle := 0 }
            match x.state with
            | .on | .releasing => t.domains[d] =
                { y with state := .on, remaining := x.defaultLinger, pending := 0, pendingClass := .c, settle := 0 }
            | .powerUp => t.domains[d] =
                { y with remaining := 0, pending := x.defaultLinger, pendingClass := .b, settle := x.settleTime }
            | .queued | .off | .fault => s.waitsOrGranted d waits t.domains[d]

/-! ## Reception -/

/-- A frame that lands joins its port's landing buffer. On TP it makes the trunk Active and nothing else changes.
On a branch its reception notice confirms the On awaiting domains, clears the suspicion of the rules they name,
and withdraws the marker of a Draining branch, and where there is none of these nothing else changes. -/
def Obligations.LandedFramesAct : Prop :=
  ∀ (s : State) (b : Branch) (f : Frame),
    s.mode ≠ .fallback → f.wf = true →
    let ps := s.ports[portOf b]
    let drains := s.branches[b].mode = .draining
    let confirmed := fun d : DomainIx =>
      s.domains[d].branch = some b ∧ s.domains[d].state = .on ∧ s.domains[d].awaiting = true
    (f.payload.length ≤ s.ports[trunkPort].params.maxPayload → s.ports[trunkPort].landing.length < 2 →
        exec (.frameReception trunkPort f) s = .next
          { s.putPort trunkPort
              { s.ports[trunkPort] with landing := s.ports[trunkPort].landing ++ [f] } with
            trunk := .active, silence := some s.silenceTime })
      ∧ (f.payload.length ≤ ps.params.maxPayload → ps.landing.length < 2 → s.branches[b].mode ≠ .off →
        s.branches[b].mode ≠ .isolated →
        Answers (.frameReception (portOf b) f) s fun t =>
          { t with domains := s.domains, rules := s.rules }
              = (s.putPort (portOf b)
                  { ps with
                    landing := ps.landing ++ [f]
                    queue := if drains then ps.queue.filter QueueItem.isFrame else ps.queue }).putBranch b
                  (if drains then { s.branches[b] with mode := .awake, drainTimer := none, closing := false }
                    else s.branches[b])
            ∧ (∀ d : DomainIx, t.domains[d] =
                if confirmed d then { s.domains[d] with waker := none, awaiting := false }
                else if drains ∧ s.domains[d].branch = some b ∧ s.domains[d].state = .releasing then
                  { s.domains[d] with state := .on, remaining := s.cappedAt s.domains[d].defaultLinger }
                else s.domains[d])
            ∧ ∀ r : RuleIx, t.rules[r] =
                if ∃ d : DomainIx, confirmed d ∧ s.domains[d].waker = some r then { s.rules[r] with suspect := none }
                else s.rules[r])

/-- Frames that do not land. Remote frames, and frames on the segment of a branch Off or Isolated, have no effect;
an ill-formed frame, which no bus brings, is a fault of the model. Packet babble, and a frame that finds both
slots full, which raises LANDING_OVERRUN while the port's mark is clear, make the trunk Active on TP, and are one
chattered frame on a branch in Listen in Parked, which isolates the branch where its count comes to the limit. The
fault, and that LANDING_OVERRUN is raised before the chatter is counted, are the model's choices (log entries 11
and 9). -/
def Obligations.FramesThatDoNotLand : Prop :=
  ∀ (s : State) (b : Branch) (f : Frame) (p : Port),
    exec (.remoteFrame p) s = .next s
      ∧ (s.branches[b].mode = .off ∨ s.branches[b].mode = .isolated → f.wf = true →
          exec (.frameReception (portOf b) f) s = .next s)
      ∧ (f.wf = false → exec (.frameReception p f) s = .fault .notADataFrame)
      ∧ (f.wf = true → s.receives p = true →
        s.ports[p].params.maxPayload < f.payload.length ∨ s.ports[p].landing.length = 2 →
        let babble := s.ports[p].params.maxPayload < f.payload.length
        let told := if babble ∨ s.ports[p].overrun = true then s
          else (s.putPort p { s.ports[p] with overrun := true }).raise .landingOverrun (some p.val) 0 0
        let counted := told.putBranch b { s.branches[b] with chatterCount := s.branches[b].chatterCount + 1 }
        (p = trunkPort →
            exec (.frameReception p f) s = .next { told with trunk := .active, silence := some s.silenceTime })
          ∧ (p = portOf b → s.countsNoChatter p → exec (.frameReception p f) s = .next told)
          ∧ (p = portOf b → s.mode = .parked → s.branches[b].mode = .listen →
            (s.branches[b].chatterCount + 1 < s.branches[b].params.chatterLimit →
                exec (.frameReception p f) s = .next counted)
              ∧ (s.branches[b].params.chatterLimit ≤ s.branches[b].chatterCount + 1 → s.faultInputs = 0 →
                Answers (.frameReception p f) s fun t => counted.isolatedBy t b .chatter)))

/-- The first frame to land in Fallback returns the part to Unconfigured with its entry effects: every branch
Awake, every domain not in Fault requested with class B and its default linger, the deadline loaded; the account goes
on and everything else is as it was. That the group of wake requests joins before any grant is the model's reading
(log entry 6). -/
def Obligations.FirstLandingEndsFallback : Prop :=
  ∀ (s : State) (p : Port) (f : Frame),
    s.mode = .fallback → (∀ b : Branch, s.branches[b].mode = .listen) →
    (∀ d : DomainIx, s.domains[d].state = .off ∨ s.domains[d].state = .fault) → f.wf = true →
    f.payload.length ≤ s.ports[p].params.maxPayload → s.ports[p].landing.length < 2 →
      Answers (.frameReception p f) s fun t =>
        { t with domains := s.domains, lastGranted := s.lastGranted, flags := s.flags, reports := s.reports,
                 reportsLost := s.reportsLost }
            = { s with
                mode := .unconfigured, deadline := 120,
                trunk := if p = trunkPort then .active else s.trunk,
                silence := if p = trunkPort then some s.silenceTime else s.silence,
                ports := Vector.ofFn fun q =>
                  { s.ports[q] with
                    landing := if q = p then s.ports[q].landing ++ [f] else s.ports[q].landing,
                    queue := s.ports[q].queue.filter QueueItem.isFrame },
                branches := Vector.ofFn fun b =>
                  { s.branches[b] with
                    mode := .awake, seen := true, chatterCount := 0, windowTimer := none, drainTimer := none,
                    closing := false } }
          ∧ (∀ d : DomainIx, s.domains[d].state = .fault → t.domains[d] = s.domains[d])
          ∧ (∀ d : DomainIx, s.domains[d].state = .off → s.waitsOrGranted d
              { s.domains[d] with
                state := .queued, pending := s.domains[d].defaultLinger, pendingClass := .b } t.domains[d])
          ∧ (s.faultInputs = 0 → t.flags = s.flags ∧ t.reports = s.reports ∧ t.reportsLost = s.reportsLost)

/-! ## Classification -/

/-- The classifier takes the oldest frame of the first port, cyclically from the one after the pointer, that has
landed one, and it waits while none is landed. -/
def Obligations.ClassifierTakesPortsInTurn : Prop :=
  ∀ (s : State) (j : Fin 7) (f : Frame) (rest : List Frame),
    s.classification = none → s.mode ≠ .fallback →
    let p := s.pointer + 1 + j
    ((∀ k : Fin 7, k < j → s.ports[s.pointer + 1 + k].landing = []) → s.ports[p].landing = f :: rest →
        exec .classifierTakesFrame s =
          .next { s.putPort p { s.ports[p] with
                    landing := rest, overrun := if rest = [] then false else s.ports[p].overrun } with
                  pointer := p
                  classification := some { frame := f, port := p, verdict := s.classify p f } })
      ∧ ((∀ q : Port, s.ports[q].landing = []) → exec .classifierTakesFrame s = .next s)

/-- A record accepts a frame by its ingress set, identifier kind, identifier under the mask, format, minimum length,
every lane test, and its word test with compare on. -/
def Obligations.RecordAcceptsByEveryTest : Prop :=
  ∀ (r : RuleRecord) (p : Port) (f : Frame),
    r.accepts p f = true ↔
      r.ingress.getLsbD p.val = true
        ∧ (r.kind = .any ∨ r.kind = .base ∧ f.kind = .base ∨ r.kind = .extended ∧ f.kind = .extended)
        ∧ (∀ n : Fin 29, r.idMask.getLsbD n.val = true → f.id.getLsbD n.val = r.idValue.getLsbD n.val)
        ∧ (r.format = .any ∨ r.format = .classic ∧ f.format = .classic ∨ r.format = .fd ∧ f.format = .fd)
        ∧ r.minLength ≤ f.payload.length
        ∧ (∀ t ∈ r.lanes, ∃ x ∈ f.payload[t.offset]?,
            match t.op with
            | .eq => x &&& t.mask = t.operand
            | .ne => x &&& t.mask ≠ t.operand
            | .ge => t.operand ≤ x &&& t.mask
            | .le => x &&& t.mask ≤ t.operand)
        ∧ ∀ t ∈ r.word, t.compare = true → ∃ x ∈ f.payload[t.offset]?, ∃ y ∈ f.payload[t.offset + 1]?,
            let n := if t.lowFirst then x.toNat + 256 * y.toNat else 256 * x.toNat + y.toNat
            let w := BitVec.ofNat 16 n &&& t.mask
            match t.op with
            | .eq => w = t.operand
            | .ne => w ≠ t.operand
            | .ge => t.operand ≤ w
            | .le => w ≤ t.operand

/-- What the classifier makes of a frame: a management request, transparent forwarding in Unconfigured, the lowest
rule that takes part and accepts it, with its action fields, or without one the port's no-match policy. -/
def Obligations.VerdictFollowsModeAndTable : Prop :=
  ∀ (s : State) (p : Port) (f : Frame) (r : RuleIx),
    let request := p = trunkPort ∧ f.kind = .base ∧ f.id = Config.mreq s.strap
    let walked := ¬ request ∧ (s.mode = .drive ∨ s.mode = .parked)
    let hit := fun q : RuleIx =>
      s.rules[q].record.valid = true ∧ s.rules[q].record.enabled = true ∧ s.rules[q].quarantine = none
        ∧ s.rules[q].record.accepts p f = true
    let x := s.rules[r].record
    (request → s.classify p f = .management)
      ∧ (¬ request → s.mode = .unconfigured → s.classify p f = .transparent s.ports[p].params.forward)
      ∧ (walked → hit r → (∀ q : RuleIx, q < r → ¬ hit q) → s.classify p f = .matched
          { rule := r, cls := x.cls, wake := x.wake, activity := x.activity,
            forward := x.forward &&& ~~~(BitVec.twoPow 7 p.val), hold := x.hold, confirm := x.confirm,
            linger := x.linger,
            battery := if x.battery then x.word.bind fun t => t.masked f.payload else none })
      ∧ (walked → (∀ q : RuleIx, ¬ hit q) → s.classify p f =
          if s.ports[p].params.noMatch = .pass then .pass s.ports[p].params.forward else .dropped)

/-! ## Dispatch and admission -/

/-- An Honoured dispatch that wakes one domain, by the state of the domain (R101), with its effective linger (R60)
and, in Parked, its arming (R63). An Off domain is Queued and its branch follows: a branch at rest goes to Waking
and a Draining one has its marker withdrawn (R89); while a place is free it is granted at once (R105), and an
asserted fault input then puts it in Fault (R112). -/
def Obligations.HonouredWakeByDomainState : Prop :=
  ∀ (s : State) (c : Classification) (m : Match) (d : DomainIx) (b : Branch),
    s.classification = some c → c.verdict = .matched m → s.honours m.cls → m.wake = BitVec.twoPow 16 d.val →
    m.activity = 0 → m.forward = 0 → m.battery = none → s.arbiterIdle →
    let free := { s with classification := none }
    let x := s.domains[d]
    let linger := s.cappedAt (if m.linger = 0 then x.defaultLinger else m.linger)
    let armed := s.mode = .parked ∧ m.confirm = true ∧ x.branch.isSome = true
    let queued := { x with
      state := .queued, pending := linger, pendingClass := m.cls,
      waker := if armed then some m.rule else x.waker, awaiting := if armed then true else x.awaiting }
    let granted := { queued with state := .powerUp, seen := true, settle := x.settleTime }
    (x.state = .off → s.inrushLimit ≤ s.powerUpCount →
        (x.branch = none → exec .classificationDispatch s = .next (free.putDomain d queued))
          ∧ (x.branch = some b → s.branches[b].mode = .waking ∨ s.branches[b].mode = .awake →
              exec .classificationDispatch s = .next (free.putDomain d queued))
          ∧ (x.branch = some b → s.mode = .parked →
              exec .classificationDispatch s = .next (free.joined d b queued)))
      ∧ (x.state = .off → x.branch = some b → s.branches[b].mode = .isolated →
        exec .classificationDispatch s = .next free)
      ∧ (x.state = .off → s.powerUpCount < s.inrushLimit →
        (s.faultInputs.getLsbD d.val = false →
            (x.branch = none ∨ x.branch = some b ∧ (s.branches[b].mode = .waking ∨ s.branches[b].mode = .awake) →
                exec .classificationDispatch s = .next { free.putDomain d granted with lastGranted := d })
              ∧ (x.branch = some b → s.mode = .parked → s.branches[b].mode ≠ .isolated →
                exec .classificationDispatch s = .next { free.joined d b granted with lastGranted := d }))
          ∧ (s.faultInputs.getLsbD d.val = true → x.branch = none → exec .classificationDispatch s =
            .next (({ free.putDomain d { x.dark with state := .fault, seen := true } with
              lastGranted := d } : State).raise .domainFault (some d.val) 2 0)))
      ∧ (x.state = .queued ∨ x.state = .powerUp → exec .classificationDispatch s =
          .next (free.putDomain d
            { x with
              pending := max x.pending linger
              pendingClass := if x.pendingClass = .a ∨ m.cls = .a then .a
                else if x.pendingClass = .b ∨ m.cls = .b then .b else .c }))
      ∧ (x.state = .on → exec .classificationDispatch s =
          .next (free.putDomain d { x with remaining := max x.remaining linger }))
      ∧ (x.state = .releasing → x.branch = none → exec .classificationDispatch s =
          .next (free.putDomain d { x with state := .on, remaining := linger }))
      ∧ (x.state = .fault → exec .classificationDispatch s = .next free)

/-- A wake request, or an activity reload of an Honoured or a Deliver-only dispatch, that returns a Releasing
domain to On withdraws the marker of its Draining branch: entries stay, the branch is Awake, and its other
Releasing domains return to On. -/
def Obligations.RevivalWithdrawsMarker : Prop :=
  ∀ (s : State) (c : Classification) (m : Match) (d : DomainIx) (b : Branch),
    s.classification = some c → c.verdict = .matched m → s.arbiterIdle →
    let wakes := s.honours m.cls ∧ m.wake = BitVec.twoPow 16 d.val ∧ m.activity = 0
    let delivers := s.mode = .parked ∧ ¬ s.honours m.cls
      ∧ ¬ (m.cls = .c ∧ (s.account.effective = .red ∨ s.account.effective = .exhausted))
    wakes ∨ (s.honours m.cls ∧ m.wake = 0 ∨ delivers) ∧ m.activity = BitVec.twoPow 16 d.val →
    m.forward = 0 → m.battery = none → s.domains[d].state = .releasing → s.domains[d].branch = some b →
    s.branches[b].mode = .draining → s.countsNoChatter c.port →
    let reload := s.cappedAt s.domains[d].defaultLinger
    let asked := s.cappedAt (if m.linger = 0 then s.domains[d].defaultLinger else m.linger)
    Answers .classificationDispatch s fun t =>
      { t with domains := s.domains }
          = ({ s with classification := none }.putPort (portOf b)
              { s.ports[portOf b] with queue := s.ports[portOf b].queue.filter QueueItem.isFrame }).putBranch b
              { s.branches[b] with mode := .awake, drainTimer := none, closing := false }
        ∧ t.domains[d] =
            { s.domains[d] with
              state := .on, remaining := if m.activity = 0 then asked else max s.domains[d].remaining reload }
        ∧ ∀ i : DomainIx, i ≠ d → t.domains[i] =
            if s.domains[i].branch = some b ∧ s.domains[i].state = .releasing then
              { s.domains[i] with state := .on, remaining := s.cappedAt s.domains[i].defaultLinger }
            else s.domains[i]

/-- A dispatch that is not Honoured wakes nothing: Deliver-only still reloads an On domain of its activity set, Drop
does not and forwards nothing either, and class A in Parked is always Honoured. A frame whose branch is in Listen is
counted as chatter under every outcome but an Honour with a wake set, and isolates the branch where its count comes to
the limit. -/
def Obligations.UnhonouredDispatchWakesNothing : Prop :=
  ∀ (s : State) (c : Classification) (m : Match) (d : DomainIx) (b : Branch),
    s.classification = some c → s.mode = .parked → m.battery = none →
    let free := { s with classification := none }
    let dropped := m.cls = .c ∧ (s.account.effective = .red ∨ s.account.effective = .exhausted)
    (c.verdict = .matched m → ¬ s.honours m.cls → s.countsNoChatter c.port →
        m.cls ≠ .a
          ∧ (dropped → exec .classificationDispatch s = .next free)
          ∧ (m.forward = 0 → m.activity = 0 → exec .classificationDispatch s = .next free)
          ∧ (¬ dropped → m.forward = 0 → m.activity = BitVec.twoPow 16 d.val → s.domains[d].state = .on →
            exec .classificationDispatch s = .next (free.putDomain d
              { s.domains[d] with
                remaining := max s.domains[d].remaining (s.cappedAt s.domains[d].defaultLinger) }))
          ∧ (m.forward = 0 → m.activity = BitVec.twoPow 16 d.val → s.domains[d].state ≠ .on →
            s.domains[d].state ≠ .releasing → exec .classificationDispatch s = .next free))
      ∧ (c.verdict = .dropped ∨ c.verdict = .pass 0
          ∨ c.verdict = .matched m ∧ (dropped ∨ m.forward = 0 ∧ m.activity = 0 ∧ (m.wake = 0 ∨ ¬ s.honours m.cls)) →
        c.port = portOf b → s.branches[b].mode = .listen →
        let counted := free.putBranch b { s.branches[b] with chatterCount := s.branches[b].chatterCount + 1 }
        (s.branches[b].chatterCount + 1 < s.branches[b].params.chatterLimit →
            exec .classificationDispatch s = .next counted)
          ∧ (s.branches[b].params.chatterLimit ≤ s.branches[b].chatterCount + 1 → s.faultInputs = 0 →
            Answers .classificationDispatch s fun t => counted.isolatedBy t b .chatter))

/-- A battery figure reaches the account under every outcome, after the decision: Vb takes it and the level is
recomputed, with BATTERY_LOW, LEVEL_CHANGED and the cap order where they are due. -/
def Obligations.BatteryFigureIsTaken : Prop :=
  ∀ (s : State) (c : Classification) (m : Match) (vb : BitVec 16),
    s.classification = some c → c.verdict = .matched m → s.mode = .drive ∨ s.mode = .parked →
    m.wake = 0 → m.activity = 0 → m.forward = 0 → m.battery = some vb → s.countsNoChatter c.port →
    let a := { s.account with vb := vb.toNat }.recomputed s.budget
    let took := { s with classification := none, account := a }
    exec .classificationDispatch s = .next (took.levelTold s.account)

/-- One forward copy: of a matched frame that is Honoured, with the rule's class and hold flag; of one that is
Deliver-only, with the rule's class and unheld whatever the rule holds; or of a transparent or passed frame, unheld
and of class B. It is queued at the tail with its buffer taken where the target's state takes it and there is room,
refused with HOLD_OVERFLOW where there is none (classes B and C), and dropped without trace for its target's state.
One of class A without room takes the place of the oldest entry that is not of class A and not in transmission,
where the queue stands within its cap, and is refused where there is none. On a Draining branch the drain goes on, or
ends where the entry was the last ahead of the marker, the copy being queued before the drain is settled, at once also
while a closing waits for the attempt of an entry removed earlier (log entries 15 and 35); an unheld entry on a Quiet
trunk is a candidate like any other (log entry 29). -/
def Obligations.ForwardCopyByTarget : Prop :=
  ∀ (s : State) (c : Classification) (m : Match) (q : Port) (cls : WakeClass) (hold : Bool)
    (before after : List QueueItem) (e : Entry) (b : Branch),
    s.classification = some c → s.countsNoChatter c.port →
    let delivers := s.mode = .parked ∧ ¬ s.honours cls
      ∧ ¬ (cls = .c ∧ (s.account.effective = .red ∨ s.account.effective = .exhausted))
    (c.verdict = .matched m ∧ m.forward = BitVec.twoPow 7 q.val ∧ m.cls = cls ∧ m.activity = 0 ∧ m.battery = none
        ∧ (s.honours cls ∧ m.wake = 0 ∧ m.hold = hold ∨ delivers ∧ hold = false))
      ∨ (c.verdict = .transparent (BitVec.twoPow 7 q.val) ∨ c.verdict = .pass (BitVec.twoPow 7 q.val))
        ∧ cls = .b ∧ hold = false →
    let free := { s with classification := none }
    let ps := s.ports[q]
    (s.takesCopy q hold → s.hasRoom q cls → exec .classificationDispatch s =
        .next { free.putPort q { ps with queue := ps.queue ++ [s.newEntry q c.frame cls hold] } with
                freeBuffers := s.freeBuffers - 1 })
      ∧ (s.takesCopy q hold → ¬ s.hasRoom q cls → cls ≠ .a → exec .classificationDispatch s =
        .next (free.raise .holdOverflow (some q.val) 0 cls.code))
      ∧ (¬ s.takesCopy q hold → exec .classificationDispatch s = .next free)
      ∧ (s.takesCopy q hold → ¬ s.hasRoom q cls → cls = .a →
        (frameCount ps.queue ≤ ps.params.holdCap → ps.queue = before ++ .frame e :: after →
            (∀ i ∈ before, i.evictable = false) → e.cls ≠ .a → e.sending = false →
            let left := { ps with queue := before ++ after ++ [s.newEntry q c.frame .a hold] }
            let evicted := (free.putPort q left).raise .holdOverflow (some q.val) 1 0
            (s.noDrainEnds q left → exec .classificationDispatch s = .next evicted)
              ∧ (s.mode = .parked → q = portOf b → s.branches[b].mode = .draining →
                (before ++ after).head? = some .marker →
                exec .classificationDispatch s = .next (evicted.slept b)))
          ∧ ((∀ i ∈ ps.queue, i.evictable = false) ∨ ps.params.holdCap < frameCount ps.queue →
            exec .classificationDispatch s = .next (free.raise .holdOverflow (some q.val) 0 0)))

/-- A dispatch is the dispatches of its single items, one after the other, each as if from TP, where no chatter is
counted: when Honoured its wake requests and then its activity reloads in ascending domain index, its forward copies
in port order, and its battery figure; the same without the wake requests when Deliver-only; the figure alone under
Drop; and the copies alone of a transparent or a passed frame. What calls for a chatter report is judged before any
of them and the report comes last, but an Honour with a wake set and a transparent frame give none (log entry 18).
So a held or unheld copy for the branch of a domain that the dispatch itself queues finds the branch woken. -/
def Obligations.DispatchTakesItemsInOrder : Prop :=
  ∀ (s : State) (c : Classification) (m : Match) (forward : PortSet) (d : DomainIx) (b : Branch),
    s.classification = some c →
    let alone := fun v : Verdict => ({ c with port := trunkPort, verdict := v } : Classification)
    let bare := { m with wake := 0, activity := 0, forward := 0, battery := none }
    let domainsOf := fun set : DomainSet => allDomains.filter fun i => set.getLsbD i.val
    let portsOf := fun set : PortSet => allPorts.filter fun q => set.getLsbD q.val
    let wakes := (domainsOf m.wake).map fun i => alone (.matched { bare with wake := BitVec.twoPow 16 i.val })
    let reloads := (domainsOf m.activity).map fun i =>
      alone (.matched { bare with activity := BitVec.twoPow 16 i.val })
    let copies := (portsOf m.forward).map fun q => alone (.matched { bare with forward := BitVec.twoPow 7 q.val })
    let figure := m.battery.toList.map fun vb => alone (.matched { bare with battery := some vb })
    let isThenTold := fun items : List Classification =>
      (s.countsNoChatter c.port → exec .classificationDispatch s = s.dispatchEach items)
        ∧ (¬ s.countsNoChatter c.port →
          exec .classificationDispatch s = s.dispatchEach (items ++ [{ c with verdict := .dropped }]))
    let dropped := m.cls = .c ∧ (s.account.effective = .red ∨ s.account.effective = .exhausted)
    let armed := s.mode = .parked ∧ m.confirm = true
    let queued := { s.domains[d] with
      state := .queued, pending := s.cappedAt (if m.linger = 0 then s.domains[d].defaultLinger else m.linger),
      pendingClass := m.cls, waker := if armed then some m.rule else s.domains[d].waker,
      awaiting := if armed then true else s.domains[d].awaiting }
    let joined := { s with classification := none }.joined d b queued
    (c.verdict = .matched m → s.honours m.cls →
        (m.wake ≠ 0 → exec .classificationDispatch s = s.dispatchEach (wakes ++ reloads ++ copies ++ figure))
          ∧ (m.wake = 0 → isThenTold (reloads ++ copies ++ figure))
          ∧ (s.mode = .parked → m.wake = BitVec.twoPow 16 d.val → m.activity = 0 →
            m.forward = BitVec.twoPow 7 (portOf b).val → m.battery = none → s.domains[d].state = .off →
            s.domains[d].branch = some b → s.branches[b].mode ≠ .isolated → s.inrushLimit ≤ s.powerUpCount →
            s.hasRoom (portOf b) m.cls → exec .classificationDispatch s =
              .next { joined.putPort (portOf b)
                        { joined.ports[portOf b] with
                          queue := joined.ports[portOf b].queue ++ [s.newEntry (portOf b) c.frame m.cls m.hold] } with
                      freeBuffers := s.freeBuffers - 1 }))
      ∧ (c.verdict = .matched m → s.mode = .parked → ¬ s.honours m.cls →
        (dropped → isThenTold figure) ∧ (¬ dropped → isThenTold (reloads ++ copies ++ figure)))
      ∧ (c.verdict = .transparent forward → exec .classificationDispatch s =
        s.dispatchEach ((portsOf forward).map fun q => alone (.transparent (BitVec.twoPow 7 q.val))))
      ∧ (c.verdict = .pass forward →
        isThenTold ((portsOf forward).map fun q => alone (.pass (BitVec.twoPow 7 q.val))))

/-! ## Transmission -/

/-- An attempt begins on a branch's head entry while the branch is Awake or Draining and not closing, and in no
other state. TP prefers the response slot in either trunk state, then the head report, then the head entry, the
last two while the trunk is Active; a report begun on, a retry too, takes the reports-lost mark with it (log entry
32). That a command with no attempt to begin changes nothing is the model's choice (log entry 16). -/
def Obligations.AttemptsBeginByPreference : Prop :=
  ∀ (s : State) (b : Branch) (p : Port) (r : Response) (x : Report) (later : List Report) (e : Entry)
    (rest : List QueueItem),
    let ps := s.ports[p]
    let awake := (s.branches[b].mode = .awake ∨ s.branches[b].mode = .draining) ∧ s.branches[b].closing = false
    let begun := s.putPort p
      { ps with
        queue := .frame { e with attempts := e.attempts + 1, sending := true } :: rest
        flight := some { source := .entry, frame := e.frame } }
    (p = portOf b → ps.queue = .frame e :: rest →
        (awake → ps.flight = none → e.attempts < 3 → exec (.transmissionAttempt p) s = .next begun)
          ∧ (¬ (awake ∧ ps.flight = none ∧ e.attempts < 3) → exec (.transmissionAttempt p) s = .next s))
      ∧ (p = trunkPort → ps.flight = none →
        (s.response = some r → r.attempts < 3 → exec (.transmissionAttempt p) s =
            .next { s.putPort p
                      { ps with
                        flight := some { source := .response, frame := responseFrame s.strap r.bytes } } with
                    response := some { r with attempts := r.attempts + 1 } })
          ∧ (s.response = none → s.trunk = .active → s.reports = x :: later → x.attempts < 3 →
            let y := { x with attempts := x.attempts + 1, lost := x.lost || s.reportsLost }
            exec (.transmissionAttempt p) s =
              .next { s.putPort p
                        { ps with flight := some { source := .report, frame := reportFrame s.strap y } } with
                      reports := y :: later, reportsLost := false })
          ∧ (s.response = none → s.trunk = .active → s.reports = [] → ps.queue = .frame e :: rest →
            e.attempts < 3 → exec (.transmissionAttempt p) s = .next begun)
          ∧ (s.response = none → s.trunk = .quiet → exec (.transmissionAttempt p) s = .next s))

/-- The outputs: the central wake line while the trunk is Quiet with an urgent record or a held TP entry, the
transceiver mode pairs by the branch states and normal on TP, the domain enables in PowerUp, On and Releasing, and
on a bus the frame of the attempt in flight, an FD frame with the bit-rate switch set. -/
def Obligations.OutputsFollowState : Prop :=
  ∀ (s : State) (p : Port) (b : Branch) (d : DomainIx),
    (s.wakeLine = true ↔ s.trunk = .quiet ∧
        ((∃ r ∈ s.reports, r.urgent = true) ∨ ∃ e : Entry, .frame e ∈ s.ports[trunkPort].queue ∧ e.hold = true))
      ∧ s.transceiver trunkPort = .normal
      ∧ s.transceiver (portOf b) =
        (match s.branches[b].mode with
          | .off | .isolated => .off
          | .listen => .lowPower
          | .waking | .awake | .draining => .normal)
      ∧ (s.enableOutput d = true ↔
        s.domains[d].state = .powerUp ∨ s.domains[d].state = .on ∨ s.domains[d].state = .releasing)
      ∧ s.busOutput p =
        (match s.ports[p].flight with
          | none => none
          | some f => some (f.frame, match f.frame.format with | .fd => true | .classic => false))

/-- A response is a base frame on MRSP, classic up to 8 bytes and otherwise FD, padded with zero bytes to the
least FD length that holds it; a report is an FD frame of 12 bytes on MREP with its kind, marks, stamp, subject
and details; the identifiers follow the strap value. -/
def Obligations.ResponsesAndReportsAsFrames : Prop :=
  ∀ (strap : Fin 4) (bytes : List Byte) (r : Report),
    let f := responseFrame strap bytes
    let g := reportFrame strap r
    let lengths := [0, 1, 2, 3, 4, 5, 6, 7, 8, 12, 16, 20, 24, 32, 48, 64]
    let kind : Byte :=
      match r.kind with
      | .domainFault => 0x01
      | .ruleQuarantined => 0x02
      | .portIsolated => 0x03
      | .levelChanged => 0x04
      | .batteryLow => 0x05
      | .holdOverflow => 0x06
      | .landingOverrun => 0x07
      | .scheduleSkipped => 0x08
      | .accountSaturated => 0x09
      | .fallbackEntered => 0x0A
    let octet := fun n k : Nat => BitVec.ofNat 8 (n / 256 ^ k)
    f.kind = .base ∧ f.id = BitVec.ofNat 29 ([0x6C1, 0x6D1, 0x6E1, 0x5C1].getD strap.val 0)
      ∧ (bytes.length ≤ 8 → f.format = .classic ∧ f.payload = bytes)
      ∧ (8 < bytes.length → bytes.length ≤ 64 →
        f.format = .fd ∧ f.payload = bytes ++ List.replicate (f.payload.length - bytes.length) 0
          ∧ bytes.length ≤ f.payload.length ∧ f.payload.length ∈ lengths
          ∧ ∀ n ∈ lengths, bytes.length ≤ n → f.payload.length ≤ n)
      ∧ g = { kind := .base, id := BitVec.ofNat 29 ([0x6C2, 0x6D2, 0x6E2, 0x5C2].getD strap.val 0), format := .fd
              payload :=
                [kind, (if r.lost then 1 else 0) + (if r.urgent then 2 else 0), octet r.stamp 3, octet r.stamp 2,
                 octet r.stamp 1, octet r.stamp 0, BitVec.ofNat 8 (r.subject.getD 0xFF), octet r.detail1 1,
                 octet r.detail1 0, octet r.detail2 1, octet r.detail2 0, 0] }

/-- A Delivered attempt removes its candidate, clears the port's discard count and, on TP while Active, reloads the
silence timer; a Draining branch whose drain does not end there goes on draining. How the model marks the attempt in
flight is log entry 16. -/
def Obligations.DeliveredRemovesCandidate : Prop :=
  ∀ (s : State) (p : Port) (f : Flight) (e : Entry) (rest : List QueueItem),
    s.ports[p].flight = some f →
    let done := { s.ports[p] with flight := none, discards := 0 }
    let heard := if p = trunkPort ∧ s.trunk = .active then { s with silence := some s.silenceTime } else s
    (f.source = .entry → s.ports[p].queue = .frame e :: rest → s.noDrainEnds p { done with queue := rest } →
        exec (.attemptEnd p .delivered) s =
          .next { heard.putPort p { done with queue := rest } with freeBuffers := s.freeBuffers + 1 })
      ∧ (f.source = .removed → s.noDrainEnds p done → exec (.attemptEnd p .delivered) s =
        .next { heard.putPort p done with freeBuffers := s.freeBuffers + 1 })
      ∧ (f.source = .response → p = trunkPort → s.response.isSome = true →
        exec (.attemptEnd p .delivered) s = .next { heard.putPort p done with response := none })
      ∧ (f.source = .report → p = trunkPort → s.reports ≠ [] →
        exec (.attemptEnd p .delivered) s = .next { heard.putPort p done with reports := s.reports.tail })

/-- A Failed attempt below the third keeps its candidate with its count, but for an entry whose deadline has passed
and for one removed during the attempt. A third discards the candidate and is counted; below three discards nothing
else follows. A Draining branch whose drain does not end there goes on draining. How the model marks the attempt in
flight is log entry 16. -/
def Obligations.FailedAttemptKeepsOrDiscards : Prop :=
  ∀ (s : State) (p : Port) (f : Flight) (e : Entry) (rest : List QueueItem) (r : Response) (x : Report)
    (later : List Report),
    s.ports[p].flight = some f →
    let idle := { s.ports[p] with flight := none }
    let counted := { idle with discards := s.ports[p].discards + 1 }
    let waits := { idle with queue := .frame { e with sending := false } :: rest }
    (f.source = .entry → s.ports[p].queue = .frame e :: rest →
        (e.attempts < 3 → 0 < e.deadline → s.noDrainEnds p waits →
            exec (.attemptEnd p .failed) s = .next (s.putPort p waits))
          ∧ (e.attempts < 3 → e.deadline = 0 → s.noDrainEnds p { idle with queue := rest } →
            exec (.attemptEnd p .failed) s =
              .next { s.putPort p { idle with queue := rest } with freeBuffers := s.freeBuffers + 1 })
          ∧ (3 ≤ e.attempts → s.ports[p].discards < 2 → s.noDrainEnds p { counted with queue := rest } →
            exec (.attemptEnd p .failed) s =
              .next { s.putPort p { counted with queue := rest } with freeBuffers := s.freeBuffers + 1 }))
      ∧ (f.source = .removed → s.noDrainEnds p idle → exec (.attemptEnd p .failed) s =
        .next { s.putPort p idle with freeBuffers := s.freeBuffers + 1 })
      ∧ (f.source = .response → p = trunkPort → s.response = some r →
        (r.attempts < 3 → exec (.attemptEnd p .failed) s = .next (s.putPort p idle))
          ∧ (3 ≤ r.attempts → s.ports[p].discards < 2 →
            exec (.attemptEnd p .failed) s = .next { s.putPort p counted with response := none }))
      ∧ (f.source = .report → p = trunkPort → s.reports = x :: later →
        (x.attempts < 3 → exec (.attemptEnd p .failed) s = .next (s.putPort p idle))
          ∧ (3 ≤ x.attempts → s.ports[p].discards < 2 → exec (.attemptEnd p .failed) s =
            .next { s.putPort p counted with reports := later, reportsLost := true }))

/-- The third consecutive discard: a branch is isolated for NO_ACK, and TP, be it an entry, a response or a report
that it discards, goes Quiet, loses its unheld entries and starts its count again. The order of PORT_ISOLATED and the
cut's grants is the model's choice (log entry 14), as is that a branch is isolated so in every state it may be in (log
entry 24). -/
def Obligations.ThirdDiscardCutsPort : Prop :=
  ∀ (s : State) (b : Branch) (f : Flight) (e : Entry) (rest : List QueueItem) (p : Port) (r : Response) (x : Report)
    (later : List Report),
    s.ports[p].flight = some f → s.ports[p].discards = 2 →
    let gone := { s.ports[p] with flight := none, queue := rest, discards := 3 }
    let quieted := { s.putPort p { gone with queue := rest.filter QueueItem.held, discards := 0 } with
                     trunk := .quiet, silence := none
                     freeBuffers := s.freeBuffers + rest.countP fun i : QueueItem => !i.held }
    (p = portOf b → f.source = .entry → s.ports[p].queue = .frame e :: rest → e.attempts = 3 →
        (∀ i ∈ rest, i.sending = false) → s.faultInputs = 0 → s.mode ≠ .fallback → s.branches[b].mode ≠ .isolated →
        Answers (.attemptEnd p .failed) s fun t =>
          ({ s.putPort p gone with freeBuffers := s.freeBuffers + 1 }).isolatedBy t b .noAck)
      ∧ (p = trunkPort → (∀ i ∈ rest, i.isFrame = true ∧ i.sending = false) →
        (f.source = .entry → s.ports[p].queue = .frame e :: rest → e.attempts = 3 →
            exec (.attemptEnd p .failed) s = .next { quieted with freeBuffers := quieted.freeBuffers + 1 })
          ∧ (f.source = .response → s.ports[p].queue = rest → s.response = some r → r.attempts = 3 →
            exec (.attemptEnd p .failed) s = .next { quieted with response := none })
          ∧ (f.source = .report → s.ports[p].queue = rest → s.reports = x :: later → x.attempts = 3 →
            exec (.attemptEnd p .failed) s = .next { quieted with reports := later, reportsLost := true }))

/-- The ends of a drain: the branch goes to rest, its Releasing domains go Off and held entries stay. It ends where
the last entry ahead of the marker leaves, by its attempt's end or by its deadline, or where the drain limit expires
with no attempt in flight. With an attempt in flight the limit's expiry sets the closing mark alone, and the drain
ends at that attempt's end wherever the marker stands: a Failed one below the third is not tried again and a third
one is counted, the third discard, which isolates the branch instead, apart. That a closing drain has no running
timer, that the limit expires at the count of 0 alone and that a deadline ends a closing drain at once also while the
attempt of an entry removed earlier is in flight are the model's choices (log entries 17, 5 and 35); how the model
marks the attempt in flight is log entry 16. -/
def Obligations.DrainsEndAtRest : Prop :=
  ∀ (s : State) (b : Branch) (f : Flight) (e : Entry) (rest : List QueueItem),
    s.mode = .parked → s.branches[b].mode = .draining →
    let ps := s.ports[portOf b]
    let closing := s.branches[b].closing = true
    let slept := fun u : State => u.slept b
    let idle := { ps with flight := none }
    let left := fun x : PortState => { s.putPort (portOf b) x with freeBuffers := s.freeBuffers + 1 }
    (ps.flight = some f → f.source = .entry → ps.queue = .frame e :: rest →
        (rest.head? = some .marker ∨ closing →
            exec (.attemptEnd (portOf b) .delivered) s =
                .next (slept (left { idle with queue := rest, discards := 0 }))
              ∧ (3 ≤ e.attempts → ps.discards < 2 → exec (.attemptEnd (portOf b) .failed) s =
                .next (slept (left { idle with queue := rest, discards := ps.discards + 1 })))
              ∧ (e.attempts < 3 → e.deadline = 0 → exec (.attemptEnd (portOf b) .failed) s =
                .next (slept (left { idle with queue := rest }))))
          ∧ (closing → e.attempts < 3 → 0 < e.deadline → exec (.attemptEnd (portOf b) .failed) s =
            .next (slept (s.putPort (portOf b)
              { idle with queue := .frame { e with sending := false } :: rest }))))
      ∧ (ps.flight = some f → f.source = .removed → closing →
        exec (.attemptEnd (portOf b) .delivered) s = .next (slept (left { idle with discards := 0 }))
          ∧ exec (.attemptEnd (portOf b) .failed) s = .next (slept (left idle)))
      ∧ (ps.queue = .frame e :: rest → rest.head? = some .marker → e.deadline = 0 → e.sending = false →
        exec (.deadlineExpiry (portOf b) 0) s = .next (slept (left { ps with queue := rest })))
      ∧ (s.branches[b].drainTimer = some 0 → ps.queue.head? ≠ some .marker →
        (ps.flight.isSome = true → exec (.drainLimitExpiry b) s =
            .next (s.putBranch b { s.branches[b] with drainTimer := none, closing := true }))
          ∧ (ps.flight = none → exec (.drainLimitExpiry b) s = .next (slept s)))

/-! ## Expiries and pins -/

/-- An expiry takes place where its timer runs and its count stands at 0, and nowhere else: a command whose timer
another event has stopped or reloaded first changes nothing (log entry 5). The silence timer's makes the trunk
Quiet, a chatter window's clears the count and opens the next window, a suspect or quarantine timer's ends that
state. -/
def Obligations.ExpiriesFollowTheirCounts : Prop :=
  ∀ (s : State) (b : Branch) (r : RuleIx) (d : DomainIx) (p : Port) (e : EntryIx) (place : Nat),
    (s.silence = some 0 → exec .silenceTimerExpiry s = .next { s with trunk := .quiet, silence := none })
      ∧ (s.branches[b].windowTimer = some 0 → exec (.chatterWindowExpiry b) s =
          .next (s.putBranch b
            { s.branches[b] with chatterCount := 0, windowTimer := some s.branches[b].params.chatterWindow }))
      ∧ (s.rules[r].suspect = some 0 →
          exec (.suspectTimerExpiry r) s = .next (s.putTableRule r { s.rules[r] with suspect := none }))
      ∧ (s.rules[r].quarantine = some 0 →
          exec (.quarantineTimerExpiry r) s = .next (s.putTableRule r { s.rules[r] with quarantine := none }))
      ∧ (s.silence ≠ some 0 → exec .silenceTimerExpiry s = .next s)
      ∧ (s.branches[b].windowTimer ≠ some 0 → exec (.chatterWindowExpiry b) s = .next s)
      ∧ (s.rules[r].suspect ≠ some 0 → exec (.suspectTimerExpiry r) s = .next s)
      ∧ (s.rules[r].quarantine ≠ some 0 → exec (.quarantineTimerExpiry r) s = .next s)
      ∧ (s.mode ≠ .unconfigured ∨ s.deadline ≠ 0 → exec .configurationDeadlineExpiry s = .next s)
      ∧ (s.domains[d].state ≠ .powerUp ∨ s.domains[d].settle ≠ 0 → exec (.settleExpiry d) s = .next s)
      ∧ (s.mode ≠ .parked ∨ s.domains[d].state ≠ .on ∨ s.domains[d].remaining ≠ 0 →
          exec (.lingerExpiry d) s = .next s)
      ∧ (s.branches[b].mode ≠ .draining ∨ s.branches[b].drainTimer ≠ some 0 →
          exec (.drainLimitExpiry b) s = .next s)
      ∧ (s.branches[b].mode ≠ .isolated ∨ s.branches[b].isolationTimer ≠ some 0 →
          exec (.isolationTimerExpiry b) s = .next s)
      ∧ (s.mode ≠ .parked ∨ s.schedule[e].enabled = false ∨ s.schedule[e].countdown ≠ 0 →
          exec (.scheduleExpiry e) s = .next s)
      ∧ (s.account.timer ≠ 0 → exec .accountingExpiry s = .next s)
      ∧ ((∀ x : Entry, s.ports[p].queue[place]? = some (.frame x) → x.deadline ≠ 0 ∨ x.sending = true) →
          exec (.deadlineExpiry p place) s = .next s)

/-- Entry to Fallback at the configuration deadline's expiry: every block's part in it, then FALLBACK_ENTERED. -/
def Obligations.DeadlineEntersFallback : Prop :=
  ∀ (s : State),
    let domains := Vector.ofFn fun d : DomainIx =>
      if s.domains[d].state = .off ∨ s.domains[d].state = .fault then s.domains[d] else s.domains[d].dark
    let branches := Vector.ofFn fun b : Branch =>
      { s.branches[b] with
        mode := .listen, chatterCount := 0, windowTimer := none, isolationTimer := none, cause := .none,
        drainTimer := none, closing := false }
    let ports := Vector.ofFn fun p : Port =>
      { s.ports[p] with
        landing := [], overrun := false, queue := [], flight := s.ports[p].flightAfter s.ports[p].queue,
        discards := if p = trunkPort then s.ports[p].discards else 0 }
    let entered : State :=
      { s with
        mode := .fallback, deadline := 0, requests := [], classification := none, domains := domains,
        branches := branches, ports := ports,
        freeBuffers := s.freeBuffers + (allPorts.map fun p => idleFrames s.ports[p].queue).sum }
    (s.mode = .unconfigured → s.deadline = 0 →
        exec .configurationDeadlineExpiry s = .next (entered.raise .fallbackEntered none 0 0))
      ∧ (s.mode ≠ .unconfigured → exec .configurationDeadlineExpiry s = .next s)

/-- A fault input acts only while the enable is on: the domain then goes to Fault with DOMAIN_FAULT, and its
lingers, waker and mark go. The place that a PowerUp domain frees goes to the first candidate of the downward search.
In Parked the loss of a branch's last powered domain sends the branch to rest, and a Waking branch left with On
domains alone goes Awake. The level operand of the pin is the model's choice (log entry 3), as is that the input of a
domain that has gone Off changes the pin alone whatever took it Off (log entry 36). -/
def Obligations.FaultInputActsOnPoweredDomain : Prop :=
  ∀ (s : State) (d g : DomainIx) (b : Branch),
    let x := s.domains[d]
    let pinHigh := { s with faultInputs := s.faultInputs ||| BitVec.twoPow 16 d.val }
    let pinLow := { s with faultInputs := s.faultInputs &&& ~~~(BitVec.twoPow 16 d.val) }
    let lost := pinHigh.losing d b { x.dark with state := .fault }
    let told := fun u : State => u.raise .domainFault (some d.val) x.state.code 0
    let powered := x.state = .powerUp ∨ x.state = .on ∨ x.state = .releasing
    exec (.faultInputAsserts d false) s = .next pinLow
      ∧ (¬ powered → exec (.faultInputAsserts d true) s = .next pinHigh)
      ∧ (powered → s.mode ≠ .parked ∨ x.branch = none ∨ x.branch = some b →
        ((∀ i : DomainIx, s.domains[i].state ≠ .queued) ∨ x.state ≠ .powerUp ∧ s.inrushLimit ≤ s.powerUpCount →
            exec (.faultInputAsserts d true) s = .next (told lost))
          ∧ (x.state = .powerUp → s.powerUpCount = s.inrushLimit → s.faultInputs.getLsbD g.val = false →
            s.firstCandidate g → exec (.faultInputAsserts d true) s = .next (told (lost.granted g))))

/-- A settled domain goes On with its pending linger; in Parked its Waking branch is Awake once no domain of it
waits, and a branch in any other state stays as it is. The place it frees goes, in every part mode, to the first
candidate of the downward search from below the last-granted pointer, class A before the others. -/
def Obligations.SettledDomainGoesOn : Prop :=
  ∀ (s : State) (d g : DomainIx) (b : Branch),
    s.domains[d].state = .powerUp → s.domains[d].settle = 0 →
    s.mode ≠ .parked ∨ s.domains[d].branch = none ∨ s.domains[d].branch = some b →
    let on := s.putDomain d
      { s.domains[d] with
        state := .on, remaining := s.domains[d].pending, pending := 0, pendingClass := .c, settle := 0 }
    let othersWait := ∃ i : DomainIx, i ≠ d ∧ s.domains[i].branch = some b
      ∧ (s.domains[i].state = .queued ∨ s.domains[i].state = .powerUp)
    let followed :=
      if s.mode = .parked ∧ s.domains[d].branch = some b ∧ s.branches[b].mode = .waking ∧ ¬ othersWait then
        on.putBranch b { s.branches[b] with mode := .awake }
      else on
    ((∀ i : DomainIx, s.domains[i].state ≠ .queued) → exec (.settleExpiry d) s = .next followed)
      ∧ (s.powerUpCount = s.inrushLimit → s.faultInputs.getLsbD g.val = false → s.firstCandidate g →
        exec (.settleExpiry d) s = .next (followed.granted g))

/-- A linger expiry of a domain that awaits no confirmation: Off without a branch or beside another domain in Queued,
PowerUp or On; else Releasing with its branch Draining, and straight through the drain to rest at an empty queue. -/
def Obligations.LingerExpiryDestination : Prop :=
  ∀ (s : State) (d : DomainIx) (b : Branch),
    s.mode = .parked → s.domains[d].state = .on → s.domains[d].remaining = 0 → s.domains[d].awaiting = false →
    s.domains[d].waker = none →
    let others := ∃ i : DomainIx, i ≠ d ∧ s.domains[i].branch = some b
      ∧ (s.domains[i].state = .queued ∨ s.domains[i].state = .powerUp ∨ s.domains[i].state = .on)
    let ps := s.ports[portOf b]
    (s.domains[d].branch = none → exec (.lingerExpiry d) s = .next (s.putDomain d s.domains[d].dark))
      ∧ (s.domains[d].branch = some b → others →
        exec (.lingerExpiry d) s = .next (s.putDomain d s.domains[d].dark))
      ∧ (s.domains[d].branch = some b → ¬ others → s.branches[b].mode = .awake → ps.queue ≠ [] →
        ps.queue.head? ≠ some .marker →
        exec (.lingerExpiry d) s =
          .next (((s.putDomain d { s.domains[d] with state := .releasing, remaining := 0 }).putBranch b
              { s.branches[b] with
                mode := .draining, drainTimer := some s.branches[b].params.drainLimit, closing := false }).putPort
            (portOf b) { ps with queue := ps.queue ++ [.marker] }))
      ∧ (s.domains[d].branch = some b →
        (∀ i : DomainIx, i ≠ d → s.domains[i].branch = some b →
          s.domains[i].state = .off ∨ s.domains[i].state = .fault) →
        s.branches[b].mode = .awake → ps.queue = [] →
        exec (.lingerExpiry d) s = .next ((s.putDomain d s.domains[d].dark).rest b))

/-- An unconfirmed wake is charged at its linger expiry: good standing becomes suspect, suspect becomes quarantined
with RULE_QUARANTINED and the match in flight of that rule disarmed, and quarantined is loaded afresh. The waker and
mark are then cleared, and the domain goes where the expiry of a domain that awaits no confirmation takes it: Off
beside another domain of its branch in Queued, PowerUp or On; else Releasing, or through the drain to rest at an empty
queue. -/
def Obligations.UnconfirmedWakeIsCharged : Prop :=
  ∀ (s : State) (d : DomainIx) (b : Branch) (r : RuleIx),
    s.mode = .parked → s.domains[d].state = .on → s.domains[d].awaiting = true → s.domains[d].waker = some r →
    s.domains[d].remaining = 0 →
    let x := s.rules[r]
    let unarmed := s.classification.map fun c =>
      match c.verdict with
      | .matched m => if m.rule = r then { c with verdict := .matched { m with confirm := false } } else c
      | _ => c
    let charged :=
      if x.quarantine.isSome then s.putTableRule r { x with quarantine := some s.quarantineTime }
      else if x.suspect.isSome then
        ({ s with classification := unarmed }.putTableRule r
          { x with suspect := none, quarantine := some s.quarantineTime }).raise .ruleQuarantined (some r.val) d.val
            s.quarantineTime
      else s.putTableRule r { x with suspect := some s.suspectWindow }
    let y := { s.domains[d] with waker := none, awaiting := false }
    let others := ∃ i : DomainIx, i ≠ d ∧ s.domains[i].branch = some b
      ∧ (s.domains[i].state = .queued ∨ s.domains[i].state = .powerUp ∨ s.domains[i].state = .on)
    let ps := s.ports[portOf b]
    exec (.lingerExpiry d) s = exec (.lingerExpiry d) (charged.putDomain d y)
      ∧ (s.domains[d].branch = some b → others →
        exec (.lingerExpiry d) s = .next (charged.putDomain d s.domains[d].dark))
      ∧ (s.domains[d].branch = some b → ¬ others → s.branches[b].mode = .awake → ps.queue ≠ [] →
        ps.queue.head? ≠ some .marker →
        exec (.lingerExpiry d) s =
          .next (((charged.putDomain d { y with state := .releasing, remaining := 0 }).putBranch b
              { s.branches[b] with
                mode := .draining, drainTimer := some s.branches[b].params.drainLimit, closing := false }).putPort
            (portOf b) { ps with queue := ps.queue ++ [.marker] }))
      ∧ (s.domains[d].branch = some b →
        (∀ i : DomainIx, i ≠ d → s.domains[i].branch = some b →
          s.domains[i].state = .off ∨ s.domains[i].state = .fault) →
        s.branches[b].mode = .awake → ps.queue = [] →
        exec (.lingerExpiry d) s = .next ((charged.putDomain d s.domains[d].dark).rest b))

/-- A deadline's expiry: an entry not in transmission leaves and frees its buffer, on a Draining branch whose drain
does not end there too, one in transmission stays, and a marker has no deadline. That a marker's place is passed over
is the model's choice (log entry 26). -/
def Obligations.DeadlineRemovesEntry : Prop :=
  ∀ (s : State) (p : Port) (before after : List QueueItem) (e : Entry),
    (s.ports[p].queue = before ++ .frame e :: after → e.deadline = 0 →
        (e.sending = false → s.noDrainEnds p { s.ports[p] with queue := before ++ after } →
            exec (.deadlineExpiry p before.length) s =
              .next { s.putPort p { s.ports[p] with queue := before ++ after } with
                      freeBuffers := s.freeBuffers + 1 })
          ∧ (e.sending = true → exec (.deadlineExpiry p before.length) s = .next s))
      ∧ (s.ports[p].queue = before ++ .marker :: after → exec (.deadlineExpiry p before.length) s = .next s)

/-- An accounting expiry: the draw sum by the seen-powered marks, carry and charge, the draw average with a
division that rounds toward minus infinity, ACCOUNT_SATURATED at the first charge past the greatest count, the
marks, and then the levels with BATTERY_LOW, LEVEL_CHANGED and the cap order where they are due; in Drive it
reloads its timer and nothing else. -/
def Obligations.AccountingChargesInterval : Prop :=
  ∀ (s : State),
    let sum := s.budget.ibase
      + (allDomains.map fun d => if s.domains[d].seen then s.domains[d].ia else 0).sum
      + (allBranches.map fun b => if s.branches[b].seen then s.branches[b].params.current else 0).sum
    let charge := (sum + s.account.carry) / 4
    let a : Account := { s.account with
      consumed := min (s.account.consumed + charge) 4294967295
      carry := (sum + s.account.carry) % 4
      davg := ((s.account.davg : Int) + (16 * (sum : Int) - s.account.davg) / 2 ^ s.budget.shift).toNat
      saturated := s.account.saturated || decide (4294967295 < s.account.consumed + charge)
      timer := 250 }
    let level : Account := a.recomputed s.budget
    let marked : State := { s with
      account := level
      domains := Vector.ofFn fun d : DomainIx =>
        { s.domains[d] with
          seen := s.domains[d].seen && (s.domains[d].state == .powerUp || s.domains[d].state == .on
            || s.domains[d].state == .releasing) }
      branches := Vector.ofFn fun b : Branch =>
        { s.branches[b] with
          seen := s.branches[b].seen && (s.branches[b].mode == .waking || s.branches[b].mode == .awake
            || s.branches[b].mode == .draining) } }
    s.account.timer = 0 →
      (s.mode = .drive → exec .accountingExpiry s = .next { s with account := { s.account with timer := 250 } })
        ∧ (s.mode ≠ .drive → exec .accountingExpiry s = .next
          ((if a.saturated = true ∧ s.account.saturated = false then marked.raise .accountSaturated none 0 0
            else marked).levelTold s.account))

/-- An isolation's end by its timer, its count at 0: to rest in Parked, to Awake in Unconfigured and Drive with its
Off domains requested with class B and their default lingers; a Release Port request does exactly the same at any
count and is answered DONE, and is refused for a port that is not Isolated, as TP never is, and for an index that
names no port. The request acts from the head of the queue (log entry 10). -/
def Obligations.IsolationEnds : Prop :=
  ∀ (s : State) (b : Branch) (p : Port) (tag i : Byte) (more : List Byte) (rest : List (List Byte)),
    p = portOf b →
    let released := { s.branches[b] with cause := .none, isolationTimer := none, chatterCount := 0 }
    let due := s.putBranch b { s.branches[b] with isolationTimer := some 0 }
    let cleared := (s.putBranch b released).putPort p { s.ports[p] with discards := 0 }
    (s.mode = .parked → s.branches[b].mode = .isolated → s.branches[b].params.rest = .listen →
        exec (.isolationTimerExpiry b) due = .next (cleared.putBranch b
          { released with mode := .listen, windowTimer := some released.params.chatterWindow }))
      ∧ (s.mode = .parked → s.branches[b].mode = .isolated → s.branches[b].params.rest = .off →
        exec (.isolationTimerExpiry b) due = .next
          ((cleared.putBranch b { released with mode := .off }).putPort p
            { s.ports[p] with landing := [], overrun := false, discards := 0 }))
      ∧ (s.mode = .unconfigured ∨ s.mode = .drive → s.branches[b].mode = .isolated → s.arbiterIdle →
        (∀ d : DomainIx, s.domains[d].branch ≠ some b) → exec (.isolationTimerExpiry b) due = .next
          (cleared.putBranch b { released with mode := .awake, seen := true }))
      ∧ (s.mode = .unconfigured ∨ s.mode = .drive → s.branches[b].mode = .isolated →
        Answers (.isolationTimerExpiry b) due fun t =>
          { t with domains := s.domains, lastGranted := s.lastGranted, flags := s.flags, reports := s.reports,
                   reportsLost := s.reportsLost }
              = cleared.putBranch b { released with mode := .awake, seen := true }
            ∧ (s.faultInputs = 0 → t.flags = s.flags ∧ t.reports = s.reports ∧ t.reportsLost = s.reportsLost)
            ∧ ∀ d : DomainIx,
              if s.domains[d].branch = some b ∧ s.domains[d].state = .off then
                s.waitsOrGranted d
                  { s.domains[d] with
                    state := .queued, pending := s.domains[d].defaultLinger, pendingClass := .b } t.domains[d]
              else if s.domains[d].state = .queued then s.waitsOrGranted d s.domains[d] t.domains[d]
              else t.domains[d] = s.domains[d])
      ∧ (s.mode ≠ .fallback → s.turn ([0x32, tag, byte p.val] ++ more) rest → s.branches[b].mode = .isolated →
        Answers (.isolationTimerExpiry b) due fun t =>
          exec .releasePort s = .next (t.answered rest [0x32, tag, 0]))
      ∧ (s.mode ≠ .fallback → s.turn ([0x32, tag, byte p.val] ++ more) rest → s.branches[b].mode ≠ .isolated →
        exec .releasePort s = .next (s.answered rest [0x32, tag, 5]))
      ∧ (s.mode ≠ .fallback → s.turn ([0x32, tag, 0] ++ more) rest →
        exec .releasePort s = .next (s.answered rest [0x32, tag, 5]))
      ∧ (s.mode ≠ .fallback → s.turn ([0x32, tag, i] ++ more) rest → 6 < i.toNat →
        exec .releasePort s = .next (s.answered rest [0x32, tag, 2]))

/-- A schedule entry's expiry: Honoured, its unarmed wake requests act by the state of the domain: an Off one is
queued, or granted at once where a place is free, and its branch follows, one in Queued or PowerUp takes the greater
pending linger and the higher class, an On one the greater linger, a Releasing one returns to On and withdraws its
branch's marker, and one in Fault or Off on an Isolated branch ignores it. The domains of a larger wake set are
requested one after the other in ascending index. Otherwise SCHEDULE_SKIPPED. Either way a repeat entry reloads its
period and a one-shot entry is spent. -/
def Obligations.ScheduleEntryFires : Prop :=
  ∀ (s : State) (i : EntryIx) (d : DomainIx) (b : Branch),
    s.mode = .parked → s.schedule[i].enabled = true → s.schedule[i].countdown = 0 →
    let e := s.schedule[i]
    let spent : ScheduleEntry :=
      if e.mode = .repeating then { e with countdown := e.period } else { e with enabled := false, countdown := 0 }
    let fired := { s with schedule := s.schedule.set i spent }
    let outcome := if e.cls = .c ∧ (s.account.effective = .red ∨ s.account.effective = .exhausted) then 2 else 1
    let x := s.domains[d]
    let asked := s.cappedAt (if e.linger = 0 then x.defaultLinger else e.linger)
    let queued := { x with state := .queued, pending := asked, pendingClass := e.cls }
    let granted := { queued with state := .powerUp, seen := true, settle := x.settleTime }
    let revived := { x with state := .on, remaining := asked }
    let higher :=
      if x.pendingClass = .a ∨ e.cls = .a then WakeClass.a else if x.pendingClass = .b ∨ e.cls = .b then .b else .c
    (¬ s.honours e.cls → exec (.scheduleExpiry i) s =
        .next (fired.raise .scheduleSkipped (some i.val) outcome s.account.effective.code))
      ∧ (s.honours e.cls → e.wake = 0 → exec (.scheduleExpiry i) s = .next fired)
      ∧ (s.honours e.cls → exec (.scheduleExpiry i) s =
        s.fireEach i e spent (allDomains.filter fun j => e.wake.getLsbD j.val))
      ∧ (s.honours e.cls → e.wake = BitVec.twoPow 16 d.val → s.arbiterIdle →
        (x.state = .on → exec (.scheduleExpiry i) s =
            .next (fired.putDomain d { x with remaining := max x.remaining asked }))
          ∧ (x.state = .queued ∨ x.state = .powerUp → exec (.scheduleExpiry i) s =
            .next (fired.putDomain d { x with pending := max x.pending asked, pendingClass := higher }))
          ∧ (x.state = .releasing →
            (x.branch = none → exec (.scheduleExpiry i) s = .next (fired.putDomain d revived))
              ∧ (x.branch = some b → s.branches[b].mode = .draining → exec (.scheduleExpiry i) s =
                .next (fired.joined d b revived)))
          ∧ (x.state = .fault → exec (.scheduleExpiry i) s = .next fired)
          ∧ (x.state = .off → x.branch = some b → s.branches[b].mode = .isolated →
            exec (.scheduleExpiry i) s = .next fired)
          ∧ (x.state = .off → s.inrushLimit ≤ s.powerUpCount →
            (x.branch = none → exec (.scheduleExpiry i) s = .next (fired.putDomain d queued))
              ∧ (x.branch = some b → exec (.scheduleExpiry i) s = .next (fired.joined d b queued)))
          ∧ (x.state = .off → s.powerUpCount < s.inrushLimit → s.faultInputs.getLsbD d.val = false →
            (x.branch = none → exec (.scheduleExpiry i) s =
                .next { fired.putDomain d granted with lastGranted := d })
              ∧ (x.branch = some b → s.branches[b].mode ≠ .isolated → exec (.scheduleExpiry i) s =
                .next { fired.joined d b granted with lastGranted := d })))

/-- A one-second step of the time base: the park clock and every count of seconds. That the command is a whole one-
second step of the time base is the model's choice (log entry 13). -/
def Obligations.SecondStepCounts : Prop :=
  ∀ (s : State),
    exec .parkClockAdvance s = .next { s with
      parkClock := if s.parkClock < 4294967295 then s.parkClock + 1 else 4294967295
      deadline := if s.mode = .unconfigured then s.deadline - 1 else s.deadline
      rules := Vector.ofFn fun r =>
        { s.rules[r] with
          suspect := s.rules[r].suspect.map (· - 1), quarantine := s.rules[r].quarantine.map (· - 1) }
      branches := Vector.ofFn fun b =>
        { s.branches[b] with
          isolationTimer := s.branches[b].isolationTimer.map (· - 1)
          windowTimer := s.branches[b].windowTimer.map (· - 1) }
      ports := Vector.ofFn fun p =>
        { s.ports[p] with
          queue := s.ports[p].queue.map fun
            | .frame e => .frame { e with deadline := e.deadline - 1 }
            | .marker => .marker }
      schedule := Vector.ofFn fun e =>
        if s.mode = .parked ∧ s.schedule[e].enabled = true then
          { s.schedule[e] with countdown := s.schedule[e].countdown - 1 }
        else s.schedule[e] }

/-- A condition sets its flag, and with its kind in the report mask its record joins the report queue, or sets the
reports-lost mark at a full one. -/
def Obligations.ConditionIsRecorded : Prop :=
  ∀ (s : State) (c : Condition) (subject : Option Nat) (x y : Nat),
    let flagged := { s with flags := s.flags ||| BitVec.twoPow 10 c.index }
    let record : Report :=
      { kind := c, subject := subject, detail1 := x, detail2 := y, stamp := s.parkClock,
        urgent := s.urgentMask.getLsbD c.index, lost := false, attempts := 0 }
    (s.reportMask.getLsbD c.index = false → s.raise c subject x y = flagged)
      ∧ (s.reportMask.getLsbD c.index = true → s.reports.length < 16 →
        s.raise c subject x y = { flagged with reports := s.reports ++ [record] })
      ∧ (s.reportMask.getLsbD c.index = true → 16 ≤ s.reports.length →
        s.raise c subject x y = { flagged with reportsLost := true })

/-! ## Requests -/

/-- Read Identity, when its turn has come at the head of the request queue (R172), is answered DONE with the
family, part and revision codes, the strap value and the four counts, and changes nothing else. -/
def Obligations.ReadIdentityAnswer : Prop :=
  ∀ (s : State) (tag : Byte) (more : List Byte) (rest : List (List Byte)),
    s.mode ≠ .fallback → s.turn ([0x01, tag] ++ more) rest → exec .readIdentity s =
      .next (s.answered rest
        [0x01, tag, 0, 0xDB, 0x07, 0x16, 0x01, BitVec.ofNat 8 s.strap.val, 128, 16, 7, 8])

/-- Read Domain returns the parameters, the state and its fields, the seen-powered mark, the fault input, the
awaiting mark and the waker of its domain, with K and the last-granted pointer, and changes nothing else; an
index above 15 is refused. The command acts on the request at the head of the queue (log entry 10). -/
def Obligations.ReadDomainAnswer : Prop :=
  ∀ (s : State) (tag i : Byte) (d : DomainIx) (more : List Byte) (rest : List (List Byte)),
    s.mode ≠ .fallback → s.turn ([0x21, tag, i] ++ more) rest →
    let x := s.domains[d]
    (15 < i.toNat → exec .readDomain s = .next (s.answered rest [0x21, tag, 2]))
      ∧ (i.toNat = d.val → exec .readDomain s = .next (s.answered rest ([0x21, tag, 0, i]
          ++ [BitVec.ofNat 8 (match x.branch with | none => 0 | some b => b.val + 1)]
          ++ be16 x.ia ++ [byte x.settleTime] ++ be16 x.defaultLinger
          ++ [byte x.state.code] ++ be16 x.remaining ++ be16 x.pending
          ++ [byte x.pendingClass.code, byte x.settle,
              byte ((if x.seen then 1 else 0) + (if s.faultInputs.getLsbD d.val then 2 else 0)
                + (if x.awaiting then 4 else 0)),
              (match x.waker with | none => 0xFF | some r => BitVec.ofNat 8 r.val),
              byte s.inrushLimit, BitVec.ofNat 8 s.lastGranted.val])))

/-- Clear Conditions, when its turn has come at the head of the request queue (R172), returns the ten flags as
they stood and clears those of its set, and changes nothing else. -/
def Obligations.ClearConditionsAnswer : Prop :=
  ∀ (s : State) (tag x y : Byte) (more : List Byte) (rest : List (List Byte)),
    s.mode ≠ .fallback → s.turn ([0x03, tag, x, y] ++ more) rest → exec .clearConditions s =
      .next ({ s with flags := s.flags &&& ~~~((x ++ y).setWidth 10) }.answered rest
        ([0x03, tag, 0] ++ be16 s.flags.toNat))

/-- Read Rule, Read Port and Read Schedule return the item of their index, byte by byte, and change nothing; Read
Status returns its page, byte by byte, and clears the request-overrun flag. Values of two and four bytes stand high
byte first, and named values by the manual's codes. A rule record holds at most four lane tests, as
ParametersStayInRange says. The commands act on the request at the head of the queue (log entry 10), and the flag is
cleared at every page and returned on page 0 (log entry 31). -/
def Obligations.ReadsReturnTheirItem : Prop :=
  ∀ (s : State) (tag i : Byte) (r : RuleIx) (b : Branch) (e : EntryIx) (n : Nat) (more : List Byte)
    (rest : List (List Byte)),
    let octet := fun k : Nat => BitVec.ofNat 8 (n / 256 ^ k)
    let one := fun (k : Bool) (n : Nat) => if k then 2 ^ n else 0
    (be16 n = [octet 1, octet 0] ∧ be32 n = [octet 3, octet 2, octet 1, octet 0])
      ∧ ([PartMode.unconfigured, .fallback, .drive, .parked].map (·.code) = [0, 1, 2, 3]
        ∧ [Level.green, .amber, .red, .exhausted].map (·.code) = [0, 1, 2, 3]
        ∧ [WakeClass.a, .b, .c].map (·.code) = [0, 1, 2]
        ∧ [KindTest.base, .extended, .any].map (·.code) = [0, 1, 2]
        ∧ [FormatTest.classic, .fd, .any].map (·.code) = [0, 1, 2]
        ∧ [Comparison.eq, .ne, .ge, .le].map (·.code) = [0, 1, 2, 3]
        ∧ [DomainState.off, .queued, .powerUp, .on, .releasing, .fault].map (·.code) = [0, 1, 2, 3, 4, 5]
        ∧ [BranchMode.off, .listen, .waking, .awake, .draining, .isolated].map (·.code) = [0, 1, 2, 3, 4, 5]
        ∧ [TrunkState.quiet, .active].map (·.code) = [0, 1]
        ∧ [IsolationCause.none, .chatter, .noAck].map (·.code) = [0, 1, 2]
        ∧ [AdmissionOutcome.honour, .deliverOnly, .drop].map (·.code) = [0, 1, 2]
        ∧ [RestState.off, .listen].map (·.code) = [0, 1] ∧ [NoMatchPolicy.drop, .pass].map (·.code) = [0, 1]
        ∧ [ScheduleMode.repeating, .oneShot].map (·.code) = [0, 1])
      ∧ (s.mode ≠ .fallback → s.turn ([0x11, tag, i] ++ more) rest →
        let x := s.rules[r].record
        let lane := fun k : Nat =>
          match x.lanes[k]? with
          | some t => [byte t.offset, t.mask, byte t.op.code, t.operand]
          | none => [0, 0, 0, 0]
        let word :=
          match x.word with
          | some t =>
            [byte (1 + one t.compare 1 + one t.lowFirst 2), byte t.op.code, byte t.offset] ++ be16 t.mask.toNat
              ++ be16 t.operand.toNat
          | none => [0, 0, 0, 0, 0, 0, 0]
        (127 < i.toNat → exec .readRule s = .next (s.answered rest [0x11, tag, 2]))
          ∧ (i.toNat = r.val → x.lanes.length ≤ 4 → exec .readRule s = .next (s.answered rest ([0x11, tag, 0, i,
                byte (one x.valid 0 + one x.enabled 1 + one x.hold 2 + one x.battery 3 + one x.confirm 4),
                byte x.ingress.toNat, byte (x.kind.code + 4 * x.format.code + 16 * x.cls.code)]
              ++ be32 x.idValue.toNat ++ be32 x.idMask.toNat ++ [byte x.minLength, byte x.lanes.length]
              ++ lane 0 ++ lane 1 ++ lane 2 ++ lane 3 ++ word ++ be16 x.wake.toNat ++ be16 x.activity.toNat
              ++ [byte x.forward.toNat] ++ be16 x.linger ++ be16 (s.rules[r].suspect.getD 0)
              ++ be16 (s.rules[r].quarantine.getD 0)))))
      ∧ (s.mode ≠ .fallback → s.turn ([0x31, tag, i] ++ more) rest →
        let common := fun p : Port => s.ports[p].params
        let y := s.branches[b].params
        (6 < i.toNat → exec .readPort s = .next (s.answered rest [0x31, tag, 2]))
          ∧ (i = 0 → exec .readPort s = .next (s.answered rest ([0x31, tag, 0, 0, 0,
                byte (common trunkPort).maxPayload, 0, byte (common trunkPort).holdCap]
              ++ be16 (common trunkPort).holdAge
              ++ [byte (common trunkPort).noMatch.code, byte (common trunkPort).forward.toNat, 0, 0, 0, 0, 0,
                  byte s.silenceTime])))
          ∧ (i.toNat = b.val + 1 → exec .readPort s = .next (s.answered rest ([0x31, tag, 0, i, byte y.rest.code,
                byte (common (portOf b)).maxPayload, byte y.current, byte (common (portOf b)).holdCap]
              ++ be16 (common (portOf b)).holdAge
              ++ [byte (common (portOf b)).noMatch.code, byte (common (portOf b)).forward.toNat,
                  byte y.chatterLimit, byte y.chatterWindow]
              ++ be16 y.isolationTime ++ [byte y.drainLimit, 0]))))
      ∧ (s.mode ≠ .fallback → s.turn ([0x51, tag, i] ++ more) rest →
        let z := s.schedule[e]
        (7 < i.toNat → exec .readSchedule s = .next (s.answered rest [0x51, tag, 2]))
          ∧ (i.toNat = e.val → exec .readSchedule s = .next (s.answered rest
              ([0x51, tag, 0, i, byte (one z.enabled 0), byte z.mode.code] ++ be32 z.firstDelay ++ be32 z.period
                ++ be16 z.wake.toNat ++ [byte z.cls.code] ++ be16 z.linger ++ be32 z.countdown))))
      ∧ (s.mode ≠ .fallback → s.turn ([0x02, tag, i] ++ more) rest →
        let read := { s with requestOverrun := false }
        let branchSet := fun k : Branch → Bool => [byte ((allBranches.map fun b => one (k b) (b.val + 1)).sum)]
        let a := s.account
        (3 < i.toNat → exec .readStatus s = .next (s.answered rest [0x02, tag, 3]))
          ∧ (i = 0 → exec .readStatus s = .next (read.answered rest
              ([0x02, tag, 0, 0, byte s.mode.code, byte s.trunk.code,
                byte (one s.wakeLine 0 + one s.requestOverrun 1 + one s.reportsLost 2)]
                ++ be16 s.flags.toNat ++ be16 s.reportMask.toNat ++ be16 s.urgentMask.toNat ++ be32 s.parkClock
                ++ [byte s.deadline, byte s.reports.length, byte s.requests.length, byte s.freeBuffers]
                ++ allPorts.flatMap (fun q =>
                  [byte (s.ports[q].queue.countP QueueItem.isFrame), byte (s.ports[q].queue.countP QueueItem.held)])
                ++ branchSet (fun b => s.ports[portOf b].queue.contains .marker)
                ++ branchSet fun b => s.branches[b].closing)))
          ∧ (i = 1 → exec .readStatus s = .next (read.answered rest
              ([0x02, tag, 0, 1]
                ++ allBranches.flatMap (fun b =>
                  [byte s.branches[b].mode.code, byte s.branches[b].chatterCount,
                   byte (s.branches[b].windowTimer.getD 0), byte s.branches[b].cause.code]
                    ++ be16 (s.branches[b].isolationTimer.getD 0))
                ++ branchSet fun b => s.branches[b].seen)))
          ∧ (i = 2 → exec .readStatus s = .next (read.answered rest
              ([0x02, tag, 0, 2] ++ be32 a.consumed ++ [byte a.carry] ++ be32 a.remaining ++ be32 a.davg
                ++ [byte (one a.saturated 0 + one a.override 1)] ++ be16 a.vb
                ++ [byte a.level.code, byte a.effective.code, byte a.timer])))
          ∧ (i = 3 → exec .readStatus s = .next (read.answered rest
              ([0x02, tag, 0, 3] ++ be32 s.budget.allowance ++ be32 s.budget.t1 ++ be32 s.budget.t2
                ++ be16 s.budget.ibase ++ [byte s.budget.shift, byte s.budget.hmin] ++ be16 s.budget.vcrit
                ++ be16 s.budget.lcap ++ be16 s.suspectWindow ++ be16 s.quarantineTime))))

/-- A dispatched management request joins the request queue, or at a full queue sets the overrun flag. At its turn
an empty request leaves without response; an unassigned code is answered UNKNOWN, with the tag byte 0 where the
request has none; an assigned one without tag, or with fewer argument bytes than its command takes, is answered
BAD_VALUE and changes nothing. The command acts on the request at the head of the queue (log entry 10). -/
def Obligations.RequestsAreQueuedAndChecked : Prop :=
  ∀ (s : State) (c : Classification) (code tag : Byte) (more : List Byte) (rest : List (List Byte)),
    let argumentBytes : List (Nat × Nat) :=
      [(0x01, 0), (0x02, 1), (0x03, 2), (0x04, 4), (0x05, 0), (0x10, 44), (0x11, 1), (0x12, 2), (0x13, 1), (0x14, 4),
       (0x20, 7), (0x21, 1), (0x22, 2), (0x23, 1), (0x30, 15), (0x31, 1), (0x32, 1), (0x40, 20), (0x50, 16), (0x51, 1),
       (0x60, 0), (0x61, 0)]
    let needed := argumentBytes.lookup code.toNat
    (s.classification = some c → c.verdict = .management → s.requests.length < 4 → exec .classificationDispatch s =
        .next { s with classification := none, requests := s.requests ++ [c.frame.payload] })
      ∧ (s.classification = some c → c.verdict = .management → 4 ≤ s.requests.length →
        exec .classificationDispatch s = .next { s with classification := none, requestOverrun := true })
      ∧ (s.turn [] rest → exec .emptyRequest s = .next { s with requests := rest })
      ∧ (s.turn (code :: tag :: more) rest → needed = none →
        exec .unknownCommand s = .next (s.answered rest [code, tag, 1]))
      ∧ (s.turn [code] rest → needed = none → exec .unknownCommand s = .next (s.answered rest [code, 0, 1]))
      ∧ (s.turn [code] rest → needed.isSome = true → exec (rowOf [code]) s = .next (s.answered rest [code, 0, 3]))
      ∧ (s.turn (code :: tag :: more) rest → needed.any (more.length < ·) = true →
        exec (rowOf (code :: tag :: more)) s = .next (s.answered rest [code, tag, 3]))

/-- Set Report Masks, Write Monitor, Set Inrush Limit with no domain in PowerUp or pending, and Warm Reset. The
command acts on the request at the head of the queue (log entry 10). -/
def Obligations.SmallSettingsAreWritten : Prop :=
  ∀ (s : State) (tag x y z w : Byte) (more : List Byte) (rest : List (List Byte)),
    s.mode ≠ .fallback →
    (s.turn ([0x04, tag, x, y, z, w] ++ more) rest → exec .setReportMasks s =
        .next ({ s with reportMask := (x ++ y).setWidth 10, urgentMask := (z ++ w).setWidth 10 }.answered rest
          [0x04, tag, 0]))
      ∧ (s.turn ([0x14, tag, x, y, z, w] ++ more) rest →
        exec .writeMonitor s = .next
          (if (x ++ y).toNat = 0 ∨ (z ++ w).toNat = 0 then s.answered rest [0x14, tag, 3]
            else { s with suspectWindow := (x ++ y).toNat, quarantineTime := (z ++ w).toNat }.answered rest
              [0x14, tag, 0]))
      ∧ (s.turn ([0x23, tag, x] ++ more) rest →
        (x.toNat = 0 ∨ 4 < x.toNat → exec .setInrushLimit s = .next (s.answered rest [0x23, tag, 3]))
          ∧ (1 ≤ x.toNat → x.toNat ≤ 4 → (∃ d : DomainIx, s.domains[d].state = .powerUp) →
            exec .setInrushLimit s = .next (s.answered rest [0x23, tag, 5]))
          ∧ (1 ≤ x.toNat → x.toNat ≤ 4 →
            (∀ d : DomainIx, s.domains[d].state ≠ .powerUp ∧ s.domains[d].state ≠ .queued) →
            exec .setInrushLimit s = .next ({ s with inrushLimit := x.toNat }.answered rest [0x23, tag, 0])))
      ∧ (s.turn ([0x05, tag] ++ more) rest → exec .warmReset s =
        .next ({ s with warmResetPending := true }.answered rest [0x05, tag, 0]))

/-- Write Rule, Set Rule Enable and Release Quarantine: what each replaces and clears, the wakers and the match in
flight that name the rule among it, and their refusals. A Write Rule takes each field from the bytes of its image, or
is refused for a code, a set or a value that the manual refuses in them, lane tests beyond the count and an absent
word test apart. The command acts on the request at the head of the queue (log entry 10), and the bits of byte 2 that
no code takes are ignored (log entry 20). -/
def Obligations.RuleRequestsChangeTheirRule : Prop :=
  ∀ (s : State) (tag i v : Byte) (image more : List Byte) (r : RuleIx) (rest : List (List Byte)),
    s.mode ≠ .fallback →
    let at8 := fun k : Nat => (image.getD k 0).toNat
    let at16 := fun k : Nat => 256 * at8 k + at8 (k + 1)
    let at32 := fun k : Nat => 65536 * at16 k + at16 (k + 2)
    let flag := fun k n : Nat => (at8 k).testBit n
    let operator := fun k : Nat => [Comparison.eq, .ne, .ge, .le].getD (at8 k) .eq
    let bad := 127 < at8 1 ∨ at8 2 % 4 = 3 ∨ at8 2 / 4 % 4 = 3 ∨ at8 2 / 16 % 4 = 3
      ∨ 2 ^ 29 ≤ at32 3 ∨ 2 ^ 29 ≤ at32 7 ∨ 64 < at8 11 ∨ 4 < at8 12
      ∨ (∃ k : Fin 4, k.val < at8 12 ∧ (63 < at8 (13 + 4 * k.val) ∨ 3 < at8 (15 + 4 * k.val)))
      ∨ flag 29 0 = true ∧ (3 < at8 30 ∨ 62 < at8 31) ∨ 127 < at8 40 ∨ flag 0 3 = true ∧ flag 29 0 = false
    let x : RuleRecord := {
      valid := flag 0 0, enabled := flag 0 1, hold := flag 0 2, battery := flag 0 3, confirm := flag 0 4
      ingress := BitVec.ofNat 7 (at8 1)
      kind := [KindTest.base, .extended, .any].getD (at8 2 % 4) .any
      format := [FormatTest.classic, .fd, .any].getD (at8 2 / 4 % 4) .any
      cls := [WakeClass.a, .b, .c].getD (at8 2 / 16 % 4) .c
      idValue := BitVec.ofNat 29 (at32 3), idMask := BitVec.ofNat 29 (at32 7), minLength := at8 11
      lanes := (List.range (at8 12)).map fun k =>
        { offset := at8 (13 + 4 * k), mask := image.getD (14 + 4 * k) 0, op := operator (15 + 4 * k)
          operand := image.getD (16 + 4 * k) 0 }
      word :=
        if flag 29 0 then some
          { compare := flag 29 1, lowFirst := flag 29 2, op := operator 30, offset := at8 31
            mask := BitVec.ofNat 16 (at16 32), operand := BitVec.ofNat 16 (at16 34) }
        else none
      wake := BitVec.ofNat 16 (at16 36), activity := BitVec.ofNat 16 (at16 38)
      forward := BitVec.ofNat 7 (at8 40), linger := at16 41 }
    let y := s.rules[r]
    let disarmed : State := { s with
      domains := Vector.ofFn fun d : DomainIx =>
        if s.domains[d].waker = some r then { s.domains[d] with waker := none, awaiting := false }
        else s.domains[d]
      classification := s.classification.map fun c : Classification =>
        match c.verdict with
        | .matched m => if m.rule = r then { c with verdict := .matched { m with confirm := false } } else c
        | _ => c }
    (s.turn ([0x10, tag, i] ++ image ++ more) rest → image.length = 43 →
        (127 < i.toNat → exec .writeRule s = .next (s.answered rest [0x10, tag, 2]))
          ∧ (i.toNat = r.val → bad → exec .writeRule s = .next (s.answered rest [0x10, tag, 3]))
          ∧ (i.toNat = r.val → ¬ bad → exec .writeRule s = .next
              ((disarmed.putTableRule r { record := x, suspect := none, quarantine := none }).answered rest
                [0x10, tag, 0])))
      ∧ (s.turn ([0x12, tag, i, v] ++ more) rest →
        (127 < i.toNat → exec .setRuleEnable s = .next (s.answered rest [0x12, tag, 2]))
          ∧ (i.toNat = r.val → 1 < v.toNat → exec .setRuleEnable s = .next (s.answered rest [0x12, tag, 3]))
          ∧ (i.toNat = r.val → v = 0 → exec .setRuleEnable s = .next
              ((disarmed.putTableRule r { y with record := { y.record with enabled := false } }).answered rest
                [0x12, tag, 0]))
          ∧ (i.toNat = r.val → v = 1 → exec .setRuleEnable s = .next
              ((s.putTableRule r { y with record := { y.record with enabled := true } }).answered rest
                [0x12, tag, 0])))
      ∧ (s.turn ([0x13, tag, i] ++ more) rest →
        (127 < i.toNat → exec .releaseQuarantine s = .next (s.answered rest [0x13, tag, 2]))
          ∧ (i.toNat = r.val → exec .releaseQuarantine s = .next
              ((s.putTableRule r { y with suspect := none, quarantine := none }).answered rest [0x13, tag, 0])))

/-- Force Domain. On of a domain in every state: an Off one is queued with class A and its branch follows, or has it
granted at once, and a Releasing one returns to On and withdraws its branch's marker. Off and Clear Fault, in Parked
with what the branch makes of it: the loss of a branch's last powered domain sends it to rest, a Waking branch left
with On domains alone goes Awake, and a cleared domain leaves a branch that follows its domains as it is. The place
that Off frees goes to the first candidate of the downward search. And the refusals. The commands act on the request
at the head of the queue, and an action without a row of its own stands with Force Domain On (log entries 10 and
7). -/
def Obligations.ForceDomainActs : Prop :=
  ∀ (s : State) (tag i a : Byte) (d g : DomainIx) (b : Branch) (more : List Byte) (rest : List (List Byte)),
    s.mode ≠ .fallback → s.turn ([0x22, tag, i, a] ++ more) rest →
    let x := s.domains[d]
    let row := rowOf ([0x22, tag, i, a] ++ more)
    let answer := fun t : State => Host.Outcome.next (t.answered rest [0x22, tag, 0])
    let refused := fun r : Byte => Host.Outcome.next (s.answered rest [0x22, tag, r])
    let linger := s.cappedAt x.defaultLinger
    let queued := { x with state := .queued, pending := linger, pendingClass := .a }
    let granted := { queued with state := .powerUp, seen := true, settle := x.settleTime }
    let revived := { x with state := .on, remaining := linger }
    let stands := x.branch = none ∨ x.branch = some b ∧ s.branches[b].mode ≠ .isolated ∧ s.mode ≠ .parked
    let mode := s.branches[b].mode
    let noGrant := (∀ j : DomainIx, j ≠ d → s.domains[j].state ≠ .queued)
      ∨ x.state ≠ .powerUp ∧ s.inrushLimit ≤ s.powerUpCount
    (15 < i.toNat → exec row s = refused 2)
      ∧ (i.toNat = d.val → 2 < a.toNat → exec row s = refused 3)
      ∧ (i.toNat = d.val → a = 0 → s.arbiterIdle →
        (x.state = .off → s.inrushLimit ≤ s.powerUpCount →
            (stands → exec .forceDomainOn s = answer (s.putDomain d queued))
              ∧ (x.branch = some b → s.mode = .parked → exec .forceDomainOn s = answer (s.joined d b queued)))
          ∧ (x.state = .off → s.powerUpCount < s.inrushLimit → s.faultInputs.getLsbD d.val = false →
            (stands → exec .forceDomainOn s = answer { s.putDomain d granted with lastGranted := d })
              ∧ (x.branch = some b → s.mode = .parked → mode ≠ .isolated →
                exec .forceDomainOn s = answer { s.joined d b granted with lastGranted := d }))
          ∧ (x.state = .off → x.branch = some b → mode = .isolated → exec .forceDomainOn s = answer s)
          ∧ (x.state = .queued ∨ x.state = .powerUp → exec .forceDomainOn s =
            answer (s.putDomain d { x with pending := max x.pending linger, pendingClass := .a }))
          ∧ (x.state = .on → exec .forceDomainOn s =
            answer (s.putDomain d { x with remaining := max x.remaining linger }))
          ∧ (x.state = .releasing →
            (x.branch = none → exec .forceDomainOn s = answer (s.putDomain d revived))
              ∧ (x.branch = some b → mode = .draining → exec .forceDomainOn s = answer (s.joined d b revived)))
          ∧ (x.state = .fault → exec .forceDomainOn s = answer s))
      ∧ (i.toNat = d.val → a = 1 →
        (x.state = .off ∨ x.state = .fault → exec .forceDomainOff s = answer s)
          ∧ (x.state ≠ .off → x.state ≠ .fault → s.mode ≠ .parked ∨ x.branch = none ∨ x.branch = some b →
            (noGrant → exec .forceDomainOff s = answer (s.losing d b x.dark))
              ∧ (x.state = .powerUp → s.powerUpCount = s.inrushLimit → s.faultInputs.getLsbD g.val = false →
                s.firstCandidate g → exec .forceDomainOff s = answer ((s.losing d b x.dark).granted g))))
      ∧ (i.toNat = d.val → a = 2 →
        (x.state ≠ .fault → exec .clearFault s = answer s)
          ∧ (x.state = .fault → s.faultInputs.getLsbD d.val = true → exec .clearFault s = refused 5)
          ∧ (x.state = .fault → s.faultInputs.getLsbD d.val = false →
            s.mode ≠ .parked ∨ x.branch = none ∨ x.branch = some b ∧ s.branchFollows b →
            exec .clearFault s = answer (s.putDomain d { x with state := .off })))

/-- Write Domain, Write Port, Write Budget and Write Schedule: all the parameters of a record in one step, each from
its bytes of the request, a budget's recomputation with it, the countdown of an entry loaded with its first delay, or
the refusal, in the order of the checks, and no change. The fields that a port does not hold are ignored. The command
acts on the request at the head of the queue (log entry 10). -/
def Obligations.RecordWritesReplaceWhole : Prop :=
  ∀ (s : State) (tag : Byte) (args more : List Byte) (rest : List (List Byte)) (b : Branch) (e : EntryIx)
    (d : DomainIx),
    s.mode ≠ .fallback →
    let at8 := fun k : Nat => (args.getD k 0).toNat
    let at16 := fun k : Nat => 256 * at8 k + at8 (k + 1)
    let at32 := fun k : Nat => 65536 * at16 k + at16 (k + 2)
    (s.turn ([0x20, tag] ++ args ++ more) rest → args.length = 7 →
        let branch : Option Branch := if h : at8 1 - 1 < 6 ∧ at8 1 ≠ 0 then some ⟨at8 1 - 1, h.1⟩ else none
        let bad := 6 < at8 1 ∨ 16383 < at16 2 ∨ at8 4 = 0 ∨ at16 5 = 0
        let moved := branch ≠ s.domains[d].branch ∧ s.domains[d].state ≠ .off ∧ s.domains[d].state ≠ .fault
        (15 < at8 0 → exec .writeDomain s = .next (s.answered rest [0x20, tag, 2]))
          ∧ (at8 0 = d.val → bad → exec .writeDomain s = .next (s.answered rest [0x20, tag, 3]))
          ∧ (at8 0 = d.val → ¬ bad → moved → exec .writeDomain s = .next (s.answered rest [0x20, tag, 5]))
          ∧ (at8 0 = d.val → ¬ bad → ¬ moved → exec .writeDomain s = .next
            ((s.putDomain d
              { s.domains[d] with
                branch := branch, ia := at16 2, settleTime := at8 4, defaultLinger := at16 5 }).answered rest
              [0x20, tag, 0])))
      ∧ (s.turn ([0x40, tag] ++ args ++ more) rest → args.length = 20 →
        let bad := at32 4 < at32 8 ∨ 1023 < at16 12 ∨ 15 < at8 14 ∨ 65534 < at16 16 ∨ at16 18 = 0
        let x : Budget :=
          { allowance := at32 0, t1 := at32 4, t2 := at32 8, ibase := at16 12, shift := at8 14, hmin := at8 15
            vcrit := at16 16, lcap := at16 18 }
        let loaded := { s with budget := x, account := s.account.recomputed x }
        (bad → exec .writeBudget s = .next (s.answered rest [0x40, tag, 3]))
          ∧ (¬ bad → exec .writeBudget s = .next ((loaded.levelTold s.account).answered rest [0x40, tag, 0])))
      ∧ (s.turn ([0x50, tag] ++ args ++ more) rest → args.length = 16 →
        let bad := 1 < at8 1 ∨ 1 < at8 2 ∨ at32 3 = 0 ∨ 86400 < at32 3 ∨ at32 7 = 0 ∨ 86400 < at32 7 ∨ 2 < at8 13
        let x : ScheduleEntry :=
          { enabled := decide (at8 1 = 1), mode := if at8 2 = 1 then .oneShot else .repeating, firstDelay := at32 3
            period := at32 7, wake := BitVec.ofNat 16 (at16 11), cls := [WakeClass.a, .b, .c].getD (at8 13) .c
            linger := at16 14, countdown := at32 3 }
        (7 < at8 0 → exec .writeSchedule s = .next (s.answered rest [0x50, tag, 2]))
          ∧ (at8 0 = e.val → bad → exec .writeSchedule s = .next (s.answered rest [0x50, tag, 3]))
          ∧ (at8 0 = e.val → ¬ bad → exec .writeSchedule s =
            .next ({ s with schedule := s.schedule.set e x }.answered rest [0x50, tag, 0])))
      ∧ (s.turn ([0x30, tag] ++ args ++ more) rest → args.length = 15 →
        let bad := at8 2 ≠ 8 ∧ at8 2 ≠ 64 ∨ 96 < at8 4 ∨ at16 5 = 0 ∨ 1 < at8 7 ∨ 127 < at8 8
          ∨ (at8 8).testBit (at8 0) = true
        let badBranch := bad ∨ 1 < at8 1 ∨ at8 9 = 0 ∨ at8 10 = 0 ∨ at16 11 = 0 ∨ at8 13 = 0
        let x : PortParams :=
          { maxPayload := at8 2, holdCap := at8 4, holdAge := at16 5, noMatch := if at8 7 = 1 then .pass else .drop
            forward := BitVec.ofNat 7 (at8 8) }
        let y : BranchParams :=
          { rest := if at8 1 = 1 then .listen else .off, current := at8 3, chatterLimit := at8 9
            chatterWindow := at8 10, isolationTime := at16 11, drainLimit := at8 13 }
        (6 < at8 0 → exec .writePort s = .next (s.answered rest [0x30, tag, 2]))
          ∧ (at8 0 = 0 →
            (bad ∨ at8 14 = 0 → exec .writePort s = .next (s.answered rest [0x30, tag, 3]))
              ∧ (¬ (bad ∨ at8 14 = 0) → exec .writePort s = .next
                ({ s.putPort trunkPort { s.ports[trunkPort] with params := x } with silenceTime := at8 14 }.answered
                  rest [0x30, tag, 0])))
          ∧ (at8 0 = b.val + 1 →
            (badBranch → exec .writePort s = .next (s.answered rest [0x30, tag, 3]))
              ∧ (¬ badBranch → exec .writePort s = .next
                (((s.putPort (portOf b) { s.ports[portOf b] with params := x }).putBranch b
                  { s.branches[b] with params := y }).answered rest [0x30, tag, 0]))))

/-- An accepted Park: the account and park clock restarted, the level recomputed with BATTERY_LOW and LEVEL_CHANGED
where they are due, stamped with the park clock's 0, the mode Parked, the enabled countdowns and the
domains' lingers loaded, and each branch that is not Isolated brought into line with its domains. A branch that it
sends to rest keeps its held entries and discards the others, and a Draining branch with Releasing domains alone
goes on draining, the domains of every other branch being loaded beside it. The command acts on the request at the
head of the queue, a branch already in its rest state does not enter it anew, an Off domain stays Off, and an armed
one keeps its waker (log entries 10, 8, 30 and 33). -/
def Obligations.ParkStartsParkedPeriod : Prop :=
  ∀ (s : State) (tag : Byte) (more : List Byte) (rest : List (List Byte)),
    s.mode ≠ .fallback → s.turn ([0x60, tag] ++ more) rest →
    let a := { s.account with consumed := 0, carry := 0, davg := 16 * s.budget.ibase, saturated := false,
                              timer := 250 }.recomputed s.budget
    let told := { s with parkClock := 0, account := a }.levelTold s.account
    let load := fun d : DomainIx =>
      if a.effective = .red ∨ a.effective = .exhausted then min s.domains[d].defaultLinger s.budget.lcap
      else s.domains[d].defaultLinger
    let has := fun (b : Branch) (k : DomainState → Bool) =>
      ∃ d : DomainIx, s.domains[d].branch = some b ∧ k s.domains[d].state = true
    let woken := fun (b : Branch) (m : BranchMode) (seen : Bool) =>
      { s.branches[b] with
        mode := m, seen := seen
        chatterCount := if s.branches[b].mode = .listen then 0 else s.branches[b].chatterCount
        windowTimer := if s.branches[b].mode = .listen then none else s.branches[b].windowTimer }
    let settles := fun b : Branch =>
      s.branches[b].mode ≠ .isolated ∧ ¬ has b DomainState.active
        ∧ s.branches[b].mode ≠ s.branches[b].params.rest.mode
    Answers .park s fun t =>
      { t with ports := s.ports, branches := s.branches, domains := s.domains, freeBuffers := s.freeBuffers,
               flags := s.flags, reports := s.reports, reportsLost := s.reportsLost }
          = { s with
              mode := .parked, parkClock := 0, account := a, requests := rest,
              response := some { bytes := [0x60, tag, 0], attempts := 0 },
              schedule := Vector.ofFn fun e : EntryIx =>
                if s.schedule[e].enabled then { s.schedule[e] with countdown := s.schedule[e].firstDelay }
                else s.schedule[e] }
        ∧ t.flags = told.flags ∧ t.reports = told.reports ∧ t.reportsLost = told.reportsLost
        ∧ (∀ b : Branch, s.branches[b].mode = .isolated →
            t.branches[b] = s.branches[b] ∧ t.ports[portOf b] = s.ports[portOf b])
        ∧ (∀ b : Branch, s.branches[b].mode ≠ .isolated → s.branches[b].mode ≠ .draining → t.branches[b].mode =
            if has b DomainState.waiting then .waking
            else if has b (· == .on) then .awake
            else if has b (· == .releasing) then s.branches[b].mode
            else s.branches[b].params.rest.mode)
        ∧ (∀ b : Branch, s.branches[b].mode ≠ .isolated → s.branches[b].mode ≠ .draining →
            has b DomainState.waiting →
            t.branches[b] = woken b .waking (s.branches[b].seen || s.branches[b].mode != .waking))
        ∧ (∀ b : Branch, s.branches[b].mode ≠ .isolated → s.branches[b].mode ≠ .draining →
            ¬ has b DomainState.waiting → has b (· == .on) →
            t.branches[b] = woken b .awake (s.branches[b].seen || s.branches[b].mode.atRest))
        ∧ (∀ d : DomainIx,
            (∀ b : Branch, s.domains[d].branch = some b → s.branches[b].mode = .draining →
              ¬ has b DomainState.waiting ∧ ¬ has b (· == .on)) → t.domains[d] =
            match s.domains[d].state with
            | .on => { s.domains[d] with remaining := load d }
            | .queued | .powerUp => { s.domains[d] with pending := load d }
            | .off | .releasing | .fault => s.domains[d])
        ∧ (∀ b : Branch, settles b →
            t.ports[portOf b] = s.ports[portOf b].rested s.branches[b].params.rest
              ∧ t.branches[b] =
                if s.branches[b].mode = .listen then
                  { s.branches[b].rested with chatterCount := 0, windowTimer := none }
                else s.branches[b].rested)
        ∧ (∀ b : Branch, ¬ has b DomainState.active → ¬ settles b →
            t.branches[b] = s.branches[b] ∧ t.ports[portOf b] = s.ports[portOf b])
        ∧ (∀ b : Branch, s.branches[b].mode = .draining → has b (· == .releasing) → ¬ has b DomainState.waiting →
            ¬ has b (· == .on) → t.branches[b] = s.branches[b] ∧ t.ports[portOf b] = s.ports[portOf b])
        ∧ (∀ b : Branch, s.branches[b].mode ≠ .draining → ¬ settles b → t.ports[portOf b] = s.ports[portOf b])
        ∧ t.ports[trunkPort] = s.ports[trunkPort]
        ∧ t.freeBuffers = s.freeBuffers + (allBranches.map fun b =>
            if settles b then idleFrames (s.ports[portOf b].queue.filter fun i => !i.held) else 0).sum

/-- An accepted Depart: the mode Drive, every branch that is not Isolated Awake, every domain that is not in Fault
requested with class B and its default linger, but an Off one of an Isolated branch, one in Queued or PowerUp taking
the greater pending linger and the higher class, every waker, chatter count and sleep marker cleared, and everything
else, the account and the schedule's countdowns among it, as it was; in Drive it is refused. The command acts on the
request at the head of the queue, the group of wake requests joins before any grant, and a countdown that has come
to 0 holds 0 (log entries 10, 6 and 34). -/
def Obligations.DepartWakesEverything : Prop :=
  ∀ (s : State) (tag : Byte) (more : List Byte) (rest : List (List Byte)),
    s.turn ([0x61, tag] ++ more) rest →
    (s.mode = .drive → exec .depart s = .next (s.answered rest [0x61, tag, 4]))
      ∧ (s.mode = .unconfigured ∨ s.mode = .parked → Answers .depart s fun t =>
        { t with domains := s.domains, lastGranted := s.lastGranted, flags := s.flags, reports := s.reports,
                 reportsLost := s.reportsLost }
            = { s with
                mode := .drive, requests := rest, response := some { bytes := [0x61, tag, 0], attempts := 0 },
                ports := Vector.ofFn fun p =>
                  { s.ports[p] with queue := s.ports[p].queue.filter QueueItem.isFrame },
                branches := Vector.ofFn fun b =>
                  let x := s.branches[b]
                  if x.mode = .isolated then { x with chatterCount := 0 }
                  else
                    { x with
                      mode := .awake, chatterCount := 0,
                      windowTimer := if x.mode = .listen then none else x.windowTimer,
                      seen := x.seen || x.mode.atRest, drainTimer := none, closing := false } }
          ∧ (s.faultInputs = 0 → t.flags = s.flags ∧ t.reports = s.reports ∧ t.reportsLost = s.reportsLost)
          ∧ ∀ d : DomainIx,
            let x := { s.domains[d] with waker := none, awaiting := false }
            let queued := { x with state := .queued, pending := x.defaultLinger, pendingClass := .b }
            let merged := { x with
              pending := max x.pending x.defaultLinger
              pendingClass := if x.pendingClass = .a then .a else .b }
            let cutOff := ∃ b : Branch, x.branch = some b ∧ s.branches[b].mode = .isolated
            match x.state with
            | .off => if cutOff then t.domains[d] = x else s.waitsOrGranted d queued t.domains[d]
            | .queued => s.waitsOrGranted d merged t.domains[d]
            | .powerUp => t.domains[d] = merged
            | .on => t.domains[d] = { x with remaining := max x.remaining x.defaultLinger }
            | .releasing => t.domains[d] = { x with state := .on, remaining := x.defaultLinger }
            | .fault => t.domains[d] = x)
end

