-- ==== Sys2Proof/Laws/State.lean ====
section
/-! SUPPORT. What the record updates leave of every field of the state, so that no later proof unfolds one: for
each update one lemma per field it leaves alone, and one for the record it replaces. -/

namespace Sys2Proof.Machine

/-! ## modPort -/

section
variable (s : State) (p : Port) (f : PortState → PortState)

@[simp] theorem State.modPort_mode : (s.modPort p f).mode = s.mode := rfl
@[simp] theorem State.modPort_strapPins : (s.modPort p f).strapPins = s.strapPins := rfl
@[simp] theorem State.modPort_strap : (s.modPort p f).strap = s.strap := rfl
@[simp] theorem State.modPort_deadline : (s.modPort p f).deadline = s.deadline := rfl
@[simp] theorem State.modPort_parkClock : (s.modPort p f).parkClock = s.parkClock := rfl
@[simp] theorem State.modPort_requests : (s.modPort p f).requests = s.requests := rfl
@[simp] theorem State.modPort_requestOverrun : (s.modPort p f).requestOverrun = s.requestOverrun := rfl
@[simp] theorem State.modPort_response : (s.modPort p f).response = s.response := rfl
@[simp] theorem State.modPort_warmResetPending : (s.modPort p f).warmResetPending = s.warmResetPending := rfl
@[simp] theorem State.modPort_reports : (s.modPort p f).reports = s.reports := rfl
@[simp] theorem State.modPort_reportsLost : (s.modPort p f).reportsLost = s.reportsLost := rfl
@[simp] theorem State.modPort_flags : (s.modPort p f).flags = s.flags := rfl
@[simp] theorem State.modPort_reportMask : (s.modPort p f).reportMask = s.reportMask := rfl
@[simp] theorem State.modPort_urgentMask : (s.modPort p f).urgentMask = s.urgentMask := rfl
@[simp] theorem State.modPort_trunk : (s.modPort p f).trunk = s.trunk := rfl
@[simp] theorem State.modPort_silence : (s.modPort p f).silence = s.silence := rfl
@[simp] theorem State.modPort_silenceTime : (s.modPort p f).silenceTime = s.silenceTime := rfl
@[simp] theorem State.modPort_branches : (s.modPort p f).branches = s.branches := rfl
@[simp] theorem State.modPort_pointer : (s.modPort p f).pointer = s.pointer := rfl
@[simp] theorem State.modPort_classification : (s.modPort p f).classification = s.classification := rfl
@[simp] theorem State.modPort_rules : (s.modPort p f).rules = s.rules := rfl
@[simp] theorem State.modPort_freeBuffers : (s.modPort p f).freeBuffers = s.freeBuffers := rfl
@[simp] theorem State.modPort_domains : (s.modPort p f).domains = s.domains := rfl
@[simp] theorem State.modPort_faultInputs : (s.modPort p f).faultInputs = s.faultInputs := rfl
@[simp] theorem State.modPort_inrushLimit : (s.modPort p f).inrushLimit = s.inrushLimit := rfl
@[simp] theorem State.modPort_lastGranted : (s.modPort p f).lastGranted = s.lastGranted := rfl
@[simp] theorem State.modPort_budget : (s.modPort p f).budget = s.budget := rfl
@[simp] theorem State.modPort_account : (s.modPort p f).account = s.account := rfl
@[simp] theorem State.modPort_suspectWindow : (s.modPort p f).suspectWindow = s.suspectWindow := rfl
@[simp] theorem State.modPort_quarantineTime : (s.modPort p f).quarantineTime = s.quarantineTime := rfl
@[simp] theorem State.modPort_schedule : (s.modPort p f).schedule = s.schedule := rfl
@[simp] theorem State.modPort_phase : (s.modPort p f).phase = s.phase := rfl
@[simp] theorem State.modPort_pending : (s.modPort p f).pending = s.pending := rfl

/-- The replaced record, and the others. -/
theorem State.modPort_get (i : Port) : (s.modPort p f).ports[i] = if i = p then f s.ports[p] else s.ports[i] := by
  rcases eq_or_ne i p with rfl | h
  · simp [State.modPort]
  · have h' : p.val ≠ i.val := fun e => h (Fin.ext e.symm)
    simp [State.modPort, h, h']

/-- The replaced record, at its index as simp spells it. -/
@[simp] theorem State.modPort_get_self : (s.modPort p f).ports[p.val] = f s.ports[p] := by
  simpa using s.modPort_get p f p

/-- Every other record is as before. -/
theorem State.modPort_get_other {i : Port} (h : i ≠ p) : (s.modPort p f).ports[i] = s.ports[i] := by
  rw [State.modPort_get, if_neg h]

end

/-! ## modBranch -/

section
variable (s : State) (b : Branch) (f : BranchState → BranchState)

@[simp] theorem State.modBranch_mode : (s.modBranch b f).mode = s.mode := rfl
@[simp] theorem State.modBranch_strapPins : (s.modBranch b f).strapPins = s.strapPins := rfl
@[simp] theorem State.modBranch_strap : (s.modBranch b f).strap = s.strap := rfl
@[simp] theorem State.modBranch_deadline : (s.modBranch b f).deadline = s.deadline := rfl
@[simp] theorem State.modBranch_parkClock : (s.modBranch b f).parkClock = s.parkClock := rfl
@[simp] theorem State.modBranch_requests : (s.modBranch b f).requests = s.requests := rfl
@[simp] theorem State.modBranch_requestOverrun : (s.modBranch b f).requestOverrun = s.requestOverrun := rfl
@[simp] theorem State.modBranch_response : (s.modBranch b f).response = s.response := rfl
@[simp] theorem State.modBranch_warmResetPending : (s.modBranch b f).warmResetPending = s.warmResetPending := rfl
@[simp] theorem State.modBranch_reports : (s.modBranch b f).reports = s.reports := rfl
@[simp] theorem State.modBranch_reportsLost : (s.modBranch b f).reportsLost = s.reportsLost := rfl
@[simp] theorem State.modBranch_flags : (s.modBranch b f).flags = s.flags := rfl
@[simp] theorem State.modBranch_reportMask : (s.modBranch b f).reportMask = s.reportMask := rfl
@[simp] theorem State.modBranch_urgentMask : (s.modBranch b f).urgentMask = s.urgentMask := rfl
@[simp] theorem State.modBranch_trunk : (s.modBranch b f).trunk = s.trunk := rfl
@[simp] theorem State.modBranch_silence : (s.modBranch b f).silence = s.silence := rfl
@[simp] theorem State.modBranch_silenceTime : (s.modBranch b f).silenceTime = s.silenceTime := rfl
@[simp] theorem State.modBranch_ports : (s.modBranch b f).ports = s.ports := rfl
@[simp] theorem State.modBranch_pointer : (s.modBranch b f).pointer = s.pointer := rfl
@[simp] theorem State.modBranch_classification : (s.modBranch b f).classification = s.classification := rfl
@[simp] theorem State.modBranch_rules : (s.modBranch b f).rules = s.rules := rfl
@[simp] theorem State.modBranch_freeBuffers : (s.modBranch b f).freeBuffers = s.freeBuffers := rfl
@[simp] theorem State.modBranch_domains : (s.modBranch b f).domains = s.domains := rfl
@[simp] theorem State.modBranch_faultInputs : (s.modBranch b f).faultInputs = s.faultInputs := rfl
@[simp] theorem State.modBranch_inrushLimit : (s.modBranch b f).inrushLimit = s.inrushLimit := rfl
@[simp] theorem State.modBranch_lastGranted : (s.modBranch b f).lastGranted = s.lastGranted := rfl
@[simp] theorem State.modBranch_budget : (s.modBranch b f).budget = s.budget := rfl
@[simp] theorem State.modBranch_account : (s.modBranch b f).account = s.account := rfl
@[simp] theorem State.modBranch_suspectWindow : (s.modBranch b f).suspectWindow = s.suspectWindow := rfl
@[simp] theorem State.modBranch_quarantineTime : (s.modBranch b f).quarantineTime = s.quarantineTime := rfl
@[simp] theorem State.modBranch_schedule : (s.modBranch b f).schedule = s.schedule := rfl
@[simp] theorem State.modBranch_phase : (s.modBranch b f).phase = s.phase := rfl
@[simp] theorem State.modBranch_pending : (s.modBranch b f).pending = s.pending := rfl

/-- The replaced record, and the others. -/
theorem State.modBranch_get (i : Branch) : (s.modBranch b f).branches[i] = if i = b then f s.branches[b] else s.branches[i] := by
  rcases eq_or_ne i b with rfl | h
  · simp [State.modBranch]
  · have h' : b.val ≠ i.val := fun e => h (Fin.ext e.symm)
    simp [State.modBranch, h, h']

/-- The replaced record, at its index as simp spells it. -/
@[simp] theorem State.modBranch_get_self : (s.modBranch b f).branches[b.val] = f s.branches[b] := by
  simpa using s.modBranch_get b f b

/-- Every other record is as before. -/
theorem State.modBranch_get_other {i : Branch} (h : i ≠ b) : (s.modBranch b f).branches[i] = s.branches[i] := by
  rw [State.modBranch_get, if_neg h]

end

/-! ## modDomain -/

section
variable (s : State) (d : DomainIx) (f : Domain → Domain)

@[simp] theorem State.modDomain_mode : (s.modDomain d f).mode = s.mode := rfl
@[simp] theorem State.modDomain_strapPins : (s.modDomain d f).strapPins = s.strapPins := rfl
@[simp] theorem State.modDomain_strap : (s.modDomain d f).strap = s.strap := rfl
@[simp] theorem State.modDomain_deadline : (s.modDomain d f).deadline = s.deadline := rfl
@[simp] theorem State.modDomain_parkClock : (s.modDomain d f).parkClock = s.parkClock := rfl
@[simp] theorem State.modDomain_requests : (s.modDomain d f).requests = s.requests := rfl
@[simp] theorem State.modDomain_requestOverrun : (s.modDomain d f).requestOverrun = s.requestOverrun := rfl
@[simp] theorem State.modDomain_response : (s.modDomain d f).response = s.response := rfl
@[simp] theorem State.modDomain_warmResetPending : (s.modDomain d f).warmResetPending = s.warmResetPending := rfl
@[simp] theorem State.modDomain_reports : (s.modDomain d f).reports = s.reports := rfl
@[simp] theorem State.modDomain_reportsLost : (s.modDomain d f).reportsLost = s.reportsLost := rfl
@[simp] theorem State.modDomain_flags : (s.modDomain d f).flags = s.flags := rfl
@[simp] theorem State.modDomain_reportMask : (s.modDomain d f).reportMask = s.reportMask := rfl
@[simp] theorem State.modDomain_urgentMask : (s.modDomain d f).urgentMask = s.urgentMask := rfl
@[simp] theorem State.modDomain_trunk : (s.modDomain d f).trunk = s.trunk := rfl
@[simp] theorem State.modDomain_silence : (s.modDomain d f).silence = s.silence := rfl
@[simp] theorem State.modDomain_silenceTime : (s.modDomain d f).silenceTime = s.silenceTime := rfl
@[simp] theorem State.modDomain_ports : (s.modDomain d f).ports = s.ports := rfl
@[simp] theorem State.modDomain_branches : (s.modDomain d f).branches = s.branches := rfl
@[simp] theorem State.modDomain_pointer : (s.modDomain d f).pointer = s.pointer := rfl
@[simp] theorem State.modDomain_classification : (s.modDomain d f).classification = s.classification := rfl
@[simp] theorem State.modDomain_rules : (s.modDomain d f).rules = s.rules := rfl
@[simp] theorem State.modDomain_freeBuffers : (s.modDomain d f).freeBuffers = s.freeBuffers := rfl
@[simp] theorem State.modDomain_faultInputs : (s.modDomain d f).faultInputs = s.faultInputs := rfl
@[simp] theorem State.modDomain_inrushLimit : (s.modDomain d f).inrushLimit = s.inrushLimit := rfl
@[simp] theorem State.modDomain_lastGranted : (s.modDomain d f).lastGranted = s.lastGranted := rfl
@[simp] theorem State.modDomain_budget : (s.modDomain d f).budget = s.budget := rfl
@[simp] theorem State.modDomain_account : (s.modDomain d f).account = s.account := rfl
@[simp] theorem State.modDomain_suspectWindow : (s.modDomain d f).suspectWindow = s.suspectWindow := rfl
@[simp] theorem State.modDomain_quarantineTime : (s.modDomain d f).quarantineTime = s.quarantineTime := rfl
@[simp] theorem State.modDomain_schedule : (s.modDomain d f).schedule = s.schedule := rfl
@[simp] theorem State.modDomain_phase : (s.modDomain d f).phase = s.phase := rfl
@[simp] theorem State.modDomain_pending : (s.modDomain d f).pending = s.pending := rfl

/-- The replaced record, and the others. -/
theorem State.modDomain_get (i : DomainIx) : (s.modDomain d f).domains[i] = if i = d then f s.domains[d] else s.domains[i] := by
  rcases eq_or_ne i d with rfl | h
  · simp [State.modDomain]
  · have h' : d.val ≠ i.val := fun e => h (Fin.ext e.symm)
    simp [State.modDomain, h, h']

/-- The replaced record, at its index as simp spells it. -/
@[simp] theorem State.modDomain_get_self : (s.modDomain d f).domains[d.val] = f s.domains[d] := by
  simpa using s.modDomain_get d f d

/-- Every other record is as before. -/
theorem State.modDomain_get_other {i : DomainIx} (h : i ≠ d) : (s.modDomain d f).domains[i] = s.domains[i] := by
  rw [State.modDomain_get, if_neg h]

end

/-! ## modRule -/

section
variable (s : State) (r : RuleIx) (f : Rule → Rule)

@[simp] theorem State.modRule_mode : (s.modRule r f).mode = s.mode := rfl
@[simp] theorem State.modRule_strapPins : (s.modRule r f).strapPins = s.strapPins := rfl
@[simp] theorem State.modRule_strap : (s.modRule r f).strap = s.strap := rfl
@[simp] theorem State.modRule_deadline : (s.modRule r f).deadline = s.deadline := rfl
@[simp] theorem State.modRule_parkClock : (s.modRule r f).parkClock = s.parkClock := rfl
@[simp] theorem State.modRule_requests : (s.modRule r f).requests = s.requests := rfl
@[simp] theorem State.modRule_requestOverrun : (s.modRule r f).requestOverrun = s.requestOverrun := rfl
@[simp] theorem State.modRule_response : (s.modRule r f).response = s.response := rfl
@[simp] theorem State.modRule_warmResetPending : (s.modRule r f).warmResetPending = s.warmResetPending := rfl
@[simp] theorem State.modRule_reports : (s.modRule r f).reports = s.reports := rfl
@[simp] theorem State.modRule_reportsLost : (s.modRule r f).reportsLost = s.reportsLost := rfl
@[simp] theorem State.modRule_flags : (s.modRule r f).flags = s.flags := rfl
@[simp] theorem State.modRule_reportMask : (s.modRule r f).reportMask = s.reportMask := rfl
@[simp] theorem State.modRule_urgentMask : (s.modRule r f).urgentMask = s.urgentMask := rfl
@[simp] theorem State.modRule_trunk : (s.modRule r f).trunk = s.trunk := rfl
@[simp] theorem State.modRule_silence : (s.modRule r f).silence = s.silence := rfl
@[simp] theorem State.modRule_silenceTime : (s.modRule r f).silenceTime = s.silenceTime := rfl
@[simp] theorem State.modRule_ports : (s.modRule r f).ports = s.ports := rfl
@[simp] theorem State.modRule_branches : (s.modRule r f).branches = s.branches := rfl
@[simp] theorem State.modRule_pointer : (s.modRule r f).pointer = s.pointer := rfl
@[simp] theorem State.modRule_classification : (s.modRule r f).classification = s.classification := rfl
@[simp] theorem State.modRule_freeBuffers : (s.modRule r f).freeBuffers = s.freeBuffers := rfl
@[simp] theorem State.modRule_domains : (s.modRule r f).domains = s.domains := rfl
@[simp] theorem State.modRule_faultInputs : (s.modRule r f).faultInputs = s.faultInputs := rfl
@[simp] theorem State.modRule_inrushLimit : (s.modRule r f).inrushLimit = s.inrushLimit := rfl
@[simp] theorem State.modRule_lastGranted : (s.modRule r f).lastGranted = s.lastGranted := rfl
@[simp] theorem State.modRule_budget : (s.modRule r f).budget = s.budget := rfl
@[simp] theorem State.modRule_account : (s.modRule r f).account = s.account := rfl
@[simp] theorem State.modRule_suspectWindow : (s.modRule r f).suspectWindow = s.suspectWindow := rfl
@[simp] theorem State.modRule_quarantineTime : (s.modRule r f).quarantineTime = s.quarantineTime := rfl
@[simp] theorem State.modRule_schedule : (s.modRule r f).schedule = s.schedule := rfl
@[simp] theorem State.modRule_phase : (s.modRule r f).phase = s.phase := rfl
@[simp] theorem State.modRule_pending : (s.modRule r f).pending = s.pending := rfl

/-- The replaced record, and the others. -/
theorem State.modRule_get (i : RuleIx) : (s.modRule r f).rules[i] = if i = r then f s.rules[r] else s.rules[i] := by
  rcases eq_or_ne i r with rfl | h
  · simp [State.modRule]
  · have h' : r.val ≠ i.val := fun e => h (Fin.ext e.symm)
    simp [State.modRule, h, h']

/-- The replaced record, at its index as simp spells it. -/
@[simp] theorem State.modRule_get_self : (s.modRule r f).rules[r.val] = f s.rules[r] := by
  simpa using s.modRule_get r f r

/-- Every other record is as before. -/
theorem State.modRule_get_other {i : RuleIx} (h : i ≠ r) : (s.modRule r f).rules[i] = s.rules[i] := by
  rw [State.modRule_get, if_neg h]

end

/-! ## modEntry -/

section
variable (s : State) (e : EntryIx) (f : ScheduleEntry → ScheduleEntry)

@[simp] theorem State.modEntry_mode : (s.modEntry e f).mode = s.mode := rfl
@[simp] theorem State.modEntry_strapPins : (s.modEntry e f).strapPins = s.strapPins := rfl
@[simp] theorem State.modEntry_strap : (s.modEntry e f).strap = s.strap := rfl
@[simp] theorem State.modEntry_deadline : (s.modEntry e f).deadline = s.deadline := rfl
@[simp] theorem State.modEntry_parkClock : (s.modEntry e f).parkClock = s.parkClock := rfl
@[simp] theorem State.modEntry_requests : (s.modEntry e f).requests = s.requests := rfl
@[simp] theorem State.modEntry_requestOverrun : (s.modEntry e f).requestOverrun = s.requestOverrun := rfl
@[simp] theorem State.modEntry_response : (s.modEntry e f).response = s.response := rfl
@[simp] theorem State.modEntry_warmResetPending : (s.modEntry e f).warmResetPending = s.warmResetPending := rfl
@[simp] theorem State.modEntry_reports : (s.modEntry e f).reports = s.reports := rfl
@[simp] theorem State.modEntry_reportsLost : (s.modEntry e f).reportsLost = s.reportsLost := rfl
@[simp] theorem State.modEntry_flags : (s.modEntry e f).flags = s.flags := rfl
@[simp] theorem State.modEntry_reportMask : (s.modEntry e f).reportMask = s.reportMask := rfl
@[simp] theorem State.modEntry_urgentMask : (s.modEntry e f).urgentMask = s.urgentMask := rfl
@[simp] theorem State.modEntry_trunk : (s.modEntry e f).trunk = s.trunk := rfl
@[simp] theorem State.modEntry_silence : (s.modEntry e f).silence = s.silence := rfl
@[simp] theorem State.modEntry_silenceTime : (s.modEntry e f).silenceTime = s.silenceTime := rfl
@[simp] theorem State.modEntry_ports : (s.modEntry e f).ports = s.ports := rfl
@[simp] theorem State.modEntry_branches : (s.modEntry e f).branches = s.branches := rfl
@[simp] theorem State.modEntry_pointer : (s.modEntry e f).pointer = s.pointer := rfl
@[simp] theorem State.modEntry_classification : (s.modEntry e f).classification = s.classification := rfl
@[simp] theorem State.modEntry_rules : (s.modEntry e f).rules = s.rules := rfl
@[simp] theorem State.modEntry_freeBuffers : (s.modEntry e f).freeBuffers = s.freeBuffers := rfl
@[simp] theorem State.modEntry_domains : (s.modEntry e f).domains = s.domains := rfl
@[simp] theorem State.modEntry_faultInputs : (s.modEntry e f).faultInputs = s.faultInputs := rfl
@[simp] theorem State.modEntry_inrushLimit : (s.modEntry e f).inrushLimit = s.inrushLimit := rfl
@[simp] theorem State.modEntry_lastGranted : (s.modEntry e f).lastGranted = s.lastGranted := rfl
@[simp] theorem State.modEntry_budget : (s.modEntry e f).budget = s.budget := rfl
@[simp] theorem State.modEntry_account : (s.modEntry e f).account = s.account := rfl
@[simp] theorem State.modEntry_suspectWindow : (s.modEntry e f).suspectWindow = s.suspectWindow := rfl
@[simp] theorem State.modEntry_quarantineTime : (s.modEntry e f).quarantineTime = s.quarantineTime := rfl
@[simp] theorem State.modEntry_phase : (s.modEntry e f).phase = s.phase := rfl
@[simp] theorem State.modEntry_pending : (s.modEntry e f).pending = s.pending := rfl

/-- The replaced record, and the others. -/
theorem State.modEntry_get (i : EntryIx) : (s.modEntry e f).schedule[i] = if i = e then f s.schedule[e] else s.schedule[i] := by
  rcases eq_or_ne i e with rfl | h
  · simp [State.modEntry]
  · have h' : e.val ≠ i.val := fun e => h (Fin.ext e.symm)
    simp [State.modEntry, h, h']

/-- The replaced record, at its index as simp spells it. -/
@[simp] theorem State.modEntry_get_self : (s.modEntry e f).schedule[e.val] = f s.schedule[e] := by
  simpa using s.modEntry_get e f e

/-- Every other record is as before. -/
theorem State.modEntry_get_other {i : EntryIx} (h : i ≠ e) : (s.modEntry e f).schedule[i] = s.schedule[i] := by
  rw [State.modEntry_get, if_neg h]

end

/-! ## mapPorts -/

section
variable (s : State) (f : Port → PortState → PortState)

@[simp] theorem State.mapPorts_mode : (s.mapPorts f).mode = s.mode := by simp only [State.mapPorts]
@[simp] theorem State.mapPorts_strapPins : (s.mapPorts f).strapPins = s.strapPins := by simp only [State.mapPorts]
@[simp] theorem State.mapPorts_strap : (s.mapPorts f).strap = s.strap := by simp only [State.mapPorts]
@[simp] theorem State.mapPorts_deadline : (s.mapPorts f).deadline = s.deadline := by simp only [State.mapPorts]
@[simp] theorem State.mapPorts_parkClock : (s.mapPorts f).parkClock = s.parkClock := by simp only [State.mapPorts]
@[simp] theorem State.mapPorts_requests : (s.mapPorts f).requests = s.requests := by simp only [State.mapPorts]
@[simp] theorem State.mapPorts_requestOverrun : (s.mapPorts f).requestOverrun = s.requestOverrun := by simp only [State.mapPorts]
@[simp] theorem State.mapPorts_response : (s.mapPorts f).response = s.response := by simp only [State.mapPorts]
@[simp] theorem State.mapPorts_warmResetPending : (s.mapPorts f).warmResetPending = s.warmResetPending := by simp only [State.mapPorts]
@[simp] theorem State.mapPorts_reports : (s.mapPorts f).reports = s.reports := by simp only [State.mapPorts]
@[simp] theorem State.mapPorts_reportsLost : (s.mapPorts f).reportsLost = s.reportsLost := by simp only [State.mapPorts]
@[simp] theorem State.mapPorts_flags : (s.mapPorts f).flags = s.flags := by simp only [State.mapPorts]
@[simp] theorem State.mapPorts_reportMask : (s.mapPorts f).reportMask = s.reportMask := by simp only [State.mapPorts]
@[simp] theorem State.mapPorts_urgentMask : (s.mapPorts f).urgentMask = s.urgentMask := by simp only [State.mapPorts]
@[simp] theorem State.mapPorts_trunk : (s.mapPorts f).trunk = s.trunk := by simp only [State.mapPorts]
@[simp] theorem State.mapPorts_silence : (s.mapPorts f).silence = s.silence := by simp only [State.mapPorts]
@[simp] theorem State.mapPorts_silenceTime : (s.mapPorts f).silenceTime = s.silenceTime := by simp only [State.mapPorts]
@[simp] theorem State.mapPorts_branches : (s.mapPorts f).branches = s.branches := by simp only [State.mapPorts]
@[simp] theorem State.mapPorts_pointer : (s.mapPorts f).pointer = s.pointer := by simp only [State.mapPorts]
@[simp] theorem State.mapPorts_classification : (s.mapPorts f).classification = s.classification := by simp only [State.mapPorts]
@[simp] theorem State.mapPorts_rules : (s.mapPorts f).rules = s.rules := by simp only [State.mapPorts]
@[simp] theorem State.mapPorts_freeBuffers : (s.mapPorts f).freeBuffers = s.freeBuffers := by simp only [State.mapPorts]
@[simp] theorem State.mapPorts_domains : (s.mapPorts f).domains = s.domains := by simp only [State.mapPorts]
@[simp] theorem State.mapPorts_faultInputs : (s.mapPorts f).faultInputs = s.faultInputs := by simp only [State.mapPorts]
@[simp] theorem State.mapPorts_inrushLimit : (s.mapPorts f).inrushLimit = s.inrushLimit := by simp only [State.mapPorts]
@[simp] theorem State.mapPorts_lastGranted : (s.mapPorts f).lastGranted = s.lastGranted := by simp only [State.mapPorts]
@[simp] theorem State.mapPorts_budget : (s.mapPorts f).budget = s.budget := by simp only [State.mapPorts]
@[simp] theorem State.mapPorts_account : (s.mapPorts f).account = s.account := by simp only [State.mapPorts]
@[simp] theorem State.mapPorts_suspectWindow : (s.mapPorts f).suspectWindow = s.suspectWindow := by simp only [State.mapPorts]
@[simp] theorem State.mapPorts_quarantineTime : (s.mapPorts f).quarantineTime = s.quarantineTime := by simp only [State.mapPorts]
@[simp] theorem State.mapPorts_schedule : (s.mapPorts f).schedule = s.schedule := by simp only [State.mapPorts]
@[simp] theorem State.mapPorts_phase : (s.mapPorts f).phase = s.phase := by simp only [State.mapPorts]
@[simp] theorem State.mapPorts_pending : (s.mapPorts f).pending = s.pending := by simp only [State.mapPorts]

/-- Each record is the image of the one before. -/
theorem State.mapPorts_get (i : Port) : (s.mapPorts f).ports[i] = f i s.ports[i] := by simp [State.mapPorts]

/-- The same, at an index as simp spells it. -/
@[simp] theorem State.mapPorts_getElem (i : Port) : (s.mapPorts f).ports[i.val] = f i s.ports[i] := s.mapPorts_get f i

end

/-! ## mapBranches -/

section
variable (s : State) (f : Branch → BranchState → BranchState)

@[simp] theorem State.mapBranches_mode : (s.mapBranches f).mode = s.mode := by simp only [State.mapBranches]
@[simp] theorem State.mapBranches_strapPins : (s.mapBranches f).strapPins = s.strapPins := by simp only [State.mapBranches]
@[simp] theorem State.mapBranches_strap : (s.mapBranches f).strap = s.strap := by simp only [State.mapBranches]
@[simp] theorem State.mapBranches_deadline : (s.mapBranches f).deadline = s.deadline := by simp only [State.mapBranches]
@[simp] theorem State.mapBranches_parkClock : (s.mapBranches f).parkClock = s.parkClock := by simp only [State.mapBranches]
@[simp] theorem State.mapBranches_requests : (s.mapBranches f).requests = s.requests := by simp only [State.mapBranches]
@[simp] theorem State.mapBranches_requestOverrun : (s.mapBranches f).requestOverrun = s.requestOverrun := by simp only [State.mapBranches]
@[simp] theorem State.mapBranches_response : (s.mapBranches f).response = s.response := by simp only [State.mapBranches]
@[simp] theorem State.mapBranches_warmResetPending : (s.mapBranches f).warmResetPending = s.warmResetPending := by simp only [State.mapBranches]
@[simp] theorem State.mapBranches_reports : (s.mapBranches f).reports = s.reports := by simp only [State.mapBranches]
@[simp] theorem State.mapBranches_reportsLost : (s.mapBranches f).reportsLost = s.reportsLost := by simp only [State.mapBranches]
@[simp] theorem State.mapBranches_flags : (s.mapBranches f).flags = s.flags := by simp only [State.mapBranches]
@[simp] theorem State.mapBranches_reportMask : (s.mapBranches f).reportMask = s.reportMask := by simp only [State.mapBranches]
@[simp] theorem State.mapBranches_urgentMask : (s.mapBranches f).urgentMask = s.urgentMask := by simp only [State.mapBranches]
@[simp] theorem State.mapBranches_trunk : (s.mapBranches f).trunk = s.trunk := by simp only [State.mapBranches]
@[simp] theorem State.mapBranches_silence : (s.mapBranches f).silence = s.silence := by simp only [State.mapBranches]
@[simp] theorem State.mapBranches_silenceTime : (s.mapBranches f).silenceTime = s.silenceTime := by simp only [State.mapBranches]
@[simp] theorem State.mapBranches_ports : (s.mapBranches f).ports = s.ports := by simp only [State.mapBranches]
@[simp] theorem State.mapBranches_pointer : (s.mapBranches f).pointer = s.pointer := by simp only [State.mapBranches]
@[simp] theorem State.mapBranches_classification : (s.mapBranches f).classification = s.classification := by simp only [State.mapBranches]
@[simp] theorem State.mapBranches_rules : (s.mapBranches f).rules = s.rules := by simp only [State.mapBranches]
@[simp] theorem State.mapBranches_freeBuffers : (s.mapBranches f).freeBuffers = s.freeBuffers := by simp only [State.mapBranches]
@[simp] theorem State.mapBranches_domains : (s.mapBranches f).domains = s.domains := by simp only [State.mapBranches]
@[simp] theorem State.mapBranches_faultInputs : (s.mapBranches f).faultInputs = s.faultInputs := by simp only [State.mapBranches]
@[simp] theorem State.mapBranches_inrushLimit : (s.mapBranches f).inrushLimit = s.inrushLimit := by simp only [State.mapBranches]
@[simp] theorem State.mapBranches_lastGranted : (s.mapBranches f).lastGranted = s.lastGranted := by simp only [State.mapBranches]
@[simp] theorem State.mapBranches_budget : (s.mapBranches f).budget = s.budget := by simp only [State.mapBranches]
@[simp] theorem State.mapBranches_account : (s.mapBranches f).account = s.account := by simp only [State.mapBranches]
@[simp] theorem State.mapBranches_suspectWindow : (s.mapBranches f).suspectWindow = s.suspectWindow := by simp only [State.mapBranches]
@[simp] theorem State.mapBranches_quarantineTime : (s.mapBranches f).quarantineTime = s.quarantineTime := by simp only [State.mapBranches]
@[simp] theorem State.mapBranches_schedule : (s.mapBranches f).schedule = s.schedule := by simp only [State.mapBranches]
@[simp] theorem State.mapBranches_phase : (s.mapBranches f).phase = s.phase := by simp only [State.mapBranches]
@[simp] theorem State.mapBranches_pending : (s.mapBranches f).pending = s.pending := by simp only [State.mapBranches]

/-- Each record is the image of the one before. -/
theorem State.mapBranches_get (i : Branch) : (s.mapBranches f).branches[i] = f i s.branches[i] := by simp [State.mapBranches]

/-- The same, at an index as simp spells it. -/
@[simp] theorem State.mapBranches_getElem (i : Branch) : (s.mapBranches f).branches[i.val] = f i s.branches[i] := s.mapBranches_get f i

end

/-! ## mapDomains -/

section
variable (s : State) (f : DomainIx → Domain → Domain)

@[simp] theorem State.mapDomains_mode : (s.mapDomains f).mode = s.mode := by simp only [State.mapDomains]
@[simp] theorem State.mapDomains_strapPins : (s.mapDomains f).strapPins = s.strapPins := by simp only [State.mapDomains]
@[simp] theorem State.mapDomains_strap : (s.mapDomains f).strap = s.strap := by simp only [State.mapDomains]
@[simp] theorem State.mapDomains_deadline : (s.mapDomains f).deadline = s.deadline := by simp only [State.mapDomains]
@[simp] theorem State.mapDomains_parkClock : (s.mapDomains f).parkClock = s.parkClock := by simp only [State.mapDomains]
@[simp] theorem State.mapDomains_requests : (s.mapDomains f).requests = s.requests := by simp only [State.mapDomains]
@[simp] theorem State.mapDomains_requestOverrun : (s.mapDomains f).requestOverrun = s.requestOverrun := by simp only [State.mapDomains]
@[simp] theorem State.mapDomains_response : (s.mapDomains f).response = s.response := by simp only [State.mapDomains]
@[simp] theorem State.mapDomains_warmResetPending : (s.mapDomains f).warmResetPending = s.warmResetPending := by simp only [State.mapDomains]
@[simp] theorem State.mapDomains_reports : (s.mapDomains f).reports = s.reports := by simp only [State.mapDomains]
@[simp] theorem State.mapDomains_reportsLost : (s.mapDomains f).reportsLost = s.reportsLost := by simp only [State.mapDomains]
@[simp] theorem State.mapDomains_flags : (s.mapDomains f).flags = s.flags := by simp only [State.mapDomains]
@[simp] theorem State.mapDomains_reportMask : (s.mapDomains f).reportMask = s.reportMask := by simp only [State.mapDomains]
@[simp] theorem State.mapDomains_urgentMask : (s.mapDomains f).urgentMask = s.urgentMask := by simp only [State.mapDomains]
@[simp] theorem State.mapDomains_trunk : (s.mapDomains f).trunk = s.trunk := by simp only [State.mapDomains]
@[simp] theorem State.mapDomains_silence : (s.mapDomains f).silence = s.silence := by simp only [State.mapDomains]
@[simp] theorem State.mapDomains_silenceTime : (s.mapDomains f).silenceTime = s.silenceTime := by simp only [State.mapDomains]
@[simp] theorem State.mapDomains_ports : (s.mapDomains f).ports = s.ports := by simp only [State.mapDomains]
@[simp] theorem State.mapDomains_branches : (s.mapDomains f).branches = s.branches := by simp only [State.mapDomains]
@[simp] theorem State.mapDomains_pointer : (s.mapDomains f).pointer = s.pointer := by simp only [State.mapDomains]
@[simp] theorem State.mapDomains_classification : (s.mapDomains f).classification = s.classification := by simp only [State.mapDomains]
@[simp] theorem State.mapDomains_rules : (s.mapDomains f).rules = s.rules := by simp only [State.mapDomains]
@[simp] theorem State.mapDomains_freeBuffers : (s.mapDomains f).freeBuffers = s.freeBuffers := by simp only [State.mapDomains]
@[simp] theorem State.mapDomains_faultInputs : (s.mapDomains f).faultInputs = s.faultInputs := by simp only [State.mapDomains]
@[simp] theorem State.mapDomains_inrushLimit : (s.mapDomains f).inrushLimit = s.inrushLimit := by simp only [State.mapDomains]
@[simp] theorem State.mapDomains_lastGranted : (s.mapDomains f).lastGranted = s.lastGranted := by simp only [State.mapDomains]
@[simp] theorem State.mapDomains_budget : (s.mapDomains f).budget = s.budget := by simp only [State.mapDomains]
@[simp] theorem State.mapDomains_account : (s.mapDomains f).account = s.account := by simp only [State.mapDomains]
@[simp] theorem State.mapDomains_suspectWindow : (s.mapDomains f).suspectWindow = s.suspectWindow := by simp only [State.mapDomains]
@[simp] theorem State.mapDomains_quarantineTime : (s.mapDomains f).quarantineTime = s.quarantineTime := by simp only [State.mapDomains]
@[simp] theorem State.mapDomains_schedule : (s.mapDomains f).schedule = s.schedule := by simp only [State.mapDomains]
@[simp] theorem State.mapDomains_phase : (s.mapDomains f).phase = s.phase := by simp only [State.mapDomains]
@[simp] theorem State.mapDomains_pending : (s.mapDomains f).pending = s.pending := by simp only [State.mapDomains]

/-- Each record is the image of the one before. -/
theorem State.mapDomains_get (i : DomainIx) : (s.mapDomains f).domains[i] = f i s.domains[i] := by simp [State.mapDomains]

/-- The same, at an index as simp spells it. -/
@[simp] theorem State.mapDomains_getElem (i : DomainIx) : (s.mapDomains f).domains[i.val] = f i s.domains[i] := s.mapDomains_get f i

end

/-! ## mapRules -/

section
variable (s : State) (f : RuleIx → Rule → Rule)

@[simp] theorem State.mapRules_mode : (s.mapRules f).mode = s.mode := by simp only [State.mapRules]
@[simp] theorem State.mapRules_strapPins : (s.mapRules f).strapPins = s.strapPins := by simp only [State.mapRules]
@[simp] theorem State.mapRules_strap : (s.mapRules f).strap = s.strap := by simp only [State.mapRules]
@[simp] theorem State.mapRules_deadline : (s.mapRules f).deadline = s.deadline := by simp only [State.mapRules]
@[simp] theorem State.mapRules_parkClock : (s.mapRules f).parkClock = s.parkClock := by simp only [State.mapRules]
@[simp] theorem State.mapRules_requests : (s.mapRules f).requests = s.requests := by simp only [State.mapRules]
@[simp] theorem State.mapRules_requestOverrun : (s.mapRules f).requestOverrun = s.requestOverrun := by simp only [State.mapRules]
@[simp] theorem State.mapRules_response : (s.mapRules f).response = s.response := by simp only [State.mapRules]
@[simp] theorem State.mapRules_warmResetPending : (s.mapRules f).warmResetPending = s.warmResetPending := by simp only [State.mapRules]
@[simp] theorem State.mapRules_reports : (s.mapRules f).reports = s.reports := by simp only [State.mapRules]
@[simp] theorem State.mapRules_reportsLost : (s.mapRules f).reportsLost = s.reportsLost := by simp only [State.mapRules]
@[simp] theorem State.mapRules_flags : (s.mapRules f).flags = s.flags := by simp only [State.mapRules]
@[simp] theorem State.mapRules_reportMask : (s.mapRules f).reportMask = s.reportMask := by simp only [State.mapRules]
@[simp] theorem State.mapRules_urgentMask : (s.mapRules f).urgentMask = s.urgentMask := by simp only [State.mapRules]
@[simp] theorem State.mapRules_trunk : (s.mapRules f).trunk = s.trunk := by simp only [State.mapRules]
@[simp] theorem State.mapRules_silence : (s.mapRules f).silence = s.silence := by simp only [State.mapRules]
@[simp] theorem State.mapRules_silenceTime : (s.mapRules f).silenceTime = s.silenceTime := by simp only [State.mapRules]
@[simp] theorem State.mapRules_ports : (s.mapRules f).ports = s.ports := by simp only [State.mapRules]
@[simp] theorem State.mapRules_branches : (s.mapRules f).branches = s.branches := by simp only [State.mapRules]
@[simp] theorem State.mapRules_pointer : (s.mapRules f).pointer = s.pointer := by simp only [State.mapRules]
@[simp] theorem State.mapRules_classification : (s.mapRules f).classification = s.classification := by simp only [State.mapRules]
@[simp] theorem State.mapRules_freeBuffers : (s.mapRules f).freeBuffers = s.freeBuffers := by simp only [State.mapRules]
@[simp] theorem State.mapRules_domains : (s.mapRules f).domains = s.domains := by simp only [State.mapRules]
@[simp] theorem State.mapRules_faultInputs : (s.mapRules f).faultInputs = s.faultInputs := by simp only [State.mapRules]
@[simp] theorem State.mapRules_inrushLimit : (s.mapRules f).inrushLimit = s.inrushLimit := by simp only [State.mapRules]
@[simp] theorem State.mapRules_lastGranted : (s.mapRules f).lastGranted = s.lastGranted := by simp only [State.mapRules]
@[simp] theorem State.mapRules_budget : (s.mapRules f).budget = s.budget := by simp only [State.mapRules]
@[simp] theorem State.mapRules_account : (s.mapRules f).account = s.account := by simp only [State.mapRules]
@[simp] theorem State.mapRules_suspectWindow : (s.mapRules f).suspectWindow = s.suspectWindow := by simp only [State.mapRules]
@[simp] theorem State.mapRules_quarantineTime : (s.mapRules f).quarantineTime = s.quarantineTime := by simp only [State.mapRules]
@[simp] theorem State.mapRules_schedule : (s.mapRules f).schedule = s.schedule := by simp only [State.mapRules]
@[simp] theorem State.mapRules_phase : (s.mapRules f).phase = s.phase := by simp only [State.mapRules]
@[simp] theorem State.mapRules_pending : (s.mapRules f).pending = s.pending := by simp only [State.mapRules]

/-- Each record is the image of the one before. -/
theorem State.mapRules_get (i : RuleIx) : (s.mapRules f).rules[i] = f i s.rules[i] := by simp [State.mapRules]

/-- The same, at an index as simp spells it. -/
@[simp] theorem State.mapRules_getElem (i : RuleIx) : (s.mapRules f).rules[i.val] = f i s.rules[i] := s.mapRules_get f i

end

/-! ## mapSchedule -/

section
variable (s : State) (f : EntryIx → ScheduleEntry → ScheduleEntry)

@[simp] theorem State.mapSchedule_mode : (s.mapSchedule f).mode = s.mode := by simp only [State.mapSchedule]
@[simp] theorem State.mapSchedule_strapPins : (s.mapSchedule f).strapPins = s.strapPins := by simp only [State.mapSchedule]
@[simp] theorem State.mapSchedule_strap : (s.mapSchedule f).strap = s.strap := by simp only [State.mapSchedule]
@[simp] theorem State.mapSchedule_deadline : (s.mapSchedule f).deadline = s.deadline := by simp only [State.mapSchedule]
@[simp] theorem State.mapSchedule_parkClock : (s.mapSchedule f).parkClock = s.parkClock := by simp only [State.mapSchedule]
@[simp] theorem State.mapSchedule_requests : (s.mapSchedule f).requests = s.requests := by simp only [State.mapSchedule]
@[simp] theorem State.mapSchedule_requestOverrun : (s.mapSchedule f).requestOverrun = s.requestOverrun := by simp only [State.mapSchedule]
@[simp] theorem State.mapSchedule_response : (s.mapSchedule f).response = s.response := by simp only [State.mapSchedule]
@[simp] theorem State.mapSchedule_warmResetPending : (s.mapSchedule f).warmResetPending = s.warmResetPending := by simp only [State.mapSchedule]
@[simp] theorem State.mapSchedule_reports : (s.mapSchedule f).reports = s.reports := by simp only [State.mapSchedule]
@[simp] theorem State.mapSchedule_reportsLost : (s.mapSchedule f).reportsLost = s.reportsLost := by simp only [State.mapSchedule]
@[simp] theorem State.mapSchedule_flags : (s.mapSchedule f).flags = s.flags := by simp only [State.mapSchedule]
@[simp] theorem State.mapSchedule_reportMask : (s.mapSchedule f).reportMask = s.reportMask := by simp only [State.mapSchedule]
@[simp] theorem State.mapSchedule_urgentMask : (s.mapSchedule f).urgentMask = s.urgentMask := by simp only [State.mapSchedule]
@[simp] theorem State.mapSchedule_trunk : (s.mapSchedule f).trunk = s.trunk := by simp only [State.mapSchedule]
@[simp] theorem State.mapSchedule_silence : (s.mapSchedule f).silence = s.silence := by simp only [State.mapSchedule]
@[simp] theorem State.mapSchedule_silenceTime : (s.mapSchedule f).silenceTime = s.silenceTime := by simp only [State.mapSchedule]
@[simp] theorem State.mapSchedule_ports : (s.mapSchedule f).ports = s.ports := by simp only [State.mapSchedule]
@[simp] theorem State.mapSchedule_branches : (s.mapSchedule f).branches = s.branches := by simp only [State.mapSchedule]
@[simp] theorem State.mapSchedule_pointer : (s.mapSchedule f).pointer = s.pointer := by simp only [State.mapSchedule]
@[simp] theorem State.mapSchedule_classification : (s.mapSchedule f).classification = s.classification := by simp only [State.mapSchedule]
@[simp] theorem State.mapSchedule_rules : (s.mapSchedule f).rules = s.rules := by simp only [State.mapSchedule]
@[simp] theorem State.mapSchedule_freeBuffers : (s.mapSchedule f).freeBuffers = s.freeBuffers := by simp only [State.mapSchedule]
@[simp] theorem State.mapSchedule_domains : (s.mapSchedule f).domains = s.domains := by simp only [State.mapSchedule]
@[simp] theorem State.mapSchedule_faultInputs : (s.mapSchedule f).faultInputs = s.faultInputs := by simp only [State.mapSchedule]
@[simp] theorem State.mapSchedule_inrushLimit : (s.mapSchedule f).inrushLimit = s.inrushLimit := by simp only [State.mapSchedule]
@[simp] theorem State.mapSchedule_lastGranted : (s.mapSchedule f).lastGranted = s.lastGranted := by simp only [State.mapSchedule]
@[simp] theorem State.mapSchedule_budget : (s.mapSchedule f).budget = s.budget := by simp only [State.mapSchedule]
@[simp] theorem State.mapSchedule_account : (s.mapSchedule f).account = s.account := by simp only [State.mapSchedule]
@[simp] theorem State.mapSchedule_suspectWindow : (s.mapSchedule f).suspectWindow = s.suspectWindow := by simp only [State.mapSchedule]
@[simp] theorem State.mapSchedule_quarantineTime : (s.mapSchedule f).quarantineTime = s.quarantineTime := by simp only [State.mapSchedule]
@[simp] theorem State.mapSchedule_phase : (s.mapSchedule f).phase = s.phase := by simp only [State.mapSchedule]
@[simp] theorem State.mapSchedule_pending : (s.mapSchedule f).pending = s.pending := by simp only [State.mapSchedule]

/-- Each record is the image of the one before. -/
theorem State.mapSchedule_get (i : EntryIx) : (s.mapSchedule f).schedule[i] = f i s.schedule[i] := by simp [State.mapSchedule]

/-- The same, at an index as simp spells it. -/
@[simp] theorem State.mapSchedule_getElem (i : EntryIx) : (s.mapSchedule f).schedule[i.val] = f i s.schedule[i] := s.mapSchedule_get f i

end

end Sys2Proof.Machine
end

