-- ==== Sys2Proof/Laws/Frames.lean ====
section
/-! SUPPORT. The frames of the shared operations: what each leaves as it was. `State.held` is the part of the state
that the domain controller, the branch controller, the queue manager and the condition reports leave alone, every
parameter among it; an operation's frame is one equation between the held parts before and after it, and a field is
read off it by `congrArg`. -/

namespace Sys2Proof.Machine

/-! ## The held part -/

/-- The parameters of a port, its working state blanked. -/
def PortState.bare (ps : PortState) : PortState := { PortState.reset 0 with params := ps.params }

/-- The parameters of a branch, its working state blanked. -/
def BranchState.bare (bs : BranchState) : BranchState := { BranchState.cold with params := bs.params }

/-- The parameters of a domain, its working state blanked. -/
def Domain.bare (d : Domain) : Domain :=
  { Domain.cold with
    branch := d.branch, ia := d.ia, settleTime := d.settleTime, defaultLinger := d.defaultLinger }

/-- The state with the conditions, the reports, the frame pool, the arbiter's pointer and the working state of ports,
branches and domains blanked. -/
def State.held (s : State) : State :=
  { s with
    flags := 0, reports := [], reportsLost := false, freeBuffers := 0, lastGranted := 0
    ports := s.ports.map PortState.bare
    branches := s.branches.map BranchState.bare
    domains := s.domains.map Domain.bare }

/-- The held part without the charge account, which a battery figure and an accounting expiry change. -/
def State.heldByAdmission (s : State) : State := { s.held with account := Account.reset }

/-- The held part without what the confirmation monitor changes: the rules' suspect and quarantine states, and the
confirm mark of a match in flight. -/
def State.heldByMonitor (s : State) : State :=
  { s.held with rules := s.rules.map Rule.cleared, classification := none }

/-- The held part without what the transmitters change beside the ports: trunk, silence timer and response slot. -/
def State.heldByTransmitters (s : State) : State :=
  { s.held with trunk := .quiet, silence := none, response := none }

theorem State.heldByAdmission_of_held {s t : State} (h : t.held = s.held) :
    t.heldByAdmission = s.heldByAdmission := by simp only [State.heldByAdmission, h]

theorem State.heldByTransmitters_of_held {s t : State} (h : t.held = s.held) :
    t.heldByTransmitters = s.heldByTransmitters := by simp only [State.heldByTransmitters, h]

theorem State.heldByMonitor_of_held {s t : State} (h : t.held = s.held) :
    t.heldByMonitor = s.heldByMonitor := by
  have hr : t.held.rules = s.held.rules := congrArg State.rules h
  have hr' : t.rules = s.rules := hr
  simp only [State.heldByMonitor, h, hr']

theorem State.port_params_of_held {s t : State} (h : t.held = s.held) (p : Port) :
    t.ports[p].params = s.ports[p].params := by
  simpa [State.held, PortState.bare] using congrArg (fun u : State => u.ports[p].params) h

theorem State.branch_params_of_held {s t : State} (h : t.held = s.held) (b : Branch) :
    t.branches[b].params = s.branches[b].params := by
  simpa [State.held, BranchState.bare] using congrArg (fun u : State => u.branches[b].params) h

theorem State.domain_params_of_held {s t : State} (h : t.held = s.held) (d : DomainIx) :
    t.domains[d].bare = s.domains[d].bare := by
  simpa [State.held] using congrArg (fun u : State => u.domains[d]) h

/-! ## The record updates -/

theorem map_set_same {α β : Type} {n : Nat} (v : Vector α n) (g : α → β) (i : Fin n) (x : α)
    (h : g x = g v[i]) : (v.set i x).map g = v.map g := by
  rw [Vector.map_set, h]
  ext j hj
  simp only [Vector.getElem_set, Vector.getElem_map]
  split
  · subst_vars; rfl
  · rfl

theorem map_ofFn_same {α β : Type} {n : Nat} (v : Vector α n) (g : α → β) (f : Fin n → α → α)
    (h : ∀ i, g (f i v[i]) = g v[i]) : (Vector.ofFn fun i => f i v[i]).map g = v.map g := by
  ext i hi
  simpa using h ⟨i, hi⟩

section
variable (s : State)

theorem State.modPort_held {p : Port} {f : PortState → PortState} (h : (f s.ports[p]).params = s.ports[p].params) :
    (s.modPort p f).held = s.held := by
  have h' : (f s.ports[p]).bare = s.ports[p].bare := by simp only [PortState.bare, h]
  simp only [State.held, State.modPort, map_set_same _ _ _ _ h']

theorem State.modBranch_held {b : Branch} {f : BranchState → BranchState}
    (h : (f s.branches[b]).params = s.branches[b].params) : (s.modBranch b f).held = s.held := by
  have h' : (f s.branches[b]).bare = s.branches[b].bare := by simp only [BranchState.bare, h]
  simp only [State.held, State.modBranch, map_set_same _ _ _ _ h']

theorem State.modDomain_held {d : DomainIx} {f : Domain → Domain} (h : (f s.domains[d]).bare = s.domains[d].bare) :
    (s.modDomain d f).held = s.held := by
  simp only [State.held, State.modDomain, map_set_same _ _ _ _ h]

theorem State.mapPorts_held {f : Port → PortState → PortState}
    (h : ∀ p, (f p s.ports[p]).params = s.ports[p].params) : (s.mapPorts f).held = s.held := by
  have e := map_ofFn_same s.ports PortState.bare f fun p => by simp only [PortState.bare, h]
  simp only [State.held, State.mapPorts, e]

theorem State.mapBranches_held {f : Branch → BranchState → BranchState}
    (h : ∀ b, (f b s.branches[b]).params = s.branches[b].params) : (s.mapBranches f).held = s.held := by
  have e := map_ofFn_same s.branches BranchState.bare f fun b => by simp only [BranchState.bare, h]
  simp only [State.held, State.mapBranches, e]

theorem State.mapDomains_held {f : DomainIx → Domain → Domain}
    (h : ∀ d, (f d s.domains[d]).bare = s.domains[d].bare) : (s.mapDomains f).held = s.held := by
  simp only [State.held, State.mapDomains, map_ofFn_same s.domains Domain.bare f h]

end

/-- Many operations in turn leave the held part alone if each does. -/
theorem foldl_held {α : Type} (f : State → α → State) (h : ∀ s x, (f s x).held = s.held) (l : List α) (s : State) :
    (l.foldl f s).held = s.held := by
  induction l generalizing s with
  | nil => rfl
  | cons x l ih => rw [List.foldl_cons, ih, h]

/-! ## Branches, queues and drains -/

section
variable (s : State)

@[simp] theorem Domain.switchedOff_bare (d : Domain) : d.switchedOff.bare = d.bare := rfl
@[simp] theorem Domain.faulted_bare (d : Domain) : d.faulted.bare = d.bare := rfl
@[simp] theorem Domain.unarmed_bare (d : Domain) : d.unarmed.bare = d.bare := rfl

theorem State.raise_held (c : Condition) (x : Option Nat) (y z : Nat) : (s.raise c x y z).held = s.held := by
  unfold State.raise State.offerReport
  dsimp only
  split
  · split <;> rfl
  · rfl

theorem State.purge_held (p : Port) (keep : QueueItem → Bool) : (s.purge p keep).held = s.held := by
  have h := s.modPort_held (p := p) (f := fun ps =>
    { ps with
      queue := ps.queue.filter keep
      flight := if (s.ports[p].queue.filter fun i => !keep i).any QueueItem.sending then
        ps.flight.map Flight.orphan else ps.flight }) rfl
  exact h

theorem State.stopDrain_held (b : Branch) : (s.stopDrain b).held = s.held := s.modBranch_held rfl

theorem State.enterBranch_held (b : Branch) (m : BranchMode) : (s.enterBranch b m).held = s.held :=
  s.modBranch_held rfl

theorem State.goRest_held (b : Branch) : (s.goRest b).held = s.held := by
  unfold State.goRest
  dsimp only
  split
  · rw [State.modPort_held _ rfl, State.enterBranch_held]
  · split
    · rw [State.modBranch_held _ rfl, State.enterBranch_held]
    · rw [State.enterBranch_held]

theorem State.returnToRest_held (b : Branch) : (s.returnToRest b).held = s.held := by
  rw [State.returnToRest, State.goRest_held, State.stopDrain_held, State.purge_held]

theorem State.switchOffReleasing_held (b : Branch) : (s.switchOffReleasing b).held = s.held :=
  s.mapDomains_held fun d => by split <;> rfl

theorem State.reviveReleasing_held (b : Branch) : (s.reviveReleasing b).held = s.held :=
  s.mapDomains_held fun d => by split <;> rfl

theorem State.completeDrain_held (b : Branch) : (s.completeDrain b).held = s.held := by
  rw [State.completeDrain, State.goRest_held, State.switchOffReleasing_held, State.stopDrain_held, State.purge_held]

theorem State.settleDrain_held (b : Branch) : (s.settleDrain b).held = s.held := by
  unfold State.settleDrain
  split
  · exact s.completeDrain_held b
  · rfl

theorem State.settlePort_held (p : Port) : (s.settlePort p).held = s.held := by
  unfold State.settlePort
  split
  · rfl
  · exact s.settleDrain_held _

theorem State.placeMarker_held (b : Branch) : (s.placeMarker b).held = s.held := by
  unfold State.placeMarker
  split
  · dsimp only
    rw [State.settleDrain_held, State.modBranch_held _ rfl, State.modPort_held _ rfl, State.enterBranch_held]
  · rfl

theorem State.withdrawMarker_held (b : Branch) : (s.withdrawMarker b).held = s.held := by
  unfold State.withdrawMarker
  split
  · dsimp only
    rw [State.reviveReleasing_held, State.enterBranch_held, State.stopDrain_held, State.modPort_held _ rfl]
  · rfl

theorem State.branchJoined_held (b : Branch) : (s.branchJoined b).held = s.held := by
  unfold State.branchJoined
  repeat' split
  all_goals first | rfl | exact s.enterBranch_held _ _ | exact s.withdrawMarker_held _

theorem State.branchFollow_held (b : Branch) : (s.branchFollow b).held = s.held := by
  unfold State.branchFollow
  repeat' split
  all_goals first | rfl | exact s.enterBranch_held _ _ | exact s.returnToRest_held _

theorem State.followDomain_held (d : DomainIx) : (s.followDomain d).held = s.held := by
  unfold State.followDomain
  split
  · rfl
  · exact s.branchFollow_held _

theorem State.reportFault_held (d : DomainIx) (k : DomainState) : (s.reportFault d k).held = s.held := by
  rw [State.reportFault, State.raise_held, State.followDomain_held]

end

/-! ## The arbiter, wake requests and cuts -/

section
variable (s : State)

theorem State.grant_held (d : DomainIx) : (s.grant d).held = s.held :=
  s.modDomain_held (d := d) (f := fun x => { x with state := .powerUp, seen := true, settle := x.settleTime }) rfl

theorem State.grantRounds_held (n : Nat) (s : State) : (s.grantRounds n).held = s.held := by
  induction n generalizing s with
  | zero => rfl
  | succ n ih =>
    unfold State.grantRounds
    repeat' split
    · rfl
    · rw [State.reportFault_held, ih, State.modDomain_held _ rfl, State.grant_held]
    · rw [ih, State.grant_held]
    · rfl

theorem State.runArbiter_held : s.runArbiter.held = s.held := State.grantRounds_held 16 s

theorem State.enterFault_held (d : DomainIx) : (s.enterFault d).held = s.held := by
  rw [State.enterFault, State.reportFault_held, State.runArbiter_held, State.modDomain_held _ rfl]

theorem Domain.queuedFor_bare (d : Domain) (k : WakeClass) (n : Nat) (r : Option RuleIx) :
    (d.queuedFor k n r).bare = d.bare := by
  unfold Domain.queuedFor
  dsimp only
  split <;> rfl

theorem State.requestWake_held (d : DomainIx) (k : WakeClass) (n : Nat) (r : Option RuleIx) :
    (s.requestWake d k n r).held = s.held := by
  unfold State.requestWake
  dsimp only
  split
  · split
    · exact s.modDomain_held (Domain.queuedFor_bare _ _ _ _)
    · split
      · rfl
      · rw [State.branchJoined_held, State.modDomain_held _ (Domain.queuedFor_bare _ _ _ _)]
  · exact s.modDomain_held rfl
  · exact s.modDomain_held rfl
  · exact s.modDomain_held rfl
  · split
    · exact s.modDomain_held rfl
    · rw [State.withdrawMarker_held, State.modDomain_held _ rfl]
  · rfl

theorem State.wake_held (d : DomainIx) (k : WakeClass) (n : Nat) (r : Option RuleIx) :
    (s.wake d k n r).held = s.held := by
  rw [State.wake, State.runArbiter_held, State.requestWake_held]

theorem State.wakeGroup_held (ds : List DomainIx) : (s.wakeGroup ds).held = s.held := by
  rw [State.wakeGroup, State.runArbiter_held, foldl_held _ fun t d => t.requestWake_held _ _ _ _]

theorem State.reloadActivity_held (d : DomainIx) (n : Nat) : (s.reloadActivity d n).held = s.held := by
  unfold State.reloadActivity
  dsimp only
  split
  · exact s.modDomain_held rfl
  · split
    · exact s.modDomain_held rfl
    · rw [State.withdrawMarker_held, State.modDomain_held _ rfl]
  all_goals rfl

theorem State.switchOff_held (d : DomainIx) : (s.switchOff d).held = s.held := by
  unfold State.switchOff
  split
  · rw [State.runArbiter_held, State.followDomain_held, State.modDomain_held _ rfl]
  · rfl

theorem State.cut_held (g : Domain → Bool) : (s.cut g).held = s.held := by
  rw [State.cut, State.runArbiter_held]
  exact s.mapDomains_held fun d => by split <;> rfl

theorem State.isolate_held (b : Branch) (c : IsolationCause) : (s.isolate b c).held = s.held := by
  unfold State.isolate
  split
  · rfl
  · dsimp only
    rw [State.raise_held, State.modBranch_held _ rfl, State.cut_held, State.stopDrain_held, State.purge_held,
      State.modPort_held _ rfl, State.enterBranch_held]

theorem State.chatter_held (b : Branch) : (s.chatter b).held = s.held := by
  have h : (s.modBranch b fun bs => { bs with chatterCount := bs.chatterCount + 1 }).held = s.held :=
    s.modBranch_held rfl
  unfold State.chatter
  dsimp only
  repeat' split
  · rw [State.isolate_held, h]
  · exact h
  · rfl

theorem State.leaveIsolated_held (b : Branch) : (s.leaveIsolated b).held = s.held := by
  have h : ((s.modBranch b BranchState.released).modPort (portOf b) fun ps => { ps with discards := 0 }).held =
      s.held := by
    rw [State.modPort_held _ rfl, State.modBranch_held _ rfl]
  unfold State.leaveIsolated
  dsimp only
  split
  · rw [State.goRest_held, h]
  · rw [State.enterBranch_held, h]
  all_goals rw [State.wakeGroup_held, State.enterBranch_held, h]

end

/-! ## The confirmation monitor -/

section
variable (s : State)

theorem State.mapRules_heldByMonitor {f : RuleIx → Rule → Rule}
    (h : ∀ r, (f r s.rules[r]).cleared = s.rules[r].cleared) : (s.mapRules f).heldByMonitor = s.heldByMonitor := by
  simp only [State.heldByMonitor, State.held, State.mapRules, map_ofFn_same s.rules Rule.cleared f h]

theorem State.modRule_heldByMonitor {r : RuleIx} {f : Rule → Rule}
    (h : (f s.rules[r]).cleared = s.rules[r].cleared) : (s.modRule r f).heldByMonitor = s.heldByMonitor := by
  simp only [State.heldByMonitor, State.held, State.modRule, map_set_same _ _ _ _ h]

theorem State.confirm_heldByMonitor (b : Branch) : (s.confirm b).heldByMonitor = s.heldByMonitor := by
  unfold State.confirm
  dsimp only
  refine (State.heldByMonitor_of_held (State.mapDomains_held _ fun d => ?_)).trans
    (s.mapRules_heldByMonitor fun r => ?_)
  · split <;> rfl
  · split <;> rfl

theorem State.receptionNotice_heldByMonitor (b : Branch) :
    (s.receptionNotice b).heldByMonitor = s.heldByMonitor :=
  (State.heldByMonitor_of_held (State.withdrawMarker_held _ b)).trans (s.confirm_heldByMonitor b)

theorem State.clearWakers_held (r : RuleIx) : (s.clearWakers r).held = s.held :=
  s.mapDomains_held fun d => by split <;> rfl

theorem State.dropConfirm_heldByMonitor (r : RuleIx) : (s.dropConfirm r).heldByMonitor = s.heldByMonitor := rfl

theorem State.charge_heldByMonitor (r : RuleIx) (d : DomainIx) : (s.charge r d).heldByMonitor = s.heldByMonitor := by
  unfold State.charge
  dsimp only
  split
  · exact s.modRule_heldByMonitor rfl
  · split
    · exact (State.heldByMonitor_of_held (State.raise_held _ _ _ _ _)).trans
        ((State.dropConfirm_heldByMonitor _ r).trans (s.modRule_heldByMonitor rfl))
    · exact s.modRule_heldByMonitor rfl

end

/-! ## The account -/

section
variable (s : State)

theorem Domain.capped_bare (n : Nat) (d : Domain) : (d.capped n).bare = d.bare := by
  unfold Domain.capped
  split <;> rfl

theorem State.capOrder_held : s.capOrder.held = s.held := s.mapDomains_held fun _ => Domain.capped_bare _ _

theorem State.recompute_heldByAdmission : s.recompute.heldByAdmission = s.heldByAdmission := by
  have h : ({ s with account := s.account.recomputed s.budget } : State).heldByAdmission = s.heldByAdmission := rfl
  unfold State.recompute
  dsimp only
  repeat' split
  all_goals
    first
    | exact h
    | exact (State.heldByAdmission_of_held (by simp only [State.capOrder_held, State.raise_held])).trans h

theorem State.takeBattery_heldByAdmission (v : BitVec 16) :
    (s.takeBattery v).heldByAdmission = s.heldByAdmission := by
  unfold State.takeBattery
  rw [State.recompute_heldByAdmission]
  rfl

end

/-! ## Copies and admission -/

section
variable (s : State)

theorem State.enqueue_held (p : Port) (f : Frame) (k : WakeClass) (hold : Bool) :
    (s.enqueue p f k hold).held = s.held := by
  have h := s.modPort_held (p := p) (f := fun ps =>
    { ps with
      queue := ps.queue ++
        [.frame
          { frame := f, cls := k, hold := hold, attempts := 0, sending := false,
            deadline := s.ports[p].params.holdAge }] }) rfl
  exact h

theorem State.dropAt_held (p : Port) (i : Nat) : (s.dropAt p i).held = s.held := by
  have h := s.modPort_held (p := p) (f := fun ps => { ps with queue := ps.queue.eraseIdx i }) rfl
  exact h

theorem State.evictFor_held (p : Port) (f : Frame) (hold : Bool) : (s.evictFor p f hold).held = s.held := by
  unfold State.evictFor State.holdOverflow
  split
  · exact s.raise_held _ _ _ _
  · split
    · rw [State.settlePort_held, State.raise_held, State.enqueue_held, State.dropAt_held]
    · exact s.raise_held _ _ _ _

theorem State.offerCopy_held (p : Port) (f : Frame) (k : WakeClass) (hold : Bool) :
    (s.offerCopy p f k hold).held = s.held := by
  unfold State.offerCopy State.holdOverflow
  repeat' split
  all_goals
    first
    | rfl
    | exact s.enqueue_held _ _ _ _
    | exact s.evictFor_held _ _ _
    | exact s.raise_held _ _ _ _

theorem State.offerCopies_held (x : PortSet) (f : Frame) (k : WakeClass) (hold : Bool) :
    (s.offerCopies x f k hold).held = s.held :=
  foldl_held _ (fun t p => t.offerCopy_held p f k hold) _ s

theorem State.issueWakes_held (l : Level) (x : DomainSet) (k : WakeClass) (n : Nat) (r : Option RuleIx) :
    (s.issueWakes l x k n r).held = s.held :=
  foldl_held _ (fun t d => t.wake_held d k _ r) _ s

theorem State.issueReloads_held (l : Level) (x : DomainSet) : (s.issueReloads l x).held = s.held :=
  foldl_held _ (fun t d => t.reloadActivity_held d _) _ s

theorem State.issueBattery_heldByAdmission (v : Option (BitVec 16)) :
    (s.issueBattery v).heldByAdmission = s.heldByAdmission := by
  unfold State.issueBattery
  split
  · rfl
  · exact s.takeBattery_heldByAdmission _

theorem State.issueChatter_held (due : Bool) (p : Port) : (s.issueChatter due p).held = s.held := by
  unfold State.issueChatter
  repeat' split
  all_goals first | rfl | exact s.chatter_held _

theorem State.dispatchMatch_heldByAdmission (p : Port) (f : Frame) (m : Match) :
    (s.dispatchMatch p f m).heldByAdmission = s.heldByAdmission := by
  unfold State.dispatchMatch
  split
  · refine (State.heldByAdmission_of_held (State.issueChatter_held _ _ _)).trans
      ((State.issueBattery_heldByAdmission _ _).trans (State.heldByAdmission_of_held ?_))
    rw [State.offerCopies_held, State.issueReloads_held, State.issueWakes_held]
  · refine (State.heldByAdmission_of_held (State.issueChatter_held _ _ _)).trans
      ((State.issueBattery_heldByAdmission _ _).trans (State.heldByAdmission_of_held ?_))
    rw [State.offerCopies_held, State.issueReloads_held]
  · exact (State.heldByAdmission_of_held (State.issueChatter_held _ _ _)).trans
      (State.issueBattery_heldByAdmission _ _)

theorem State.scheduledWake_held (i : EntryIx) : (s.scheduledWake i).held = s.held := by
  unfold State.scheduledWake
  dsimp only
  split
  · exact s.issueWakes_held _ _ _ _ _
  all_goals exact s.raise_held _ _ _ _

end

/-! ## Transmitters -/

section
variable (s : State)

theorem State.beginEntry_held (p : Port) : (s.beginEntry p).held = s.held := by
  unfold State.beginEntry
  repeat' split
  all_goals first | rfl | exact s.modPort_held rfl

theorem State.beginTrunk_heldByTransmitters : s.beginTrunk.heldByTransmitters = s.heldByTransmitters := by
  unfold State.beginTrunk State.beginResponse State.beginReport
  dsimp only
  repeat' split
  all_goals
    first
    | rfl
    | exact State.heldByTransmitters_of_held (s.beginEntry_held _)
    | exact (State.heldByTransmitters_of_held (State.modPort_held _ rfl)).trans rfl

theorem State.trunkGivesUp_heldByTransmitters : s.trunkGivesUp.heldByTransmitters = s.heldByTransmitters := by
  unfold State.trunkGivesUp
  refine (State.heldByTransmitters_of_held ?_).trans (b := s.trunkSilent.heldByTransmitters) rfl
  rw [State.modPort_held _ rfl, State.purge_held]

theorem State.countDiscard_heldByTransmitters (p : Port) :
    (s.countDiscard p).heldByTransmitters = s.heldByTransmitters := by
  have h : (s.modPort p fun ps => { ps with discards := min Config.attemptLimit (ps.discards + 1) }).held = s.held :=
    s.modPort_held rfl
  have h' := State.heldByTransmitters_of_held h
  unfold State.countDiscard
  dsimp only
  repeat' split
  · exact h'
  · exact (State.trunkGivesUp_heldByTransmitters _).trans h'
  · exact h'
  · exact (State.heldByTransmitters_of_held (State.isolate_held _ _ _)).trans h'

theorem State.delivered_heldByTransmitters (p : Port) :
    (s.delivered p).heldByTransmitters = s.heldByTransmitters := by
  have h : (s.modPort p fun ps => { ps with discards := 0 }).held = s.held := s.modPort_held rfl
  have h' := State.heldByTransmitters_of_held h
  unfold State.delivered State.trunkDelivered
  dsimp only
  repeat' split
  all_goals exact h'

theorem State.headIdle_held (p : Port) : (s.headIdle p).held = s.held :=
  s.modPort_held (by split <;> rfl)

theorem State.endEntry_heldByTransmitters (p : Port) (o : AttemptOutcome) :
    (s.endEntry p o).heldByTransmitters = s.heldByTransmitters := by
  have drop := State.heldByTransmitters_of_held (s.dropAt_held p 0)
  unfold State.endEntry
  repeat' split
  · exact (State.heldByTransmitters_of_held (State.settlePort_held _ p)).trans
      ((State.delivered_heldByTransmitters _ p).trans drop)
  · exact (State.heldByTransmitters_of_held (State.settlePort_held _ p)).trans
      ((State.countDiscard_heldByTransmitters _ p).trans drop)
  · exact (State.heldByTransmitters_of_held (State.settlePort_held _ p)).trans drop
  · exact State.heldByTransmitters_of_held (by rw [State.settlePort_held, State.headIdle_held])
  · rfl

theorem State.endRemoved_heldByTransmitters (p : Port) (o : AttemptOutcome) :
    (s.endRemoved p o).heldByTransmitters = s.heldByTransmitters := by
  unfold State.endRemoved
  dsimp only
  split
  · exact (State.heldByTransmitters_of_held (State.settlePort_held _ p)).trans
      ((State.delivered_heldByTransmitters _ p).trans rfl)
  · exact (State.heldByTransmitters_of_held (State.settlePort_held _ p)).trans rfl

theorem State.endResponse_heldByTransmitters (o : AttemptOutcome) :
    (s.endResponse o).heldByTransmitters = s.heldByTransmitters := by
  unfold State.endResponse
  repeat' split
  all_goals
    first
    | rfl
    | exact (State.delivered_heldByTransmitters _ _).trans rfl
    | exact (State.countDiscard_heldByTransmitters _ _).trans rfl

theorem State.endReport_heldByTransmitters (o : AttemptOutcome) :
    (s.endReport o).heldByTransmitters = s.heldByTransmitters := by
  unfold State.endReport
  repeat' split
  all_goals
    first
    | rfl
    | exact (State.delivered_heldByTransmitters _ _).trans rfl
    | exact (State.countDiscard_heldByTransmitters _ _).trans rfl

/-- The end of an attempt leaves the held part alone but for trunk, silence timer and response slot. -/
theorem State.endAttempt_heldByTransmitters (p : Port) (f : Flight) (o : AttemptOutcome) :
    (s.endAttempt p f o).heldByTransmitters = s.heldByTransmitters := by
  have h : (s.modPort p fun ps => { ps with flight := none }).held = s.held := s.modPort_held rfl
  have h' := State.heldByTransmitters_of_held h
  unfold State.endAttempt
  dsimp only
  split
  · exact (State.endEntry_heldByTransmitters _ p o).trans h'
  · exact (State.endRemoved_heldByTransmitters _ p o).trans h'
  · exact (State.endResponse_heldByTransmitters _ o).trans h'
  · exact (State.endReport_heldByTransmitters _ o).trans h'

end

/-! ## Part modes -/

section
variable (s : State)

theorem BranchState.roused_params (bs : BranchState) : bs.roused.params = bs.params := by
  unfold BranchState.roused
  split <;> rfl

theorem State.rouseBranches_held : s.rouseBranches.held = s.held := by
  unfold State.rouseBranches
  rw [State.mapBranches_held _ fun _ => BranchState.roused_params _, State.mapPorts_held _ fun _ => rfl]

theorem State.enterUnconfigured_held :
    s.enterUnconfigured.held = { s.held with mode := .unconfigured, deadline := 120 } := by
  rw [State.enterUnconfigured, State.wakeGroup_held, State.rouseBranches_held]
  rfl

theorem State.flushQueues_held : s.flushQueues.held = s.held :=
  foldl_held _ (fun t p => t.purge_held p _) _ s

theorem State.enterFallback_held :
    s.enterFallback.held =
      { s.held with mode := .fallback, deadline := 0, requests := [], classification := none } := by
  unfold State.enterFallback
  dsimp only
  rw [State.raise_held, State.mapPorts_held _ fun _ => rfl, State.flushQueues_held,
    State.mapBranches_held _ fun _ => rfl, State.cut_held]
  rfl

theorem State.parkBranch_held (b : Branch) : (s.parkBranch b).held = s.held := by
  unfold State.parkBranch
  repeat' split
  all_goals
    first
    | rfl
    | exact s.returnToRest_held b
    | rw [State.enterBranch_held, State.withdrawMarker_held]

theorem State.departNow_held : s.departNow.held = { s.held with mode := .drive } := by
  unfold State.departNow
  dsimp only
  rw [State.wakeGroup_held, State.mapDomains_held _ fun _ => rfl, State.mapBranches_held _ fun _ => rfl,
    State.rouseBranches_held]
  rfl

end

end Sys2Proof.Machine
end

