-- ==== Sys2Proof/Laws/Arbiter.lean ====
section
/-! SUPPORT. What the inrush arbiter's grants do to the domains (R103 to R105), and that when it has run no domain
waits while a place is free. -/

namespace Sys2Proof.Machine

/-! ## Domains under the branch's reaction -/

section
variable (s : State)

theorem State.goRest_domains (b : Branch) : (s.goRest b).domains = s.domains := by
  unfold State.goRest
  dsimp only
  repeat' split
  all_goals rfl

theorem State.branchFollow_domains (b : Branch) : (s.branchFollow b).domains = s.domains := by
  unfold State.branchFollow State.returnToRest
  repeat' split
  all_goals first | rfl | exact State.goRest_domains _ b

theorem State.followDomain_domains (d : DomainIx) : (s.followDomain d).domains = s.domains := by
  unfold State.followDomain
  split
  · rfl
  · exact s.branchFollow_domains _

theorem State.raise_domains (c : Condition) (x : Option Nat) (y z : Nat) :
    (s.raise c x y z).domains = s.domains := by
  unfold State.raise State.offerReport
  dsimp only
  repeat' split
  all_goals rfl

theorem State.reportFault_domains (d : DomainIx) (k : DomainState) : (s.reportFault d k).domains = s.domains := by
  rw [State.reportFault, State.raise_domains, State.followDomain_domains]

end

/-! ## Counting -/

theorem countP_of_lost {α : Type} {p q : α → Bool} {d : α} (hd : p d = true) (hd' : q d = false) :
    ∀ {l : List α}, l.Nodup → d ∈ l → (∀ i, i ≠ d → q i = p i) → l.countP p = l.countP q + 1
  | x :: l, hn, hm, h => by
    obtain ⟨hx, hn⟩ := List.nodup_cons.1 hn
    rcases eq_or_ne x d with rfl | hne
    · have : l.countP q = l.countP p := List.countP_congr fun i hi => by
        rw [h i fun e => hx (e ▸ hi)]
      simp [hd, hd', this]
    · have hm' : d ∈ l := (List.mem_cons.1 hm).resolve_left fun e => hne e.symm
      have ih := countP_of_lost hd hd' hn hm' h
      simp only [List.countP_cons, h x hne, ih]
      omega

theorem countP_of_changed {α : Type} {p q : α → Bool} {d : α} :
    ∀ {l : List α}, l.Nodup → (∀ i, i ≠ d → q i = p i) → l.countP q ≤ l.countP p + 1
  | [], _, _ => by simp
  | x :: l, hn, h => by
    obtain ⟨hx, hn⟩ := List.nodup_cons.1 hn
    rcases eq_or_ne x d with rfl | hne
    · have : l.countP q = l.countP p := List.countP_congr fun i hi => by
        rw [h i fun e => hx (e ▸ hi)]
      simp only [List.countP_cons, this]
      split <;> split <;> omega
    · have ih := countP_of_changed (d := d) hn h
      simp only [List.countP_cons, h x hne]
      omega

theorem allDomains_nodup : allDomains.Nodup := by decide

theorem mem_allDomains (d : DomainIx) : d ∈ allDomains := by revert d; decide

/-! ## The arbiter -/

section
variable (s : State)

/-- How many domains are pending. -/
def State.pendingCount : Nat := allDomains.countP s.isPending

theorem State.chooseGrant_some {d : DomainIx} (h : s.chooseGrant = some d) : s.isPending d = true := by
  have := List.find?_some h
  split at this
  · simp only [Bool.and_eq_true] at this
    exact this.1
  · exact this

theorem mem_searchOrder (p d : DomainIx) : d ∈ searchOrder p := by revert p d; decide

theorem State.chooseGrant_none (h : s.chooseGrant = none) (d : DomainIx) : s.domains[d].state ≠ .queued := by
  intro hd
  have pend : s.isPending d = true := beq_iff_eq.2 hd
  have all := fun i => List.find?_eq_none.1 h i (mem_searchOrder s.lastGranted i)
  split at all
  · rename_i any
    obtain ⟨i, -, hi⟩ := List.any_eq_true.1 any
    exact all i hi
  · exact all d pend

/-- A pending domain that leaves the pending set, by a grant or by a grant that ends in Fault. -/
theorem State.modDomain_pendingCount {d : DomainIx} (h : s.isPending d = true) {f : Domain → Domain}
    (hf : (f s.domains[d]).state ≠ .queued) : s.pendingCount = (s.modDomain d f).pendingCount + 1 := by
  refine countP_of_lost (d := d) h ?_ allDomains_nodup (mem_allDomains d) fun i hi => ?_
  · simpa [State.isPending] using hf
  · have e := s.modDomain_get_other d f hi
    simp only [State.isPending, e]

theorem State.modDomain_powerUpCount (d : DomainIx) (f : Domain → Domain) :
    (s.modDomain d f).powerUpCount ≤ s.powerUpCount + 1 := by
  refine countP_of_changed (d := d) allDomains_nodup fun i hi => ?_
  have e := s.modDomain_get_other d f hi
  simp only [e]

theorem State.inrushLimit_of_held {s t : State} (h : t.held = s.held) : t.inrushLimit = s.inrushLimit :=
  show t.held.inrushLimit = s.held.inrushLimit from congrArg State.inrushLimit h

/-- A grant that ends in Fault, as one replacement of the domain's record. -/
def Domain.grantedInFault (x : Domain) : Domain :=
  ({ x with state := .powerUp, seen := true, settle := x.settleTime } : Domain).faulted

theorem State.grant_faulted (d : DomainIx) :
    (s.grant d).modDomain d Domain.faulted =
      { s.modDomain d Domain.grantedInFault with lastGranted := d } := by
  simp [State.grant, State.modDomain, Domain.grantedInFault]

/-- The branch's reaction and the condition leave the domains and the limit as they are. -/
theorem State.reportFault_lawful {s : State} {d : DomainIx} {k : DomainState} {n : Nat}
    (h : s.powerUpCount ≤ n ∧ s.arbiterIdle) :
    (s.reportFault d k).powerUpCount ≤ n ∧ (s.reportFault d k).arbiterIdle := by
  have e := s.reportFault_domains d k
  have l := State.inrushLimit_of_held (s.reportFault_held d k)
  simpa only [State.powerUpCount, State.arbiterIdle, e, l] using h

/-- Rounds enough for the pending set end with the limit kept and nothing left to grant (R103). -/
theorem State.grantRounds_lawful : ∀ (n : Nat) (s : State),
    s.pendingCount ≤ n → s.powerUpCount ≤ s.inrushLimit →
      (s.grantRounds n).powerUpCount ≤ s.inrushLimit ∧ (s.grantRounds n).arbiterIdle
  | 0, s, hn, hk => by
    refine ⟨hk, .inr fun d hd => ?_⟩
    have pos : 0 < s.pendingCount :=
      List.countP_pos_iff.2 ⟨d, mem_allDomains d, beq_iff_eq.2 hd⟩
    omega
  | n + 1, s, hn, hk => by
    unfold State.grantRounds
    split
    · rename_i room
      split
      · rename_i none
        exact ⟨hk, .inr (s.chooseGrant_none none)⟩
      · rename_i d some
        have pend := s.chooseGrant_some some
        split
        · have lost := s.modDomain_pendingCount pend (f := Domain.grantedInFault) (by simp [Domain.grantedInFault, Domain.faulted])
          have up := s.modDomain_powerUpCount d Domain.grantedInFault
          rw [State.grant_faulted]
          exact State.reportFault_lawful (State.grantRounds_lawful n
            { s.modDomain d Domain.grantedInFault with lastGranted := d }
            (by show (s.modDomain d Domain.grantedInFault).pendingCount ≤ n; omega) (Nat.le_trans up room))
        · have lost := s.modDomain_pendingCount pend
            (f := fun x => { x with state := .powerUp, seen := true, settle := x.settleTime }) (by simp)
          have up := s.modDomain_powerUpCount d
            fun x => { x with state := .powerUp, seen := true, settle := x.settleTime }
          exact State.grantRounds_lawful n (s.grant d)
            (by
              show (s.modDomain d fun x =>
                { x with state := .powerUp, seen := true, settle := x.settleTime }).pendingCount ≤ n
              omega)
            (Nat.le_trans up room)
    · rename_i full
      exact ⟨hk, .inl (Nat.not_lt.1 full)⟩

/-- The arbiter keeps the inrush limit and leaves no domain waiting beside a free place. -/
theorem State.runArbiter_lawful (hk : s.powerUpCount ≤ s.inrushLimit) :
    s.runArbiter.powerUpCount ≤ s.runArbiter.inrushLimit ∧ s.runArbiter.arbiterIdle := by
  have lim : s.runArbiter.inrushLimit = s.inrushLimit := State.inrushLimit_of_held s.runArbiter_held
  have few : s.pendingCount ≤ 16 := List.countP_le_length
  rw [lim]
  exact State.grantRounds_lawful 16 s few hk

end

end Sys2Proof.Machine
end

