-- ==== Sys2Proof/Laws/Dispatches.lean ====
section
/-! SUPPORT. The dispatch of several classifications one after the other, over the list of them. -/

namespace Sys2Proof.Machine

section
variable (s : State)

@[simp] theorem State.dispatchEach_nil : s.dispatchEach [] = .next { s with classification := none } := rfl

theorem State.dispatchEach_cons {c : Classification} {t : State} (rest : List Classification)
    (h : exec .classificationDispatch { s with classification := some c } = .next t) :
    s.dispatchEach (c :: rest) = t.dispatchEach rest := by
  rw [State.dispatchEach, h]

/-- The first classification replaces the one in flight. -/
theorem State.dispatchEach_free (cs : List Classification) :
    { s with classification := none }.dispatchEach cs = s.dispatchEach cs := by
  cases cs <;> rfl

theorem State.dispatchEach_append {t : State} :
    ∀ {s : State} (cs rest : List Classification), s.dispatchEach cs = .next t →
      s.dispatchEach (cs ++ rest) = t.dispatchEach rest
  | s, [], rest, h => by
    obtain rfl : { s with classification := none } = t := by simpa using h
    exact (s.dispatchEach_free rest).symm
  | s, c :: cs, rest, h => by
    rcases e : exec .classificationDispatch { s with classification := some c } with u | _ | _
    · rw [List.cons_append, s.dispatchEach_cons _ e]
      exact dispatchEach_append cs rest (by rwa [s.dispatchEach_cons _ e] at h)
    all_goals simp [State.dispatchEach, e] at h

end

end Sys2Proof.Machine
end

