-- ==== Sys2Proof/Laws/Due.lean ====
section
/-! SUPPORT. When each expiry is due, as a proposition, and the choice of the first step that is due as one search
through a list of commands with their tests. -/

namespace Sys2Proof.Machine

section
variable (s : State)

@[simp] theorem State.deadlineDue_iff : s.deadlineDue = true ↔ s.mode = .unconfigured ∧ s.deadline = 0 := by
  simp [State.deadlineDue]

@[simp] theorem State.settleDue_iff (d : DomainIx) :
    s.settleDue d = true ↔ s.domains[d].state = .powerUp ∧ s.domains[d].settle = 0 := by
  simp [State.settleDue]

@[simp] theorem State.lingerDue_iff (d : DomainIx) :
    s.lingerDue d = true ↔ (s.mode = .parked ∧ s.domains[d].state = .on) ∧ s.domains[d].remaining = 0 := by
  simp [State.lingerDue]

@[simp] theorem State.drainDue_iff (b : Branch) :
    s.drainDue b = true ↔ s.branches[b].mode = .draining ∧ s.branches[b].drainTimer = some 0 := by
  simp [State.drainDue]

@[simp] theorem State.silenceDue_iff : s.silenceDue = true ↔ s.silence = some 0 := by
  simp [State.silenceDue]

@[simp] theorem State.windowDue_iff (b : Branch) : s.windowDue b = true ↔ s.branches[b].windowTimer = some 0 := by
  simp [State.windowDue]

@[simp] theorem State.isolationDue_iff (b : Branch) :
    s.isolationDue b = true ↔ s.branches[b].mode = .isolated ∧ s.branches[b].isolationTimer = some 0 := by
  simp [State.isolationDue]

@[simp] theorem State.suspectDue_iff (r : RuleIx) : s.suspectDue r = true ↔ s.rules[r].suspect = some 0 := by
  simp [State.suspectDue]

@[simp] theorem State.quarantineDue_iff (r : RuleIx) :
    s.quarantineDue r = true ↔ s.rules[r].quarantine = some 0 := by
  simp [State.quarantineDue]

@[simp] theorem State.scheduleDue_iff (e : EntryIx) :
    s.scheduleDue e = true ↔ (s.mode = .parked ∧ s.schedule[e].enabled = true) ∧ s.schedule[e].countdown = 0 := by
  simp [State.scheduleDue]

@[simp] theorem State.accountingDue_iff : s.accountingDue = true ↔ s.account.timer = 0 := by
  simp [State.accountingDue]

@[simp] theorem QueueItem.overdue_frame (e : Entry) :
    (QueueItem.frame e).overdue = (e.deadline == 0 && !e.sending) := rfl

@[simp] theorem QueueItem.overdue_marker : QueueItem.marker.overdue = false := rfl

/-- The first due of a list is what a search through its commands, each with its test, finds first. -/
theorem firstDue_eq {α : Type} (xs : List α) (test : α → Bool) (cmd : α → Instr) :
    firstDue xs test cmd = ((xs.map fun x => (test x, cmd x)).find? (·.1)).map (·.2) := by
  rw [firstDue, List.find?_map, Option.map_map]
  rfl

end

end Sys2Proof.Machine
end

