-- ==== Sys2Proof/Laws/Pool.lean ====
section
/-! SUPPORT. The frame pool's account (R75): the buffers that are free, that stand in queues and that are with an
attempt whose entry was removed, as a sum over the ports, and what the queue operations do to it. -/

namespace Sys2Proof.Machine

/-! ## The items of a queue -/

@[simp] theorem QueueItem.isFrame_frame (e : Entry) : (QueueItem.frame e).isFrame = true := rfl
@[simp] theorem QueueItem.isFrame_marker : QueueItem.marker.isFrame = false := rfl
@[simp] theorem QueueItem.held_frame (e : Entry) : (QueueItem.frame e).held = e.hold := rfl
@[simp] theorem QueueItem.held_marker : QueueItem.marker.held = false := rfl
@[simp] theorem QueueItem.sending_frame (e : Entry) : (QueueItem.frame e).sending = e.sending := rfl
@[simp] theorem QueueItem.sending_marker : QueueItem.marker.sending = false := rfl
@[simp] theorem QueueItem.evictable_frame (e : Entry) :
    (QueueItem.frame e).evictable = (e.cls != .a && !e.sending) := rfl
@[simp] theorem QueueItem.evictable_marker : QueueItem.marker.evictable = false := rfl

/-! ## Sums over the ports -/

/-- A quantity of the port front ends, summed. -/
def State.portSum (s : State) (g : PortState → Nat) : Nat := (allPorts.map fun p => g s.ports[p]).sum

theorem sum_of_changed {α : Type} {u v : α → Nat} {x : α} :
    ∀ {l : List α}, l.Nodup → x ∈ l → (∀ i, i ≠ x → v i = u i) → (l.map v).sum + u x = (l.map u).sum + v x
  | y :: l, hn, hm, h => by
    obtain ⟨hy, hn⟩ := List.nodup_cons.1 hn
    rcases eq_or_ne y x with rfl | hne
    · have : l.map v = l.map u := List.map_congr_left fun i hi => h i fun e => hy (e ▸ hi)
      simp only [List.map_cons, List.sum_cons, this]
      omega
    · have hm' : x ∈ l := (List.mem_cons.1 hm).resolve_left fun e => hne e.symm
      have ih := sum_of_changed hn hm' h
      simp only [List.map_cons, List.sum_cons, h y hne]
      omega

theorem allPorts_nodup : allPorts.Nodup := by decide

theorem mem_allPorts (p : Port) : p ∈ allPorts := by revert p; decide

/-- One port front end replaced: the sum changes by that port's part. -/
theorem State.modPort_portSum (s : State) (p : Port) (f : PortState → PortState) (g : PortState → Nat) :
    (s.modPort p f).portSum g + g s.ports[p] = s.portSum g + g (f s.ports[p]) := by
  have h := sum_of_changed (u := fun q => g s.ports[q]) (v := fun q => g (s.modPort p f).ports[q]) allPorts_nodup
    (mem_allPorts p) fun q hq => by rw [s.modPort_get_other p f hq]
  have e : (s.modPort p f).ports[p] = f s.ports[p] := by rw [s.modPort_get p f p, if_pos rfl]
  simp only [e] at h
  exact h

/-! ## The buffers a port has in use -/

/-- The buffers of a port's queue, and the one of an attempt whose entry was removed. -/
def PortState.load (ps : PortState) : Nat :=
  frameCount ps.queue + if ps.flight.any (·.source == .removed) then 1 else 0

/-- The buffers the pool accounts for. -/
def State.buffers (s : State) : Nat := s.freeBuffers + s.portSum PortState.load

/-- The pool's law speaks of this sum. -/
theorem State.buffers_eq (s : State) :
    s.buffers = s.freeBuffers + frameCount s.queued + s.removedInFlight := by
  simp only [State.buffers, State.portSum, State.queued, State.removedInFlight, allPorts, PortState.load, frameCount,
    List.map_cons, List.map_nil, List.sum_cons, List.sum_nil, List.flatMap_cons, List.flatMap_nil,
    List.countP_append, List.countP_cons, List.countP_nil]
  omega

/-! ## Entries that join and leave -/

/-- A copy that finds a free buffer takes it into its queue. -/
theorem State.enqueue_buffers (s : State) (p : Port) (f : Frame) (k : WakeClass) (hold : Bool)
    (h : 1 ≤ s.freeBuffers) : (s.enqueue p f k hold).buffers = s.buffers := by
  let e : Entry :=
    { frame := f, cls := k, hold := hold, attempts := 0, sending := false, deadline := s.ports[p].params.holdAge }
  have sum := s.modPort_portSum p (fun ps => { ps with queue := ps.queue ++ [.frame e] }) PortState.load
  have more : ({ s.ports[p] with queue := s.ports[p].queue ++ [.frame e] } : PortState).load =
      s.ports[p].load + 1 := by
    simp [PortState.load, frameCount]
    omega
  have new : (s.enqueue p f k hold).buffers = s.freeBuffers - 1 +
      (s.modPort p fun ps => { ps with queue := ps.queue ++ [.frame e] }).portSum PortState.load := rfl
  rw [new, State.buffers]
  simp only [more] at sum
  omega

theorem frameCount_eraseIdx {q : List QueueItem} {i : Nat} {e : Entry} (h : q[i]? = some (.frame e)) :
    frameCount (q.eraseIdx i) + 1 = frameCount q := by
  induction q generalizing i with
  | nil => simp at h
  | cons x q ih =>
    cases i with
    | zero =>
      simp only [List.getElem?_cons_zero, Option.some.injEq] at h
      simp [h, frameCount, List.countP_cons]
    | succ i =>
      have := ih (i := i) (by simpa using h)
      simp only [frameCount, List.eraseIdx_cons_succ, List.countP_cons] at this ⊢
      omega

/-- An entry that leaves its queue gives its buffer back. -/
theorem State.dropAt_buffers (s : State) (p : Port) (i : Nat) (e : Entry)
    (h : s.ports[p].queue[i]? = some (.frame e)) : (s.dropAt p i).buffers = s.buffers := by
  have sum := s.modPort_portSum p (fun ps => { ps with queue := ps.queue.eraseIdx i }) PortState.load
  have less := frameCount_eraseIdx h
  have new : (s.dropAt p i).buffers = s.freeBuffers + 1 +
      (s.modPort p fun ps => { ps with queue := ps.queue.eraseIdx i }).portSum PortState.load := rfl
  rw [new, State.buffers]
  simp only [PortState.load] at sum
  omega

/-! ## Purges -/

/-- The frames of a queue, split by a filter, and those that leave by whether they are in transmission. -/
theorem frameCount_split (q : List QueueItem) (keep : QueueItem → Bool) :
    frameCount q = frameCount (q.filter keep)
      + ((q.filter fun i => !keep i).countP fun i => i.isFrame && !i.sending)
      + (q.filter fun i => !keep i).countP QueueItem.sending := by
  induction q with
  | nil => rfl
  | cons x q ih =>
    simp only [frameCount] at ih ⊢
    rcases x with e | _
    · cases hk : keep (.frame e) <;> cases hs : e.sending <;>
        simp [hk, hs, List.countP_cons] at ih ⊢ <;> omega
    · cases hk : keep .marker <;> simp [hk] at ih ⊢ <;> omega

/-- At most one entry of a coherent queue is in transmission. -/
theorem PortState.transmissionCoherent.sending_count {ps : PortState} (h : ps.transmissionCoherent)
    (keep : QueueItem → Bool) : (ps.queue.filter keep).countP QueueItem.sending ≤ 1 := by
  have all : ps.queue.countP QueueItem.sending ≤ 1 := by
    cases hq : ps.queue with
    | nil => simp
    | cons x q =>
      have idle : q.countP QueueItem.sending = 0 := List.countP_eq_zero.2 fun i hi => by
        simpa using h.1 i (by simpa [hq] using hi)
      rw [List.countP_cons, idle]
      split <;> omega
  exact le_trans (List.Sublist.countP_le List.filter_sublist) all

/-- What a purge makes of a port. -/
def PortState.purged (ps : PortState) (keep : QueueItem → Bool) : PortState :=
  { ps with
    queue := ps.queue.filter keep
    flight := if (ps.queue.filter fun i => !keep i).any QueueItem.sending then ps.flight.map Flight.orphan
      else ps.flight }

/-- The entry in transmission of a coherent queue is the one of the attempt in flight. -/
theorem PortState.transmissionCoherent.source {ps : PortState} (h : ps.transmissionCoherent) {i : QueueItem}
    (mem : i ∈ ps.queue) (hi : i.sending = true) : ∃ f, ps.flight = some f ∧ f.source = .entry := by
  have src : ps.flight.any (·.source == .entry) = true := by
    rw [← h.2]
    obtain ⟨tail, -⟩ := h
    cases hq : ps.queue with
    | nil => simp [hq] at mem
    | cons x q =>
      rcases List.mem_cons.1 (hq ▸ mem) with rfl | inTail
      · simpa using hi
      · have idle := tail i (by simpa [hq] using inTail)
        simp [idle] at hi
  cases hf : ps.flight with
  | none => simp [hf] at src
  | some f => exact ⟨f, rfl, by simpa [hf] using src⟩

/-- The load of a purged port: the kept frames, and the buffer of an attempt whose entry was removed. -/
theorem PortState.purged_load {ps : PortState} (h : ps.transmissionCoherent) (keep : QueueItem → Bool) :
    (ps.purged keep).load + ((ps.queue.filter fun i => !keep i).countP fun i => i.isFrame && !i.sending) =
      ps.load := by
  have split := frameCount_split ps.queue keep
  have one := h.sending_count fun i => !keep i
  by_cases any : (ps.queue.filter fun i => !keep i).any QueueItem.sending = true
  · have pos : 0 < (ps.queue.filter fun i => !keep i).countP QueueItem.sending :=
      List.countP_pos_iff.2 (by simpa only [List.any_eq_true] using any)
    obtain ⟨i, mem, hi⟩ := List.any_eq_true.1 any
    obtain ⟨f, hf, src⟩ := h.source (List.mem_filter.1 mem).1 hi
    simp only [PortState.load, PortState.purged, any, if_true, hf, Option.map_some, Option.any_some, Flight.orphan,
      src, beq_self_eq_true, show (TxSource.entry == TxSource.removed) = false from rfl, Bool.false_eq_true, if_false]
    omega
  · have none : (ps.queue.filter fun i => !keep i).countP QueueItem.sending = 0 :=
      Nat.eq_zero_of_not_pos fun pos => any (List.any_eq_true.2 (List.countP_pos_iff.1 pos))
    simp only [PortState.load, PortState.purged, any, Bool.false_eq_true, if_false]
    omega

/-- A purge keeps the pool's account: the idle entries free their buffers, and one in transmission leaves its
buffer with its attempt (R75, R83). -/
theorem State.purge_buffers (s : State) (p : Port) (keep : QueueItem → Bool)
    (h : s.ports[p].transmissionCoherent) : (s.purge p keep).buffers = s.buffers := by
  let f : PortState → PortState := fun ps =>
    { ps with
      queue := ps.queue.filter keep
      flight := if (s.ports[p].queue.filter fun i => !keep i).any QueueItem.sending then ps.flight.map Flight.orphan
        else ps.flight }
  have sum : (s.modPort p f).portSum PortState.load + s.ports[p].load =
      s.portSum PortState.load + (s.ports[p].purged keep).load := s.modPort_portSum p f PortState.load
  have load := PortState.purged_load h keep
  have new : (s.purge p keep).buffers =
      s.freeBuffers + ((s.ports[p].queue.filter fun i => !keep i).countP fun i => i.isFrame && !i.sending) +
        (s.modPort p f).portSum PortState.load := rfl
  rw [new, State.buffers]
  omega

end Sys2Proof.Machine
end

