-- ==== Sys2Proof/Tests/Slice0.lean ====
section
/-! SUPPORT. Tests: the well-formedness check refuses ill-formed frames; commands give what the manual's worked
examples and tables say (each test names its source); and for each obligation with hypotheses a state and operands
that meet them, clause by clause. -/

-- One test at a time: the tests together would start more threads than the check's memory limit holds.
set_option Elab.async false

namespace Sys2Proof.Tests

open Sys2Proof Sys2Proof.Machine

/-! ## Helpers -/

/-- A state in a mode with every branch in one state and every domain Off and branchless. -/
def base (m : PartMode) (k : BranchMode) : State :=
  { State.reset with
    mode := m
    domains := Vector.replicate 16 Domain.cold
    branches := Vector.replicate 6 { BranchState.cold with mode := k }
    account := { Account.reset with remaining := 20000000, level := .green, effective := .green } }

/-- A domain in a state, on a branch or none. -/
def dom (b : Option Branch) (k : DomainState) : Domain := { Domain.cold with branch := b, state := k, seen := true }

/-- A state with the request at the head of its queue. -/
def asked (s : State) (req : List Byte) : State := { s with requests := [req] }

/-- A frame of two bytes. -/
def f0 : Frame := { kind := .base, id := 0x100, format := .classic, payload := [1, 2] }

/-- A frame of a class and a hold flag, queued. -/
def entry (k : WakeClass) (hold : Bool) : Entry :=
  { frame := f0, cls := k, hold := hold, attempts := 0, sending := false, deadline := 600 }

/-- The attempt in flight of a queued frame. -/
def flying : Flight := { source := .entry, frame := f0 }

/-- A match of a class that asks for nothing. -/
def m0 (k : WakeClass) : Match :=
  { rule := 5, cls := k, wake := 0, activity := 0, forward := 0, hold := false, confirm := false, linger := 0,
    battery := none }

/-- A state with a classification in flight. -/
def judged (s : State) (p : Port) (v : Verdict) : State :=
  { s with classification := some { frame := f0, port := p, verdict := v } }

/-- The command completes and its next state passes a check. -/
def gives (c : Instr) (s : State) (k : State → Bool) : Bool :=
  match exec c s with
  | .next t => k t
  | _ => false

/-- The bytes of the response, if the slot holds one. -/
def answer (t : State) : List Byte := (t.response.map (·.bytes)).getD []

/-! ## Well-formedness (R16) -/

theorem test_wf_refuses_wide_base_id : ({ f0 with id := 0x800 } : Frame).wf = false := by decide
theorem test_wf_refuses_long_classic : ({ f0 with payload := List.replicate 9 0 } : Frame).wf = false := by decide
theorem test_wf_refuses_odd_fd_length :
    ({ f0 with format := .fd, payload := List.replicate 9 0 } : Frame).wf = false := by decide
theorem test_wf_refuses_too_long_fd :
    ({ f0 with format := .fd, payload := List.replicate 65 0 } : Frame).wf = false := by decide
theorem test_wf_accepts_widest_frames :
    ({ f0 with id := 0x7FF } : Frame).wf = true
      ∧ ({ kind := .extended, id := 0x1FFFFFFF, format := .fd, payload := List.replicate 64 0 } : Frame).wf = true := by
  decide
theorem test_wf_refuses_command : (Instr.frameReception 1 { f0 with id := 0x800 }).wf = false := by decide

/-! ## Commands -/

/-- Section 1.8, at 0 s: D15 and D14 are granted first, the others wait Queued with class B. -/
theorem test_full_reset_grants_D15_D14 :
    gives (.fullReset 2) State.reset (fun t =>
      t.strap == 2 && t.deadline == 120 && t.lastGranted == 14 && t.domains[15].state == .powerUp
        && t.domains[14].state == .powerUp && t.domains[13].state == .queued && t.domains[13].pendingClass == .b
        && t.domains[0].pending == 600 && t.branches[0].mode == .awake) = true := by decide +kernel

/-- Section 1.6: a reset input ends a quarantine and keeps the rule record, the park clock and the consumed charge. -/
theorem test_reset_input_keeps_tables :
    gives (.resetInput 1)
      ({ State.reset with mode := .parked, parkClock := 77 }.putTableRule 9
        { record := { RuleRecord.reset with valid := true }, suspect := none, quarantine := some 3600 })
      (fun t => t.mode == .unconfigured && t.parkClock == 77 && t.rules[9].record.valid
        && t.rules[9].quarantine == none && t.strap == 1) = true := by decide +kernel

/-- R13: the reset of a Warm Reset request waits for its response to leave the slot. -/
theorem test_warm_reset_waits_for_response :
    gives (.warmResetTakesPlace 3)
      { State.reset with mode := .drive, warmResetPending := true, response := some { bytes := [5, 1, 0], attempts := 1 } }
      (fun t => t.mode == .drive && t.strap == 0) = true := by decide +kernel

/-- R22: a third landed frame is dropped with LANDING_OVERRUN (flag bit 6). -/
theorem test_frame_reception_overruns :
    gives (.frameReception 3 f0)
      ((base .drive .awake).putPort 3 { PortState.reset 3 with landing := [f0, f0] })
      (fun t => t.ports[3].landing.length == 2 && t.ports[3].overrun && t.flags == 0x040) = true := by decide +kernel

/-- Section 7.6, 18.9 s: the fourth chattered frame of a limit of 4 isolates BP5 with cause CHATTER for 300 s. -/
theorem test_frame_reception_babble_isolates :
    gives (.frameReception 5 { f0 with format := .fd, payload := List.replicate 16 0 })
      (((base .parked .listen).putPort 5
          { PortState.reset 5 with params := { PortParams.reset 5 with maxPayload := 8 } }).putBranch 4
        { BranchState.cold with
          mode := .listen, chatterCount := 3, params := { BranchParams.reset with chatterLimit := 4 } })
      (fun t => t.branches[4].mode == .isolated && t.branches[4].cause == .chatter
        && t.branches[4].isolationTimer == some 300 && t.branches[4].chatterCount == 4) = true := by decide +kernel

/-- R16: a remote frame has no effect. -/
theorem test_remote_frame : gives (.remoteFrame 2) State.reset (fun t => t.ports[2].landing == []) = true := by
  decide +kernel

/-- Section 2.4.1, classifications 1 and 2: B5 is taken first, then the search wraps to TA. -/
theorem test_classifier_service_order :
    let s := (((base .drive .awake).putPort 0 { PortState.reset 0 with landing := [f0] }).putPort 2
      { PortState.reset 2 with landing := [f0, f0] }).putPort 5 { PortState.reset 5 with landing := [f0] }
    gives .classifierTakesFrame { s with pointer := 2 } (fun t =>
      t.pointer == 5 && t.ports[5].landing == []
        && gives .classifierTakesFrame { t with classification := none } fun u =>
          u.pointer == 0 && u.ports[2].landing.length == 2) = true := by decide +kernel

/-- The rule table of section 3.3.1. -/
def table : State :=
  (((base .drive .awake).putTableRule 2
      { Rule.reset with
        record :=
          { RuleRecord.reset with
            valid := true, enabled := true, ingress := 0x40, kind := .base, idValue := 0x3A4, idMask := 0x7FF
            minLength := 4
            word := some { offset := 2, lowFirst := true, mask := 0xFFFF, op := .eq, operand := 0, compare := false }
            cls := .a, forward := 1, battery := true } }).putTableRule 5
      { Rule.reset with
        record :=
          { RuleRecord.reset with
            valid := true, enabled := true, ingress := 4, kind := .extended, format := .fd, idValue := 0x18DA4410
            idMask := 0x1FFFFFF0, minLength := 8
            lanes := [{ offset := 0, mask := 0xF0, op := .eq, operand := 0x20 }]
            cls := .a, wake := 0x18, forward := 3, hold := true, confirm := true } }).putTableRule 40
      { Rule.reset with
        record :=
          { RuleRecord.reset with
            valid := true, enabled := true, ingress := 1, idValue := 0x400, idMask := 0x700
            lanes := [{ offset := 1, mask := 0xFF, op := .ge, operand := 0x10 }]
            cls := .c, wake := 0x200, forward := 0x10 } }

/-- The rule and the battery figure of a matched verdict. -/
def matchOf : Verdict → Option (RuleIx × Option (BitVec 16))
  | .matched m => some (m.rule, m.battery)
  | _ => none

/-- Section 3.3.1: what the walk makes of the frames F1 to F6. -/
theorem test_classifier_rule_table :
    let long := [0x27, 0, 0, 0, 0, 0, 0, (0 : Byte)]
    matchOf (table.classify 6 { f0 with id := 0x3A4, payload := [0, 0, 0x2C, 0x31] }) = some (2, some 12588)
      ∧ table.classify 6 { f0 with id := 0x3A4, payload := [0, 0, 0x2C] } = .pass 1
      ∧ matchOf (table.classify 2
          { kind := .extended, id := 0x18DA4413, format := .fd, payload := long ++ [0, 0, 0, 0] }) = some (5, none)
      ∧ table.classify 2 { kind := .extended, id := 0x18DA4413, format := .classic, payload := long } = .pass 1
      ∧ table.classify 0 { f0 with id := 0x4A2, format := .fd, payload := [0x55] } = .pass 0x7E
      ∧ matchOf (table.classify 0 { f0 with kind := .extended, id := 0x4A2, payload := [0, 0x30] })
          = some (40, none) := by decide +kernel

/-- Section 4.9, frame 2: a battery frame from BP6 at Amber, its figure below Vcrit, raises the level to Red with
BATTERY_LOW and LEVEL_CHANGED, and is counted as chatter. -/
theorem test_dispatch_battery_frame :
    let s := { base .parked .listen with
      budget := { Budget.reset with allowance := 30, t1 := 40, t2 := 20, vcrit := 11500 }
      account := { Account.reset with remaining := 30, level := .amber, effective := .amber } }
    gives .classificationDispatch (judged s 6 (.matched { m0 .a with forward := 1, battery := some 11200 })) (fun t =>
      t.account.effective == .red && t.account.vb == 11200 && t.flags == 0x018
        && t.branches[5].chatterCount == 1 && t.ports[0].queue == []) = true := by decide +kernel

/-- Section 5.1.1, step 3: a class A copy at the cap evicts N2, as N1 is in transmission. -/
theorem test_dispatch_eviction :
    let n1 := QueueItem.frame { entry .c true with sending := true, attempts := 1 }
    let n2 := QueueItem.frame (entry .c true)
    let s := { (base .parked .awake).putPort 3
      { PortState.reset 3 with
        params := { PortParams.reset 3 with holdCap := 3 }, queue := [n1, n2, .frame (entry .b true)]
        flight := some flying } with freeBuffers := 5 }
    gives .classificationDispatch (judged s 1 (.matched { m0 .a with forward := 8 })) (fun t =>
      t.ports[3].queue == [n1, .frame (entry .b true), .frame (entry .a false)] && t.freeBuffers == 5
        && t.flags == 0x020) = true := by decide +kernel

/-- Section 2.8.1: in Quiet the response is sent and nothing else; R182: a report takes the lost mark with it. -/
theorem test_attempt_response_in_quiet :
    gives (.transmissionAttempt 0) { State.reset with response := some { bytes := [1, 2, 0], attempts := 0 } }
      (fun t => t.ports[0].flight == some
        { source := .response, frame := { kind := .base, id := 0x6C1, format := .classic, payload := [1, 2, 0] } })
        = true := by decide +kernel

/-- R182 and R186: the head report takes the reports-lost mark with it. -/
theorem test_attempt_report_takes_lost_mark :
    gives (.transmissionAttempt 0)
      { State.reset with
        trunk := .active, reportsLost := true
        reports := [{ kind := .portIsolated, subject := some 4, detail1 := 2, detail2 := 300, stamp := 0x01020304,
                      urgent := true, lost := false, attempts := 0 }] }
      (fun t => t.reportsLost == false && t.ports[0].flight.any fun f =>
        f.frame.payload == [3, 3, 1, 2, 3, 4, 4, 0, 2, 1, 0x2C, 0]) = true := by decide +kernel

/-- Section 5.7, 530 ms: the third Failed attempt under the closing mark discards E1, and the closing keeps the held
entries E2 and C4 in order. -/
theorem test_attempt_end_closes_drain :
    let e1 := QueueItem.frame { entry .b false with attempts := 3, sending := true }
    let e2 := QueueItem.frame (entry .a true)
    let e3 := QueueItem.frame (entry .c false)
    let c4 := QueueItem.frame { entry .a true with deadline := 599 }
    let c5 := QueueItem.frame (entry .b false)
    let s := { (((base .parked .listen).putPort 1
        { PortState.reset 1 with queue := [e1, e2, e3, .marker, c4, c5], flight := some flying }).putBranch 0
        { BranchState.cold with mode := .draining, closing := true }).putDomain 3 (dom (some 0) .releasing) with
      freeBuffers := 91 }
    gives (.attemptEnd 1 .failed) s (fun t =>
      t.branches[0].mode == .listen && t.branches[0].closing == false && t.ports[1].queue == [e2, c4]
        && t.ports[1].discards == 1 && t.freeBuffers == 94 && t.domains[3].state == .off) = true := by decide +kernel

/-- Section 2.8.1, 97 s: a Delivered end reloads the silence timer and frees the entry's buffer. -/
theorem test_attempt_end_delivered :
    gives (.attemptEnd 0 .delivered)
      { State.reset.putPort 0
          { PortState.reset 0 with
            queue := [.frame { entry .a true with attempts := 1, sending := true }], flight := some flying
            discards := 2 } with
        trunk := .active, silence := some 3, freeBuffers := 95 }
      (fun t => t.silence == some 20 && t.freeBuffers == 96 && t.ports[0].discards == 0 && t.ports[0].queue == [])
      = true := by decide +kernel

/-- Section 2.8.1, 2.0 s. -/
theorem test_silence_expiry :
    gives .silenceTimerExpiry { State.reset with trunk := .active, silence := some 0 }
      (fun t => t.trunk == .quiet && t.silence == none) = true := by decide +kernel

/-- Section 1.8, its last paragraph: at 120 s all domains go Off, all branches to Listen, FALLBACK_ENTERED. -/
theorem test_deadline_enters_fallback :
    gives .configurationDeadlineExpiry { State.reset with deadline := 0 } (fun t =>
      t.mode == .fallback && allDomains.all (fun d => t.domains[d].state == .off)
        && allBranches.all (fun b => t.branches[b].mode == .listen) && t.flags == 0x200) = true := by decide +kernel

/-- The state of section 6.4's example at 10 ms: D1 and D12 in PowerUp, D3 and D4 Queued with class A. -/
def grants : State :=
  { ((((base .parked .waking).putDomain 1 (dom none .powerUp)).putDomain 12 (dom none .powerUp)).putDomain 3
      { dom (some 0) .queued with pendingClass := .a }).putDomain 4 { dom (some 0) .queued with pendingClass := .a } with
    lastGranted := 12 }

/-- Section 6.4's example at 10 ms: D1 settles, and class A alone, from D11 down, gives D4. -/
theorem test_settle_grants_class_a_first :
    gives (.settleExpiry 1) grants (fun t =>
      t.domains[1].state == .on && t.domains[4].state == .powerUp && t.domains[3].state == .queued
        && t.lastGranted == 4) = true := by decide +kernel

/-- Section 6.4's example at 25 ms: D4 settles, and without class A the search from D2 wraps to D9. -/
theorem test_settle_search_wraps :
    let s := { (((base .parked .waking).putDomain 4 (dom (some 0) .powerUp)).putDomain 3
        (dom (some 0) .powerUp)).putDomain 9 { dom (some 3) .queued with pendingClass := .b } with lastGranted := 3 }
    gives (.settleExpiry 4) s (fun t => t.domains[9].state == .powerUp && t.lastGranted == 9) = true := by
  decide +kernel

/-- Section 6.10: an asserted input puts a powered domain in Fault with DOMAIN_FAULT. -/
theorem test_fault_input :
    gives (.faultInputAsserts 6 true) ((base .drive .awake).putDomain 6 (dom (some 2) .on)) (fun t =>
      t.domains[6].state == .fault && t.flags == 0x001 && t.faultInputs == 0x0040) = true := by decide +kernel

/-- Section 6.8 (R112): with the enable off only the pin changes. -/
theorem test_fault_input_while_off :
    gives (.faultInputAsserts 6 true) (base .drive .awake) (fun t =>
      t.domains[6].state == .off && t.flags == 0 && t.faultInputs == 0x0040) = true := by decide +kernel

/-- The two domains of section 9.8, both On and awaiting with waker 5. -/
def night (r : Rule) : State :=
  (((base .parked .awake).putDomain 3 { dom (some 0) .on with waker := some 5, awaiting := true }).putDomain 4
    { dom (some 0) .on with waker := some 5, awaiting := true }).putTableRule 5 r

/-- Section 9.8, first night: D4 expires still awaiting while D3 is On; D4 goes Off and record 5 is suspect. -/
theorem test_linger_first_charge :
    gives (.lingerExpiry 4) (night Rule.reset) (fun t =>
      t.domains[4].state == .off && t.domains[4].waker == none && t.domains[3].state == .on
        && t.rules[5].suspect == some 600) = true := by decide +kernel

/-- Section 9.8, second wake: a charge while suspect quarantines record 5 for 3600 s with RULE_QUARANTINED. -/
theorem test_linger_second_charge :
    gives (.lingerExpiry 4) (night { Rule.reset with suspect := some 260 }) (fun t =>
      t.rules[5].suspect == none && t.rules[5].quarantine == some 3600 && t.flags == 0x002) = true := by
  decide +kernel

/-- Section 5.7, 500 ms: with an attempt in flight the closing mark is set and the queue stays. -/
theorem test_drain_limit_sets_closing_mark :
    gives (.drainLimitExpiry 0)
      (((base .parked .listen).putPort 1
          { PortState.reset 1 with queue := [.frame { entry .b false with sending := true, attempts := 3 }, .marker]
                                   flight := some flying }).putBranch 0
        { BranchState.cold with mode := .draining, drainTimer := some 0 })
      (fun t => t.branches[0].mode == .draining && t.branches[0].closing && t.ports[1].queue.length == 2) = true := by
  decide +kernel

/-- Section 2.8.1, its last paragraph: an entry whose deadline expires leaves the queue. -/
theorem test_deadline_expiry :
    gives (.deadlineExpiry 0 0)
      { State.reset.putPort 0 { PortState.reset 0 with queue := [.frame { entry .b true with deadline := 0 }] } with
        freeBuffers := 95 }
      (fun t => t.ports[0].queue == [] && t.freeBuffers == 96 && t.wakeLine == false) = true := by decide +kernel

/-- The account of section 8.7 with a consumed charge, a carry and a draw average, its timer at 0. -/
def charged (consumed carry davg : Nat) (k : DomainState) (marks : Bool) : State :=
  let s := (((base .parked .listen).putDomain 3 { dom (some 0) k with ia := 310, seen := marks }).putDomain 4
    { dom (some 0) k with ia := 290, seen := marks }).putBranch 0
      { BranchState.cold with mode := .listen, seen := marks, params := { BranchParams.reset with current := 35 } }
  { s with
    budget := { allowance := 36000000, t1 := 12000000, t2 := 4000000, ibase := 22, shift := 4, hmin := 48,
                vcrit := 11500, lcap := 300 }
    account := { Account.reset with
      consumed := consumed, carry := carry, davg := davg, vb := 12400, level := .green, effective := .green,
      timer := 0 } }

/-- Section 8.7, interval 1. -/
theorem test_accounting_interval_1 :
    gives .accountingExpiry (charged 1000000 3 352 .off true) (fun t =>
      t.account.consumed == 1000165 && t.account.carry == 0 && t.account.remaining == 34999835
        && t.account.davg == 987 && t.domains[3].seen == false && t.branches[0].seen == false
        && t.account.effective == .green) = true := by decide +kernel

/-- Section 8.7, interval 2: the division rounds toward minus infinity. -/
theorem test_accounting_interval_2 :
    gives .accountingExpiry (charged 1000165 0 987 .off false) (fun t =>
      t.account.consumed == 1000170 && t.account.carry == 2 && t.account.davg == 947) = true := by decide +kernel

/-- Section 7.6, 10 s: the count is cleared and the window is 10 s again. -/
theorem test_chatter_window_expiry :
    gives (.chatterWindowExpiry 4)
      ((base .parked .listen).putBranch 4 { BranchState.cold with mode := .listen, chatterCount := 2, windowTimer := some 0 })
      (fun t => t.branches[4].chatterCount == 0 && t.branches[4].windowTimer == some 10) = true := by decide +kernel

/-- Section 7.6 and R130: at the end of its isolation in Parked BP5 goes to Listen with its count cleared. -/
theorem test_isolation_expiry :
    gives (.isolationTimerExpiry 4)
      ((base .parked .listen).putBranch 4
        { BranchState.cold with mode := .isolated, chatterCount := 4, isolationTimer := some 0, cause := .chatter })
      (fun t => t.branches[4].mode == .listen && t.branches[4].chatterCount == 0 && t.branches[4].cause == .none)
      = true := by decide +kernel

/-- R158. -/
theorem test_suspect_expiry :
    gives (.suspectTimerExpiry 5) (night { Rule.reset with suspect := some 0 })
      (fun t => t.rules[5].suspect == none) = true := by decide +kernel

/-- R158. -/
theorem test_quarantine_expiry :
    gives (.quarantineTimerExpiry 5) (night { Rule.reset with quarantine := some 0 })
      (fun t => t.rules[5].quarantine == none) = true := by decide +kernel

/-- R160: a charge of the quarantined rule, taken first, reloads the timer, which then does not expire. -/
theorem test_charge_before_quarantine_expiry :
    gives (.lingerExpiry 4) (night { Rule.reset with quarantine := some 0 }) (fun t =>
      t.rules[5].quarantine == some 3600
        && gives (.quarantineTimerExpiry 5) t fun u => u.rules[5].quarantine == some 3600) = true := by decide +kernel

/-- The entries S0 and S1 of section 10.7, and D6 on BP3, at a level. -/
def timed (l : Level) : State :=
  let s := { (base .parked .listen).putDomain 6 { Domain.cold with branch := some 2, defaultLinger := 400 } with
    schedule := ((Vector.replicate 8 ScheduleEntry.reset).set 0
      { ScheduleEntry.reset with enabled := true, period := 14400, wake := 0x40, cls := .b }).set 1
      { ScheduleEntry.reset with enabled := true, mode := .oneShot, wake := 0x1000, cls := .c, linger := 150 } }
  { s with account := { s.account with level := l, effective := l } }

/-- The state of `timed` with an entry's countdown at 0. -/
def rung (l : Level) (i : EntryIx) : State := (timed l).modEntry i fun e => { e with countdown := 0 }

/-- Section 10.7, 1800 s: S0 is Honoured; D6 is requested with pending 400 and class B, and BP3 goes Waking. -/
theorem test_schedule_honoured :
    gives (.scheduleExpiry 0) (rung .green 0) (fun t =>
      t.domains[6].state == .powerUp && t.domains[6].pending == 400 && t.domains[6].pendingClass == .b
        && t.branches[2].mode == .waking && t.schedule[0].countdown == 14400) = true := by decide +kernel

/-- Section 10.7, 21600 s: S1 is Deliver-only at Amber: SCHEDULE_SKIPPED, and the entry is spent. -/
theorem test_schedule_skipped :
    gives (.scheduleExpiry 1) (rung .amber 1) (fun t =>
      t.domains[12].state == .off && t.flags == 0x080 && t.schedule[1].enabled == false
        && t.schedule[1].countdown == 0
        && t.reports.head?.any fun r => r.subject == some 1 && r.detail1 == 1 && r.detail2 == 1) = true := by
  decide +kernel

/-! ## Requests -/

/-- R172: an empty request is discarded without response. -/
theorem test_empty_request :
    gives .emptyRequest (asked State.reset []) (fun t => t.requests == [] && t.response == none) = true := by
  decide +kernel

/-- R173: UNKNOWN is result 1, and without a tag the tag byte is 0. -/
theorem test_unknown_command :
    gives .unknownCommand (asked State.reset [0x77]) (fun t => answer t == [0x77, 0, 1]) = true := by decide +kernel

/-- R176 and R185. -/
theorem test_read_identity :
    gives .readIdentity (asked { State.reset with strap := 3 } [1, 9]) (fun t =>
      answer t == [1, 9, 0, 0xDB, 7, 0x16, 1, 3, 128, 16, 7, 8]) = true := by decide +kernel

/-- R177: page 0 shows the mode first and the overrun flag is cleared; a page above 3 is refused with BAD_VALUE. -/
theorem test_read_status :
    gives .readStatus (asked { State.reset with requestOverrun := true } [2, 9, 0]) (fun t =>
        (answer t).take 7 == [2, 9, 0, 0, 0, 0, 2] && t.requestOverrun == false)
      && gives .readStatus (asked { State.reset with requestOverrun := true } [2, 9, 4]) (fun t =>
        answer t == [2, 9, 3] && t.requestOverrun) = true := by decide +kernel

/-- R179: the flags as they stood, then those of the set cleared. -/
theorem test_clear_conditions :
    gives .clearConditions (asked { State.reset with flags := 0x305 } [3, 9, 0x01, 0x04]) (fun t =>
      answer t == [3, 9, 0, 3, 5] && t.flags == 0x201) = true := by decide +kernel

/-- R178 and R183: bits 10 to 15 name no kind. -/
theorem test_set_report_masks :
    gives .setReportMasks (asked State.reset [4, 9, 0xFF, 0x01, 0, 0x04]) (fun t =>
      t.reportMask == 0x301 && t.urgentMask == 0x004 && answer t == [4, 9, 0]) = true := by decide +kernel

/-- R13: answered DONE, and the reset waits. -/
theorem test_warm_reset_request :
    gives .warmReset (asked State.reset [5, 9]) (fun t => t.warmResetPending && answer t == [5, 9, 0]) = true := by
  decide +kernel

/-- Section 3.4.2, step 2: a rewrite of record 5 clears its suspicion, the wakers that name it, and the confirm of
the match in flight. -/
theorem test_write_rule :
    let image := [0x13, 4, 0x05, 0x18, 0xDA, 0x44, 0x10, 0x1F, 0xFF, 0xFF, 0xF0, 8, 1, 0, 0xF0, 0, (0x20 : Byte)]
      ++ List.replicate 19 0 ++ [0, 8, 0, 0, 3, 0, 0]
    gives .writeRule
      (asked (judged (night { Rule.reset with suspect := some 420 }) 2 (.matched { m0 .a with confirm := true }))
        ([0x10, 9, 5] ++ image))
      (fun t => t.rules[5].suspect == none && t.rules[5].record.wake == 8 && t.rules[5].record.idValue == 0x18DA4410
        && t.rules[5].record.lanes == [{ offset := 0, mask := 0xF0, op := .eq, operand := 0x20 }]
        && t.domains[3].waker == none && t.domains[4].awaiting == false && answer t == [0x10, 9, 0]
        && t.classification.any fun c => c.verdict == .matched (m0 .a)) = true := by decide +kernel

/-- A rule record image of zeros with some bytes set. -/
def imageWith (l : List (Nat × Byte)) : List Byte :=
  l.foldl (fun image x => image.set x.1 x.2) (List.replicate 43 0)

/-- The images that R48 and R173 refuse, one for each reason: bit 7 of a port set, code 3 of identifier kind, format and
class, identifier value and mask of 2^29, minimum length 65, five lane tests, the offset and the operator of a lane test
within the count, the operator and the offset of a word test, and battery without a word test. -/
def badImages : List (List Byte) :=
  [[(1, 128)], [(40, 128)], [(2, 3)], [(2, 12)], [(2, 48)], [(3, 32)], [(7, 32)], [(11, 65)], [(12, 5)],
   [(12, 1), (13, 64)], [(12, 4), (27, 4)], [(29, 1), (30, 4)], [(29, 1), (31, 63)], [(0, 8)]].map imageWith

/-- R48: each of them is BAD_VALUE, and nothing changes. -/
theorem test_write_rule_refused :
    (badImages.all fun image => gives .writeRule
      (asked (night { Rule.reset with suspect := some 420 }) ([0x10, 9, 5] ++ image))
      (fun t => answer t == [0x10, 9, 3] && t.rules[5].suspect == some 420)) = true := by decide +kernel

/-- R52 and R184: the image of record 2 of section 3.3.1 begins with its flags, ingress set and codes. -/
theorem test_read_rule :
    gives .readRule (asked table [0x11, 9, 2]) (fun t =>
      (answer t).take 16 == [0x11, 9, 0, 2, 0x0B, 0x40, 0x08, 0, 0, 3, 0xA4, 0, 0, 7, 0xFF, 4]
        && (answer t).length == 51) = true := by decide +kernel

/-- R50: no clears the wakers that name the rule. -/
theorem test_set_rule_enable :
    gives .setRuleEnable (asked (night { Rule.reset with suspect := some 420 }) [0x12, 9, 5, 0]) (fun t =>
      t.domains[3].waker == none && t.rules[5].suspect == some 420 && answer t == [0x12, 9, 0]) = true := by
  decide +kernel

/-- R159. -/
theorem test_release_quarantine :
    gives .releaseQuarantine (asked (night { Rule.reset with quarantine := some 9 }) [0x13, 9, 5]) (fun t =>
      t.rules[5].quarantine == none && answer t == [0x13, 9, 0]) = true := by decide +kernel

/-- R154: a window of 0 is BAD_VALUE. -/
theorem test_write_monitor :
    gives .writeMonitor (asked State.reset [0x14, 9, 1, 2, 3, 4]) (fun t =>
        t.suspectWindow == 258 && t.quarantineTime == 772)
      && gives .writeMonitor (asked State.reset [0x14, 9, 0, 0, 3, 4]) (fun t =>
        t.quarantineTime == 3600 && answer t == [0x14, 9, 3]) = true := by decide +kernel

/-- R98: four parameters in one step; a change of branch in Queued is WRONG_STATE. -/
theorem test_write_domain :
    gives .writeDomain (asked (base .drive .awake) [0x20, 9, 3, 1, 1, 0x36, 15, 3, 0x84]) (fun t =>
        t.domains[3].branch == some 0 && t.domains[3].ia == 310 && t.domains[3].settleTime == 15
          && t.domains[3].defaultLinger == 900)
      && gives .writeDomain (asked State.reset [0x20, 9, 3, 1, 1, 0x36, 15, 3, 0x84]) (fun t =>
        answer t == [0x20, 9, 5] && t.domains[3].ia == 0) = true := by decide +kernel

/-- R119 and R185: index, parameters, state, lingers, class, settle timer, flags, waker, K and pointer. -/
theorem test_read_domain :
    gives .readDomain (asked (night Rule.reset) [0x21, 9, 3]) (fun t =>
      answer t == [0x21, 9, 0, 3, 1, 0, 0, 10, 2, 0x58, 3, 0, 0, 0, 0, 2, 0, 5, 5, 2, 14]) = true := by decide +kernel

/-- R114: On of an Off domain asks with class A, and the arbiter grants it. -/
theorem test_force_domain_on :
    gives .forceDomainOn (asked (base .drive .awake) [0x22, 9, 7, 0]) (fun t =>
      t.domains[7].state == .powerUp && t.domains[7].pendingClass == .a && t.domains[7].pending == 600) = true := by
  decide +kernel

/-- R115: Off switches a powered domain off at once. -/
theorem test_force_domain_off :
    gives .forceDomainOff (asked ((base .drive .awake).putDomain 7 (dom none .on)) [0x22, 9, 7, 1]) (fun t =>
      t.domains[7].state == .off && answer t == [0x22, 9, 0]) = true := by decide +kernel

/-- R116: an asserted input refuses Clear Fault with WRONG_STATE. -/
theorem test_clear_fault :
    let s := (base .drive .awake).putDomain 7 (dom none .fault)
    gives .clearFault (asked { s with faultInputs := 0x80 } [0x22, 9, 7, 2]) (fun t =>
        answer t == [0x22, 9, 5] && t.domains[7].state == .fault)
      && gives .clearFault (asked s [0x22, 9, 7, 2]) (fun t => t.domains[7].state == .off) = true := by decide +kernel

/-- R106: refused with WRONG_STATE while a domain is in PowerUp. -/
theorem test_set_inrush_limit :
    gives .setInrushLimit (asked (base .drive .awake) [0x23, 9, 4]) (fun t => t.inrushLimit == 4)
      && gives .setInrushLimit (asked State.reset [0x23, 9, 4]) (fun t =>
        t.inrushLimit == 2 && answer t == [0x23, 9, 5]) = true := by decide +kernel

/-- R18: a port that names itself in its forward set is BAD_VALUE. -/
theorem test_write_port :
    let args := [1, 8, 35, 20, 0, 60, 0, 1, 4, 10, 1, 0x2C, 50, (0 : Byte)]
    gives .writePort (asked State.reset ([0x30, 9, 1] ++ args)) (fun t =>
        t.ports[1].params.maxPayload == 8 && t.ports[1].params.noMatch == .drop && t.branches[0].params.current == 35
          && t.branches[0].params.isolationTime == 300 && answer t == [0x30, 9, 0])
      && gives .writePort (asked State.reset ([0x30, 9, 1] ++ args.set 7 3)) (fun t =>
        t.ports[1].params.maxPayload == 64 && answer t == [0x30, 9, 3]) = true := by decide +kernel

/-- R18 and R185: TP's record at its full-reset values. -/
theorem test_read_port :
    gives .readPort (asked State.reset [0x31, 9, 0]) (fun t =>
      answer t == [0x31, 9, 0, 0, 0, 64, 0, 16, 2, 0x58, 1, 0x7E, 0, 0, 0, 0, 0, 20]) = true := by decide +kernel

/-- R131: a port that is not Isolated is WRONG_STATE. -/
theorem test_release_port :
    gives .releasePort (asked State.reset [0x32, 9, 1]) (fun t => answer t == [0x32, 9, 5])
      && gives .releasePort
        (asked ((base .drive .awake).putBranch 0 { BranchState.cold with mode := .isolated, cause := .noAck }) [0x32, 9, 1])
        (fun t => t.branches[0].mode == .awake && t.branches[0].cause == .none) = true := by decide +kernel

/-- Section 8.8, step 4: a new allowance lifts the charge level to Amber while the override holds Red. -/
theorem test_write_budget :
    let s := { base .parked .listen with
      account := { Account.reset with
        consumed := 8000200, remaining := 1999800, vb := 11300, override := true, level := .red, effective := .red } }
    gives .writeBudget
      (asked s [0x40, 9, 0, 0xB7, 0x1B, 0, 0, 0x3D, 9, 0, 0, 0x1E, 0x84, 0x80, 0, 22, 4, 48, 0x2C, 0xEC, 1, 0x2C])
      (fun t => t.account.remaining == 3999800 && t.account.level == .amber && t.account.effective == .red
        && t.flags == 0 && t.budget.lcap == 300) = true := by decide +kernel

/-- R164: the countdown is loaded with the first delay; a delay of 86401 is BAD_VALUE. -/
theorem test_write_schedule :
    gives .writeSchedule (asked State.reset [0x50, 9, 1, 1, 1, 0, 0, 0x54, 0x60, 0, 0, 0x0E, 0x10, 0x10, 0, 2, 0, 150])
        (fun t => t.schedule[1].countdown == 21600 && t.schedule[1].mode == .oneShot && t.schedule[1].wake == 0x1000)
      && gives .writeSchedule
        (asked State.reset [0x50, 9, 1, 1, 1, 0, 1, 0x51, 0x81, 0, 0, 0x0E, 0x10, 0x10, 0, 2, 0, 150])
        (fun t => t.schedule[1].enabled == false && answer t == [0x50, 9, 3]) = true := by decide +kernel

/-- R165 and R185: S1 of section 10.7. -/
theorem test_read_schedule :
    gives .readSchedule (asked (timed .green) [0x51, 9, 1]) (fun t =>
      answer t == [0x51, 9, 0, 1, 1, 1, 0, 0, 0x0E, 0x10, 0, 0, 0x0E, 0x10, 0x10, 0, 2, 0, 150, 0, 0, 0x0E, 0x10])
      = true := by decide +kernel

/-- Section 1.8, 31 s: lingers loaded, branches with On domains Awake and the others to rest, account restarted. -/
theorem test_park :
    let s := { ((base .unconfigured .awake).putDomain 3 { dom (some 0) .on with defaultLinger := 900 }) with
      budget := { Budget.reset with allowance := 36000000, t1 := 12000000, t2 := 4000000, ibase := 22 } }
    gives .park (asked s [0x60, 9]) (fun t =>
      t.mode == .parked && t.domains[3].remaining == 900 && t.branches[0].mode == .awake
        && t.branches[1].mode == .listen && t.parkClock == 0 && t.account.consumed == 0 && t.account.davg == 352)
      = true := by decide +kernel

/-- R9 and R104: Depart wakes what sleeps, D13 first from pointer 14; in Drive it is WRONG_MODE. -/
theorem test_depart :
    gives .depart (asked (base .parked .listen) [0x61, 9]) (fun t =>
        t.mode == .drive && t.domains[13].state == .powerUp && t.domains[0].state == .queued
          && t.branches[3].mode == .awake)
      && gives .depart (asked (base .drive .awake) [0x61, 9]) (fun t => answer t == [0x61, 9, 4]) = true := by
  decide +kernel

/-- R15, R158 and R166: a one-second step counts the park clock, the suspect timers and in Parked the countdowns. -/
theorem test_park_clock :
    gives .parkClockAdvance { timed .green with parkClock := 4294967295 } (fun t =>
        t.parkClock == 4294967295 && t.schedule[0].countdown == 3599 && t.schedule[2].countdown == 3600)
      && gives .parkClockAdvance (night { Rule.reset with suspect := some 420 }) (fun t =>
        t.parkClock == 1 && t.rules[5].suspect == some 419) = true := by decide +kernel

/-! ## Witnesses

For each obligation with hypotheses, states and operands that meet them together, one for each clause, at a boundary
value where a clause has a range. -/

/-- A lawful state of a parked night: BP1 Awake with an attempt in flight, D3 On and awaiting with its linger run
out, D4 in PowerUp, and a command waiting. -/
def lively : State :=
  { ((((base .parked .listen).putPort 1
        { PortState.reset 1 with
          queue := [.frame { entry .b false with attempts := 1, sending := true }], flight := some flying }).putBranch 0
      { BranchState.cold with mode := .awake, seen := true }).putDomain 3
        { dom (some 0) .on with waker := some 5, awaiting := true }).putDomain 4
        { dom (some 0) .powerUp with pending := 7, pendingClass := .b, settle := 10 } with
    freeBuffers := 95
    budget := { Budget.reset with allowance := 20000000 }
    pending := [.lingerExpiry 3] }

theorem lively_steps : ∃ t, step lively = .next t := ⟨_, rfl⟩

theorem witness_StepRunsFrontCommand : lively.pending = Instr.lingerExpiry 3 :: [] := rfl

/-- No command waits; and a state with nothing due, at a phase of the time base. -/
def idle : State := { lively with pending := [] }
def still (n : Nat) : State := { base .drive .awake with phase := n }

/-- A linger that has run out; and nothing due at the last millisecond of a second and at the one before. -/
theorem witness_IdleStepTakesWhatIsDue :
    (idle.pending = [] ∧ idle.ownSteps = idle.ownSteps.take 20 ++ (true, Instr.lingerExpiry 3) :: idle.ownSteps.drop 21
        ∧ ∀ x ∈ idle.ownSteps.take 20, x.1 = false)
      ∧ ∀ n ∈ [998, 999], (still n).pending = [] ∧ ∀ x ∈ (still n).ownSteps, x.1 = false := by decide +kernel

theorem witness_CommandsComplete :
    Instr.park.wf = true ∧ (Instr.frameReception 6 { f0 with id := 0x7FF }).wf = true
      ∧ (Instr.frameReception 6 { f0 with id := 0x800 }).wf = false := by decide

theorem witness_ParametersStayInRange : ParameterLaw lively ∧ ∃ t, step lively = .next t := by
  refine ⟨?_, lively_steps⟩
  unfold ParameterLaw RuleRecord.inRange PortParams.inRange BranchParams.inRange Domain.inRange ScheduleEntry.inRange
    Budget.inRange
  decide +kernel

theorem witness_PoolStaysAccounted : PoolLaw lively ∧ ∃ t, step lively = .next t := by
  refine ⟨?_, lively_steps⟩
  unfold PoolLaw PortState.transmissionCoherent
  decide +kernel

theorem witness_QueuesFollowBranchState : MarkerLaw lively ∧ RestLaw lively ∧ ∃ t, step lively = .next t := by
  refine ⟨?_, ?_, lively_steps⟩
  · unfold MarkerLaw State.drainCoherent
    decide +kernel
  · unfold RestLaw State.restCoherent
    decide +kernel

theorem witness_QueuesStayWithinCapacity : CapacityLaw lively ∧ ∃ t, step lively = .next t := by
  have ports : ∀ p : Port, ∀ i ∈ lively.ports[p].queue, i = .frame { entry .b false with attempts := 1, sending := true } := by
    decide +kernel
  have sizes : lively.requests.length ≤ 4 ∧ lively.reports.length ≤ 16 ∧ lively.ports[trunkPort].discards < 3
      ∧ (∀ p : Port, lively.ports[p].landing.length ≤ 2 ∧ lively.ports[p].discards ≤ 3)
      ∧ lively.response = none ∧ lively.reports = [] := by decide +kernel
  obtain ⟨h1, h2, h3, h4, h5, h6⟩ := sizes
  refine ⟨⟨h1, h2, h3, fun p => ⟨(h4 p).1, (h4 p).2, fun i hi => ?_⟩, ?_, ?_⟩, lively_steps⟩
  · rw [ports p i hi]
    unfold QueueItem.attemptsBounded
    decide
  · simp [h5]
  · simp [h6]

theorem witness_InrushStaysLimited : ArbiterLaw lively ∧ ∃ t, step lively = .next t := by
  refine ⟨?_, lively_steps⟩
  unfold ArbiterLaw State.arbiterIdle
  decide +kernel

theorem witness_BranchesFollowDomains : BranchLaw lively ∧ ∃ t, step lively = .next t := by
  refine ⟨⟨fun b => ?_, by decide +kernel⟩, lively_steps⟩
  rcases eq_or_ne b 0 with rfl | h
  · exact ⟨⟨3, by decide +kernel⟩, fun ⟨d, hd⟩ => by revert d; decide +kernel⟩
  · have off : lively.branches[b].mode = .listen := by revert b; decide +kernel
    have none : ¬ ∃ d : DomainIx, lively.domains[d].branch = some b ∧ lively.domains[d].state.active = true := by
      revert b
      decide +kernel
    unfold State.branchFollows
    rw [off]
    exact none

theorem witness_DomainFieldsFollowState :
    DomainFieldLaw lively ∧ SeenLaw lively ∧ ∃ t, step lively = .next t := by
  refine ⟨?_, ?_, lively_steps⟩
  · unfold DomainFieldLaw Domain.fieldsHeld
    decide +kernel
  · unfold SeenLaw
    decide +kernel

theorem witness_AccountStaysLawful : ParameterLaw lively ∧ AccountLaw lively ∧ ∃ t, step lively = .next t := by
  refine ⟨witness_ParametersStayInRange.1, ?_, lively_steps⟩
  unfold AccountLaw
  decide +kernel

theorem witness_MonitorStaysLawful : ConfirmationLaw lively ∧ ∃ t, step lively = .next t := by
  refine ⟨?_, lively_steps⟩
  unfold ConfirmationLaw
  decide +kernel

/-- The consumed charge and the park clock at their greatest. -/
theorem witness_HeldValuesChangeByTheirCommands :
    let s := { lively with parkClock := 4294967295, account := { lively.account with consumed := 4294967295 } }
    let c := Instr.silenceTimerExpiry
    (∃ t, exec c s = .next t) ∧ (∀ straps : Fin 4, c ≠ .fullReset straps) ∧ c ≠ .writeRule ∧ c ≠ .setRuleEnable
      ∧ c ≠ .writeDomain ∧ c ≠ .writePort ∧ c ≠ .writeSchedule ∧ c ≠ .scheduleExpiry 7 ∧ c ≠ .writeBudget ∧ c ≠ .setInrushLimit ∧ c ≠ .setReportMasks
      ∧ c ≠ .writeMonitor ∧ (∀ straps : Fin 4, c ≠ .resetInput straps ∧ c ≠ .warmResetTakesPlace straps)
      ∧ c ≠ .park ∧ s.account.consumed ≤ 4294967295 ∧ s.parkClock ≤ 4294967295 :=
  ⟨⟨_, rfl⟩, by decide +kernel⟩

/-- Every field of the record at its greatest. -/
theorem witness_RuleImageRoundTrip :
    ({ RuleRecord.reset with
        valid := true, minLength := 64, battery := true, linger := 65535
        lanes := List.replicate 4 { offset := 63, mask := 0xFF, op := .le, operand := 0xFF }
        word := some { offset := 62, lowFirst := true, mask := 0xFFFF, op := .ge, operand := 0xFFFF, compare := true } }
      : RuleRecord).inRange := by
  unfold RuleRecord.inRange
  decide +kernel

/-- Every parameter at its greatest, and every one at its least. -/
theorem witness_ParameterBytesRoundTrip :
    ({ allowance := 4294967295, t1 := 4294967295, t2 := 4294967295, ibase := 1023, shift := 15, hmin := 255,
       vcrit := 65534, lcap := 65535 } : Budget).inRange
      ∧ ({ allowance := 0, t1 := 0, t2 := 0, ibase := 0, shift := 0, hmin := 0, vcrit := 0, lcap := 1 } : Budget).inRange
      ∧ ({ Domain.cold with branch := some 5, ia := 16383, settleTime := 255, defaultLinger := 65535 } : Domain).inRange
      ∧ ({ Domain.cold with ia := 0, settleTime := 1, defaultLinger := 1 } : Domain).inRange
      ∧ ((portOf 5 : Port) = 6
        ∧ ({ maxPayload := 64, holdCap := 96, holdAge := 65535, noMatch := .pass, forward := 0x3F } : PortParams).inRange 6
        ∧ ({ maxPayload := 8, holdCap := 0, holdAge := 1, noMatch := .drop, forward := 0 } : PortParams).inRange 6
        ∧ ({ rest := .off, current := 255, chatterLimit := 255, chatterWindow := 255, isolationTime := 65535,
             drainLimit := 255 } : BranchParams).inRange
        ∧ ({ rest := .listen, current := 0, chatterLimit := 1, chatterWindow := 1, isolationTime := 1,
             drainLimit := 1 } : BranchParams).inRange)
      ∧ (∀ n ∈ [1, 255], 1 ≤ ({ State.reset with silenceTime := n } : State).silenceTime
        ∧ ({ State.reset with silenceTime := n } : State).silenceTime ≤ 255)
      ∧ ({ enabled := true, mode := .oneShot, firstDelay := 86400, period := 86400, wake := 0xFFFF, cls := .c,
           linger := 65535, countdown := 86400 } : ScheduleEntry).inRange
      ∧ ({ enabled := false, mode := .repeating, firstDelay := 1, period := 1, wake := 0, cls := .a, linger := 0,
           countdown := 0 } : ScheduleEntry).inRange := by
  unfold Budget.inRange Domain.inRange PortParams.inRange BranchParams.inRange ScheduleEntry.inRange
  refine ⟨?_, ?_, ?_, ?_, ?_, ?_, ?_, ?_⟩ <;> decide +kernel

theorem witness_FullResetState : lively.faultInputs = 0 := rfl

theorem witness_WarmResetKeepsAndClears :
    (∀ c s, c = Instr.resetInput 3 ∧ s = lively →
      (c = .resetInput 3 ∨ c = .warmResetTakesPlace 3 ∧ s.warmResetPending = true ∧ s.response = none)
        ∧ s.faultInputs = 0)
      ∧ ∀ c s, c = Instr.warmResetTakesPlace 3 ∧ s = { lively with warmResetPending := true } →
        (c = .resetInput 3 ∨ c = .warmResetTakesPlace 3 ∧ s.warmResetPending = true ∧ s.response = none)
          ∧ s.faultInputs = 0 :=
  ⟨fun _ _ ⟨hc, hs⟩ => ⟨.inl hc, hs ▸ rfl⟩, fun _ _ ⟨hc, hs⟩ => ⟨.inr ⟨hc, hs ▸ rfl, hs ▸ rfl⟩, hs ▸ rfl⟩⟩

/-- A payload of the greatest length and the last free slot, on TP and on a branch where nobody awaits; and branches
with an awaiting domain, Awake and Draining. -/
theorem witness_LandedFramesAct :
    let quiet := { (base .drive .awake) with
      ports := Vector.replicate 7
        { PortState.reset 0 with params := { PortParams.reset 0 with maxPayload := 8 }, landing := [f0] } }
    let drained := ((night Rule.reset).putPort 1
        { PortState.reset 1 with queue := [.frame (entry .b false), .marker] }).putBranch 0
      { BranchState.cold with mode := .draining, drainTimer := some 1 }
    let full := { f0 with payload := List.replicate 8 0 }
    (quiet.mode ≠ .fallback ∧ full.wf = true
        ∧ ∀ p : Port, p = trunkPort ∨ p = portOf 5 →
          full.payload.length ≤ quiet.ports[p].params.maxPayload ∧ quiet.ports[p].landing.length < 2
            ∧ quiet.branches[(5 : Branch)].mode = .awake)
      ∧ f0.wf = true
      ∧ ∀ s ∈ [lively, drained], s.mode ≠ .fallback ∧ f0.payload.length ≤ s.ports[portOf 0].params.maxPayload
        ∧ s.ports[portOf 0].landing.length < 2 ∧ s.branches[(0 : Branch)].mode ≠ .off
        ∧ s.branches[(0 : Branch)].mode ≠ .isolated := by decide +kernel

/-- A state in which a port's landing buffer is full and its branch one chattered frame below its limit, or at it. -/
def crowded (k : BranchMode) (count : Nat) : State :=
  let full : PortState := { PortState.reset 0 with landing := [f0, f0] }
  (((base .parked k).putPort 0 full).putPort 1 full).putBranch 0 { BranchState.cold with mode := k, chatterCount := count }

theorem witness_FramesThatDoNotLand :
    let babble := { f0 with format := .fd, payload := List.replicate 12 0 }
    let narrow := (base .drive .awake).putPort 1
      { PortState.reset 1 with params := { PortParams.reset 1 with maxPayload := 8 } }
    (f0.wf = true ∧ babble.wf = true ∧ ({ f0 with id := 0x800 } : Frame).wf = false)
      ∧ ((base .parked .off).branches[(5 : Branch)].mode = .off
        ∧ (base .parked .isolated).branches[(5 : Branch)].mode = .isolated)
      ∧ ((crowded .awake 0).receives trunkPort = true ∧ (crowded .awake 0).ports[trunkPort].landing.length = 2)
      ∧ (narrow.receives 1 = true ∧ narrow.ports[(1 : Port)].params.maxPayload < babble.payload.length
        ∧ narrow.countsNoChatter 1)
      ∧ ((crowded .listen 18).receives 1 = true ∧ (crowded .listen 18).ports[(1 : Port)].landing.length = 2
        ∧ (crowded .listen 18).mode = .parked ∧ (crowded .listen 18).branches[(0 : Branch)].mode = .listen
        ∧ (crowded .listen 18).branches[(0 : Branch)].chatterCount + 1
          < (crowded .listen 18).branches[(0 : Branch)].params.chatterLimit)
      ∧ ((crowded .listen 19).branches[(0 : Branch)].params.chatterLimit
          ≤ (crowded .listen 19).branches[(0 : Branch)].chatterCount + 1
        ∧ (crowded .listen 19).faultInputs = 0) := by
  unfold State.countsNoChatter
  decide +kernel

theorem witness_FirstLandingEndsFallback :
    let s := (base .fallback .listen).putDomain 9 (dom none .fault)
    s.mode = .fallback ∧ (∀ b : Branch, s.branches[b].mode = .listen)
      ∧ (∀ d : DomainIx, s.domains[d].state = .off ∨ s.domains[d].state = .fault) ∧ f0.wf = true
      ∧ s.domains[(9 : DomainIx)].state = .fault ∧ s.domains[(15 : DomainIx)].state = .off ∧ s.faultInputs = 0
      ∧ ∀ p : Port, f0.payload.length ≤ s.ports[p].params.maxPayload ∧ s.ports[p].landing.length < 2 := by
  decide +kernel

/-- The port the pointer names comes last; and no frame landed at all. -/
theorem witness_ClassifierTakesPortsInTurn :
    let s := { (base .drive .awake).putPort 2 { PortState.reset 2 with landing := [f0] } with pointer := 2 }
    (s.classification = none ∧ s.mode ≠ .fallback
        ∧ (∀ k : Fin 7, k < 6 → s.ports[s.pointer + 1 + k].landing = []) ∧ s.ports[s.pointer + 1 + 6].landing = [f0])
      ∧ ∀ q : Port, (base .drive .awake).ports[q].landing = [] := by decide +kernel

theorem witness_VerdictFollowsModeAndTable :
    let mgmt := { f0 with id := 0x6C0 }
    let f6 := { f0 with kind := .extended, id := 0x4A2, payload := [0, 0x30] }
    (trunkPort = 0 ∧ mgmt.kind = .base ∧ mgmt.id = Config.mreq table.strap)
      ∧ (¬ ((0 : Port) = trunkPort ∧ f6.kind = .base ∧ f6.id = Config.mreq table.strap)
        ∧ (base .unconfigured .awake).mode = .unconfigured ∧ table.mode = .drive)
      ∧ (table.rules[(40 : RuleIx)].record.valid = true ∧ table.rules[(40 : RuleIx)].record.enabled = true
        ∧ table.rules[(40 : RuleIx)].quarantine = none ∧ table.rules[(40 : RuleIx)].record.accepts 0 f6 = true
        ∧ ∀ q : RuleIx, q < 40 → ¬ table.rules[q].record.accepts 0 f6 = true)
      ∧ ∀ q : RuleIx, ¬ (table.rules[q].record.valid = true ∧ table.rules[q].record.accepts 0 f0 = true) := by
  decide +kernel

/-- A match of class A that wakes D3 alone. -/
def wakeD3 : Match := { m0 .a with wake := BitVec.twoPow 16 3 }

/-- What every clause of the statement about Honoured wakes asks of the state. -/
def awaits (s : State) : Bool :=
  decide (s.classification = some { frame := f0, port := 0, verdict := .matched wakeD3 } ∧ s.mode = .parked
    ∧ wakeD3.cls = .a ∧ wakeD3.wake = BitVec.twoPow 16 (3 : DomainIx).val ∧ wakeD3.activity = 0
    ∧ wakeD3.forward = 0 ∧ wakeD3.battery = none
    ∧ (s.inrushLimit ≤ s.powerUpCount ∨ ∀ d : DomainIx, s.domains[d].state ≠ .queued))

/-- A state that awaits the dispatch of `wakeD3`, K domains being in PowerUp. -/
def awaiting (k : BranchMode) (x : Domain) : State :=
  judged ((((base .parked k).putDomain 3 x).putDomain 14 (dom none .powerUp)).putDomain 15 (dom none .powerUp)) 0
    (.matched wakeD3)

/-- An Off domain D3 and a free place, on a branch or none, with its fault input asserted or not. -/
def unhindered (k : BranchMode) (x : Domain) (inputs : BitVec 16) : State :=
  { judged ((base .parked k).putDomain 3 x) 0 (.matched wakeD3) with faultInputs := inputs }

/-- No place free. -/
theorem witness_HonouredWakeByDomainState :
    let off := awaiting .waking (dom none .off)
    (awaits off = true ∧ off.domains[(3 : DomainIx)].state = .off ∧ off.domains[(3 : DomainIx)].branch = none
        ∧ off.inrushLimit ≤ off.powerUpCount)
      ∧ ∀ k ∈ [BranchMode.isolated, .waking, .awake, .draining, .listen, .off],
        let s := awaiting k (dom (some 0) .off)
        awaits s = true ∧ s.domains[(3 : DomainIx)].state = .off ∧ s.domains[(3 : DomainIx)].branch = some 0
          ∧ s.branches[(0 : Branch)].mode = k ∧ s.inrushLimit ≤ s.powerUpCount := by decide +kernel

/-- A place free, without a branch, the fault input deasserted and asserted. -/
theorem witness_HonouredWakeByDomainState_granted :
    ∀ high ∈ [false, true],
      let s := unhindered .listen (dom none .off) (if high then 8 else 0)
      awaits s = true ∧ s.domains[(3 : DomainIx)].state = .off ∧ s.domains[(3 : DomainIx)].branch = none
        ∧ s.powerUpCount = 0 ∧ s.inrushLimit = 2 ∧ s.faultInputs.getLsbD (3 : DomainIx).val = high := by
  decide +kernel

/-- A place free, on a branch in each state. -/
theorem witness_HonouredWakeByDomainState_joined :
    ∀ k ∈ [BranchMode.off, .listen, .waking, .awake, .draining, .isolated],
      let s := unhindered k (dom (some 0) .off) 0
      awaits s = true ∧ s.domains[(3 : DomainIx)].state = .off ∧ s.domains[(3 : DomainIx)].branch = some 0
        ∧ s.branches[(0 : Branch)].mode = k ∧ s.powerUpCount = 0 ∧ s.inrushLimit = 2 ∧ s.faultInputs = 0 := by
  decide +kernel

/-- The domain in every other state. -/
theorem witness_HonouredWakeByDomainState_powered :
    ∀ k ∈ [DomainState.queued, .powerUp, .on, .releasing, .fault],
      let s := awaiting .awake (dom none k)
      awaits s = true ∧ s.domains[(3 : DomainIx)].state = k ∧ s.domains[(3 : DomainIx)].branch = none := by
  decide +kernel

/-- A Draining branch whose Releasing domain D3 a wake request, or an activity reload of an Honoured dispatch or of a
Deliver-only one of class C, returns to On. -/
theorem witness_RevivalWithdrawsMarker :
    let s := (awaiting .draining (dom (some 0) .releasing)).putPort 1
      { PortState.reset 1 with queue := [.frame (entry .b false), .marker] }
    let amber := { s with account := { s.account with effective := .amber } }
    let reload := fun k : WakeClass => { m0 k with activity := BitVec.twoPow 16 3 }
    (awaits s = true ∧ s.honours wakeD3.cls ∧ s.domains[(3 : DomainIx)].state = .releasing
        ∧ s.domains[(3 : DomainIx)].branch = some 0 ∧ s.branches[(0 : Branch)].mode = .draining
        ∧ s.countsNoChatter 0 ∧ amber.countsNoChatter 0)
      ∧ (s.honours (reload .b).cls ∧ (reload .b).wake = 0
        ∧ (reload .b).activity = BitVec.twoPow 16 (3 : DomainIx).val ∧ (reload .b).forward = 0
        ∧ (reload .b).battery = none)
      ∧ (amber.mode = .parked ∧ ¬ amber.honours (reload .c).cls
        ∧ ¬ ((reload .c).cls = .c ∧ (amber.account.effective = .red ∨ amber.account.effective = .exhausted))) := by
  unfold State.countsNoChatter State.honours
  decide +kernel

/-- A Parked state at a level with a classification in flight from a port. -/
def levelled (l : Level) (k : BranchMode) (p : Port) (v : Verdict) : State :=
  let s := base .parked k
  judged { s with account := { s.account with effective := l } } p v

theorem witness_UnhonouredDispatchWakesNothing :
    let act := { m0 .c with activity := BitVec.twoPow 16 3 }
    let actB := { m0 .b with activity := BitVec.twoPow 16 3 }
    let awake := (levelled .amber .awake 0 (.matched act)).putDomain 3 (dom (some 0) .on)
    let red := (levelled .red .awake 0 (.matched actB)).putDomain 3 (dom (some 0) .off)
    let sends := { m0 .c with forward := 0x7F, activity := 0xFFFF, wake := 0xFFFF, hold := true }
    (awake.mode = .parked ∧ act.forward = 0 ∧ act.battery = none ∧ ¬ awake.honours act.cls ∧ awake.countsNoChatter 0
        ∧ act.activity = BitVec.twoPow 16 (3 : DomainIx).val ∧ awake.domains[(3 : DomainIx)].state = .on)
      ∧ (¬ (levelled .red .awake 0 (.matched act)).honours act.cls
        ∧ (levelled .red .awake 0 (.matched act)).account.effective = .red
        ∧ ¬ (levelled .amber .awake 0 (.matched (m0 .c))).honours (m0 .c).cls ∧ (m0 .c).activity = 0)
      ∧ (¬ (levelled .exhausted .awake 0 (.matched sends)).honours sends.cls ∧ sends.cls = .c
        ∧ (levelled .exhausted .awake 0 (.matched sends)).account.effective = .exhausted
        ∧ (levelled .exhausted .awake 0 (.matched sends)).countsNoChatter 0)
      ∧ (¬ red.honours actB.cls ∧ red.domains[(3 : DomainIx)].state ≠ .on
        ∧ red.domains[(3 : DomainIx)].state ≠ .releasing)
      ∧ ∀ v ∈ [Verdict.dropped, .pass 0, .matched (m0 .a), .matched { m0 .c with wake := 1 }],
        let s := levelled .amber .listen 1 v
        (1 : Port) = portOf 0 ∧ s.branches[(0 : Branch)].mode = .listen
          ∧ s.branches[(0 : Branch)].chatterCount + 1 < s.branches[(0 : Branch)].params.chatterLimit := by
  unfold State.honours State.countsNoChatter
  dsimp only
  refine ⟨?_, ?_, ?_, ?_, ?_⟩ <;> decide +kernel

/-- A dispatch whose chattered frame is the first of a limit of 1. -/
theorem witness_UnhonouredDispatchWakesNothing_isolating :
    let s := (levelled .amber .listen 1 .dropped).putBranch 0
      { BranchState.cold with mode := .listen, params := { BranchParams.reset with chatterLimit := 1 } }
    s.classification = some { frame := f0, port := portOf 0, verdict := .dropped } ∧ s.mode = .parked
      ∧ s.branches[(0 : Branch)].mode = .listen ∧ s.faultInputs = 0
      ∧ s.branches[(0 : Branch)].params.chatterLimit ≤ s.branches[(0 : Branch)].chatterCount + 1 := by decide +kernel

theorem witness_BatteryFigureIsTaken :
    let m := { m0 .a with battery := some 65535 }
    let s := judged (base .drive .awake) 0 (.matched m)
    s.classification = some { frame := f0, port := 0, verdict := .matched m } ∧ s.mode = .drive ∧ m.wake = 0
      ∧ m.activity = 0 ∧ m.forward = 0 ∧ m.battery = some 65535 ∧ s.countsNoChatter 0 := by
  unfold State.countsNoChatter
  decide +kernel

/-- A matched copy of class B with 9 free buffers, a passed copy with 8, and an unheld copy for a branch in Listen. -/
theorem witness_ForwardCopyByTarget :
    let m := { m0 .b with forward := BitVec.twoPow 7 1, hold := true }
    let s9 := { judged (base .drive .awake) 2 (.matched m) with freeBuffers := 9 }
    let s8 := { judged (base .drive .awake) 2 (.pass (BitVec.twoPow 7 1)) with freeBuffers := 8 }
    let asleep := judged (base .unconfigured .listen) 2 (.transparent (BitVec.twoPow 7 1))
    (s9.honours .b ∧ m.forward = BitVec.twoPow 7 (1 : Port).val ∧ m.cls = .b ∧ m.hold = true ∧ m.wake = 0
        ∧ m.activity = 0 ∧ m.battery = none ∧ s9.countsNoChatter 2 ∧ s9.takesCopy 1 true ∧ s9.hasRoom 1 .b)
      ∧ (s8.countsNoChatter 2 ∧ s8.takesCopy 1 false ∧ ¬ s8.hasRoom 1 .b)
      ∧ (asleep.countsNoChatter 2 ∧ ¬ asleep.takesCopy 1 false) := by
  unfold State.honours State.countsNoChatter State.takesCopy State.hasRoom
  dsimp only
  refine ⟨?_, ?_, ?_⟩ <;> decide +kernel

/-- A Deliver-only match that holds and wakes: for a branch in Waking with 9 buffers and with 8, and for one at rest. -/
theorem witness_ForwardCopyByTarget_delivered :
    let m := { m0 .c with forward := BitVec.twoPow 7 1, hold := true, wake := 0xFFFF }
    let s := fun (k : BranchMode) (n : Nat) => { levelled .amber k 0 (.matched m) with freeBuffers := n }
    (m.forward = BitVec.twoPow 7 (1 : Port).val ∧ m.cls = .c ∧ m.activity = 0 ∧ m.battery = none)
      ∧ ((s .waking 9).mode = .parked ∧ ¬ (s .waking 9).honours .c ∧ (s .waking 9).account.effective = .amber
        ∧ (s .waking 9).countsNoChatter 0)
      ∧ ((s .waking 9).takesCopy 1 false ∧ (s .waking 9).hasRoom 1 .c)
      ∧ ((s .waking 8).takesCopy 1 false ∧ ¬ (s .waking 8).hasRoom 1 .c)
      ∧ (¬ (s .listen 9).takesCopy 1 false ∧ ¬ (s .listen 9).honours .c) := by
  unfold State.honours State.countsNoChatter State.takesCopy State.hasRoom
  dsimp only
  refine ⟨?_, ?_, ?_, ?_, ?_⟩ <;> decide +kernel

/-- A Draining branch whose queue stands at its cap. -/
def draining (q : List QueueItem) : State :=
  ((base .parked .draining).putBranch 0 { BranchState.cold with mode := .draining, drainTimer := some 5 }).putPort 1
    { PortState.reset 1 with params := { PortParams.reset 1 with holdCap := frameCount q }, queue := q }

/-- A class A copy at the cap, with and without a candidate, and beyond the cap. -/
theorem witness_ForwardCopyByTarget_evicting :
    let m := { m0 .a with forward := BitVec.twoPow 7 1 }
    let held := QueueItem.frame { entry .c true with sending := true, attempts := 1 }
    let s := fun q : List QueueItem => (judged (base .drive .awake) 2 (.matched m)).putPort 1
      { PortState.reset 1 with params := { PortParams.reset 1 with holdCap := 2 }, queue := q, flight := some flying }
    let atCap := s ([held] ++ .frame (entry .b false) :: [])
    let full := s [held, .frame (entry .a false)]
    let beyond := s [held, .frame (entry .b false), .frame (entry .b false)]
    ((atCap.mode = .drive ∧ atCap.countsNoChatter 2 ∧ atCap.branches[(0 : Branch)].mode = .awake
          ∧ ¬ atCap.hasRoom 1 .a
          ∧ frameCount atCap.ports[(1 : Port)].queue ≤ atCap.ports[(1 : Port)].params.holdCap)
        ∧ atCap.noDrainEnds 1
            { atCap.ports[(1 : Port)] with queue := [held] ++ [] ++ [atCap.newEntry 1 f0 .a false] }
        ∧ m.cls = .a ∧ m.wake = 0 ∧ m.activity = 0 ∧ m.forward = BitVec.twoPow 7 (1 : Port).val ∧ m.battery = none
        ∧ held.evictable = false ∧ (entry .b false).cls ≠ .a ∧ (entry .b false).sending = false)
      ∧ (¬ full.hasRoom 1 .a ∧ ∀ i ∈ full.ports[(1 : Port)].queue, i.evictable = false)
      ∧ (¬ beyond.hasRoom 1 .a
        ∧ beyond.ports[(1 : Port)].params.holdCap < frameCount beyond.ports[(1 : Port)].queue) := by
  unfold State.countsNoChatter State.hasRoom State.noDrainEnds
  dsimp only
  refine ⟨?_, ?_, ?_⟩ <;> decide +kernel

/-- A class A copy on a Draining branch that evicts the last entry ahead of the marker, and one before the last. -/
theorem witness_ForwardCopyByTarget_draining :
    let m := { m0 .a with forward := BitVec.twoPow 7 1 }
    let behind := [QueueItem.marker, .frame (entry .a true)]
    let between := QueueItem.frame (entry .a false) :: behind
    let s := fun rest : List QueueItem => judged (draining ([] ++ .frame (entry .b false) :: rest)) 2 (.matched m)
    (∀ rest ∈ [behind, between], (s rest).mode = .parked ∧ (s rest).countsNoChatter 2
        ∧ (s rest).branches[(0 : Branch)].mode = .draining ∧ ¬ (s rest).hasRoom (portOf 0) .a
        ∧ frameCount (s rest).ports[portOf 0].queue ≤ (s rest).ports[portOf 0].params.holdCap
        ∧ (s rest).ports[portOf 0].queue = [] ++ .frame (entry .b false) :: rest)
      ∧ ([] ++ behind).head? = some .marker
      ∧ (s between).noDrainEnds (portOf 0)
          { (s between).ports[portOf 0] with
            queue := [] ++ between ++ [(s between).newEntry (portOf 0) f0 .a false] } := by
  unfold State.countsNoChatter State.hasRoom State.noDrainEnds
  dsimp only
  refine ⟨?_, ?_, ?_⟩ <;> decide +kernel

/-- Every item of a dispatch, for every outcome, with and without a chatter report. -/
theorem witness_DispatchTakesItemsInOrder :
    let m := fun (k : WakeClass) (w : DomainSet) =>
      { m0 k with wake := w, activity := 0xFFFF, forward := 0x7F, hold := true, battery := some 65535 }
    let s := fun (l : Level) (p : Port) (v : Verdict) => levelled l .listen p v
    ((s .green 0 (.matched (m .a 0xFFFF))).honours (m .a 0xFFFF).cls ∧ (m .a 0xFFFF).wake ≠ 0 ∧ (m .a 0).wake = 0)
      ∧ (∀ v ∈ [Verdict.matched (m .a 0), .matched (m .c 1), .pass 0x7F],
        (s .amber 0 v).countsNoChatter 0 ∧ ¬ (s .amber 6 v).countsNoChatter 6)
      ∧ ((s .amber 6 (.matched (m .a 0))).honours (m .a 0).cls ∧ ¬ (s .amber 6 (.matched (m .c 1))).honours (m .c 1).cls
        ∧ (s .amber 6 (.matched (m .c 1))).account.effective = .amber
        ∧ ¬ (s .red 6 (.matched (m .c 1))).honours (m .c 1).cls
        ∧ (s .red 6 (.matched (m .c 1))).account.effective = .red) := by
  unfold State.honours State.countsNoChatter
  dsimp only
  refine ⟨?_, ?_, ?_⟩ <;> decide +kernel

/-- A wake of D3 with a copy for its branch, in every state that the branch may be in but Isolated. -/
theorem witness_DispatchTakesItemsInOrder_woken :
    let m := { wakeD3 with forward := BitVec.twoPow 7 (portOf 0).val }
    (m.wake = BitVec.twoPow 16 (3 : DomainIx).val ∧ m.activity = 0 ∧ m.battery = none ∧ m.cls = .a)
      ∧ ∀ k ∈ [BranchMode.off, .listen, .waking, .awake, .draining],
        let s := judged (awaiting k (dom (some 0) .off)) 0 (.matched m)
        s.mode = .parked ∧ s.domains[(3 : DomainIx)].state = .off ∧ s.domains[(3 : DomainIx)].branch = some 0
          ∧ s.branches[(0 : Branch)].mode = k ∧ s.inrushLimit ≤ s.powerUpCount ∧ s.freeBuffers = 96
          ∧ frameCount s.ports[portOf 0].queue = 0 ∧ s.ports[portOf 0].params.holdCap = 16 := by decide +kernel

/-- A count of 2 begins the last attempt, and a count of 3 none. -/
theorem witness_AttemptsBeginByPreference :
    let e := { entry .b false with attempts := 2 }
    let s := fun k : BranchMode => (base .parked k).putPort 1 { PortState.reset 1 with queue := [.frame e] }
    let r : Report := { kind := .batteryLow, subject := none, detail1 := 3, detail2 := 0, stamp := 5, urgent := false,
                        lost := false, attempts := 2 }
    let tp := { (base .drive .awake).putPort 0 { PortState.reset 0 with queue := [.frame e] } with trunk := .active }
    ((s .draining).branches[(0 : Branch)].mode = .draining ∧ (s .draining).branches[(0 : Branch)].closing = false
        ∧ (s .draining).ports[portOf 0].queue = [.frame e] ∧ (s .draining).ports[portOf 0].flight = none
        ∧ e.attempts < 3)
      ∧ ¬ ((s .waking).branches[(0 : Branch)].mode = .awake ∨ (s .waking).branches[(0 : Branch)].mode = .draining)
      ∧ (tp.ports[trunkPort].flight = none ∧ tp.response = none ∧ tp.trunk = .active ∧ tp.reports = []
        ∧ tp.ports[trunkPort].queue = [.frame e])
      ∧ (({ tp with response := some { bytes := [], attempts := 2 } } : State).ports[trunkPort].flight = none)
      ∧ (({ tp with reports := [r] } : State).ports[trunkPort].flight = none ∧ r.attempts < 3)
      ∧ (base .drive .awake).trunk = .quiet := by decide +kernel

/-- A response of 8 bytes, the least and the greatest that need FD, and a length that holds the greatest. -/
theorem witness_ResponsesAndReportsAsFrames :
    (List.replicate 8 (0 : Byte)).length ≤ 8
      ∧ (∀ n ∈ [9, 64], 8 < (List.replicate n (0 : Byte)).length ∧ (List.replicate n (0 : Byte)).length ≤ 64)
      ∧ 64 ∈ [0, 1, 2, 3, 4, 5, 6, 7, 8, 12, 16, 20, 24, 32, 48, 64] := by decide

/-- A port with an attempt of a kind in flight. -/
def ending (p : Port) (k : TxSource) (q : List QueueItem) (discards : Nat) : State :=
  { (base .drive .awake).putPort p
      { PortState.reset p with queue := q, flight := some { source := k, frame := f0 }, discards := discards } with
    response := some { bytes := [1, 2, 0], attempts := 3 }
    reports := [{ kind := .batteryLow, subject := none, detail1 := 3, detail2 := 0, stamp := 5, urgent := false,
                  lost := false, attempts := 3 }] }

/-- A Draining branch with an attempt in flight of its head entry or of one removed, its drain closing or not. -/
def midDrain (k : TxSource) (e : Entry) (rest : List QueueItem) (closing : Bool) : State :=
  ((base .parked .draining).putBranch 0
      { BranchState.cold with
        mode := .draining, drainTimer := if closing then none else some 5, closing := closing }).putPort 1
    { PortState.reset 1 with
      queue := .frame e :: rest, flight := some { source := k, frame := f0 }, discards := 1 }

/-- A port of each kind; and an attempt's end in the middle of a drain. -/
theorem witness_DeliveredRemovesCandidate :
    let q := [QueueItem.frame (entry .b false)]
    let more := [QueueItem.frame (entry .a true), .marker]
    (∀ k ∈ [TxSource.entry, .removed], (ending 1 k q 2).ports[(1 : Port)].flight = some { source := k, frame := f0 }
        ∧ (ending 1 k q 2).branches[(0 : Branch)].mode = .awake ∧ (ending 1 k q 2).ports[(1 : Port)].queue = q)
      ∧ (∀ k ∈ [TxSource.response, .report], (ending 0 k [] 2).ports[trunkPort].flight = some { source := k, frame := f0 }
        ∧ (ending 0 k [] 2).response.isSome = true ∧ (ending 0 k [] 2).reports ≠ [])
      ∧ ∀ k ∈ [TxSource.entry, .removed], let s := midDrain k (entry .b false) more false
        s.ports[portOf 0].flight = some { source := k, frame := f0 } ∧ s.branches[(0 : Branch)].mode = .draining
          ∧ s.ports[portOf 0].queue = .frame (entry .b false) :: more
          ∧ s.noDrainEnds (portOf 0) { s.ports[portOf 0] with flight := none, discards := 0, queue := more } := by
  unfold State.noDrainEnds
  dsimp only
  refine ⟨?_, ?_, ?_⟩ <;> decide +kernel

/-- Counts of 2 and 3 attempts, deadlines of 1 and 0 seconds, and one discard below the third. -/
theorem witness_FailedAttemptKeepsOrDiscards :
    let e := fun n d : Nat => ({ entry .b false with attempts := n, deadline := d } : Entry)
    (∀ x ∈ [e 2 1, e 2 0, e 3 1],
        let s := ending 1 .entry [.frame x] 1
        s.ports[(1 : Port)].flight = some { source := .entry, frame := f0 }
          ∧ s.noDrainEnds 1 { s.ports[(1 : Port)] with flight := none, queue := [] }
          ∧ s.ports[(1 : Port)].queue = [.frame x] ∧ s.ports[(1 : Port)].discards < 2)
      ∧ ((e 2 1).attempts < 3 ∧ 0 < (e 2 1).deadline ∧ (e 2 0).attempts < 3 ∧ (e 2 0).deadline = 0
        ∧ 3 ≤ (e 3 1).attempts)
      ∧ ((ending 1 .removed [] 1).ports[(1 : Port)].flight = some { source := .removed, frame := f0 })
      ∧ ((ending 0 .response [] 1).ports[trunkPort].flight = some { source := .response, frame := f0 }
        ∧ (ending 0 .response [] 1).response = some { bytes := [1, 2, 0], attempts := 3 }
        ∧ (ending 0 .response [] 1).ports[trunkPort].discards < 2
        ∧ ({ ending 0 .response [] 1 with response := some { bytes := [1, 2, 0], attempts := 2 } } : State).response
          = some { bytes := [1, 2, 0], attempts := 2 })
      ∧ ((ending 0 .report [] 1).ports[trunkPort].flight = some { source := .report, frame := f0 }
        ∧ (ending 0 .report [] 1).reports.map (·.attempts) = [3]
        ∧ ({ ending 0 .report [] 1 with
              reports := (ending 0 .report [] 1).reports.map fun x => { x with attempts := 2 } } : State).reports.map
            (·.attempts) = [2]) := by
  unfold State.noDrainEnds
  decide +kernel

/-- In the middle of a drain: a Failed attempt below the third, past its deadline, the third, and of a removed entry. -/
theorem witness_FailedAttemptKeepsOrDiscards_draining :
    let e := fun n d : Nat => ({ entry .b false with attempts := n, deadline := d } : Entry)
    let more := [QueueItem.frame (entry .a true), .marker]
    (∀ x ∈ [e 2 1, e 2 0, e 3 1], let s := midDrain .entry x more false
        s.ports[portOf 0].flight = some flying ∧ s.ports[portOf 0].queue = .frame x :: more
          ∧ s.ports[portOf 0].discards < 2 ∧ s.branches[(0 : Branch)].mode = .draining
          ∧ s.noDrainEnds (portOf 0) { s.ports[portOf 0] with flight := none, queue := more }
          ∧ s.noDrainEnds (portOf 0) { s.ports[portOf 0] with flight := none, queue := .frame x :: more })
      ∧ let s := midDrain .removed (e 0 1) more false
        s.ports[portOf 0].flight = some { source := .removed, frame := f0 }
          ∧ s.noDrainEnds (portOf 0) { s.ports[portOf 0] with flight := none } := by
  unfold State.noDrainEnds
  dsimp only
  refine ⟨?_, ?_⟩ <;> decide +kernel

theorem witness_ThirdDiscardCutsPort :
    let e := { entry .b false with attempts := 3, sending := true }
    let rest := [QueueItem.frame (entry .c true)]
    (∀ p : Port, p = trunkPort ∨ p = portOf 5 →
        let s := ending p .entry (.frame e :: rest) 2
        s.ports[p].flight = some { source := .entry, frame := f0 } ∧ s.ports[p].queue = .frame e :: rest
          ∧ e.attempts = 3 ∧ s.ports[p].discards = 2 ∧ s.faultInputs = 0 ∧ s.mode ≠ .fallback
          ∧ s.branches[(5 : Branch)].mode ≠ .isolated)
      ∧ (∀ i ∈ rest, i.isFrame = true ∧ i.sending = false)
      ∧ ∀ k ∈ [TxSource.response, .report], let s := ending 0 k rest 2
        s.ports[trunkPort].flight = some { source := k, frame := f0 } ∧ s.ports[trunkPort].discards = 2
          ∧ s.ports[trunkPort].queue = rest ∧ s.response = some { bytes := [1, 2, 0], attempts := 3 }
          ∧ s.reports.map (·.attempts) = [3] := by decide +kernel

/-- The last entry ahead of the marker, by each end of its attempt and by its deadline; the drain limit without and
with an attempt in flight; and a closing drain whose marker is not next. -/
theorem witness_DrainsEndAtRest :
    let e := fun n d : Nat => ({ entry .b false with sending := true, attempts := n, deadline := d } : Entry)
    let late := { entry .b false with deadline := 0 }
    let s := fun (f : Option Flight) (k : Bool) (q : List QueueItem) => ((base .parked .listen).putPort 1
      { PortState.reset 1 with queue := q, flight := f, discards := 1 }).putBranch 0
        { BranchState.cold with mode := .draining, closing := k, drainTimer := if k then none else some 0 }
    let gone : Flight := { flying with source := .removed }
    (∀ x ∈ [e 3 5, e 2 0, late], let u := s (some flying) false [.frame x, .marker]
        u.mode = .parked ∧ u.branches[(0 : Branch)].mode = .draining ∧ u.ports[portOf 0].flight = some flying
          ∧ flying.source = .entry ∧ u.ports[portOf 0].queue = .frame x :: [.marker]
          ∧ [QueueItem.marker].head? = some .marker ∧ u.ports[portOf 0].discards < 2)
      ∧ (3 ≤ (e 3 5).attempts ∧ (e 2 0).attempts < 3 ∧ (e 2 0).deadline = 0 ∧ late.deadline = 0 ∧ late.sending = false)
      ∧ (let u := s (some flying) true [.frame (e 2 5), .frame (entry .a true), .marker]
        u.branches[(0 : Branch)].closing = true ∧ (e 2 5).attempts < 3 ∧ 0 < (e 2 5).deadline
          ∧ u.ports[portOf 0].queue = .frame (e 2 5) :: [.frame (entry .a true), .marker])
      ∧ ((s (some gone) true [.marker]).ports[portOf 0].flight = some gone ∧ gone.source = .removed)
      ∧ ∀ f ∈ [some flying, none], let u := s f false [.frame (entry .b false), .marker]
        u.branches[(0 : Branch)].drainTimer = some 0 ∧ u.ports[portOf 0].flight = f
          ∧ u.ports[portOf 0].queue.head? ≠ some .marker := by
  dsimp only
  refine ⟨?_, ?_, ?_, ?_, ?_⟩ <;> decide +kernel

/-- A domain of BP1 in a state, alone or beside D4 in another. -/
def paired (m : PartMode) (k : BranchMode) (x y : DomainState) : State :=
  ((base m k).putDomain 3 (dom (some 0) x)).putDomain 4 (dom (some 0) y)

/-- Counts at 0, and running ones at 1. -/
theorem witness_ExpiriesFollowTheirCounts :
    let s := fun n : Nat => { (base .parked .listen).putBranch 5
        { BranchState.cold with mode := .isolated, windowTimer := some n, isolationTimer := some n } with
      silence := some n, rules := Vector.replicate 128 { Rule.reset with suspect := some n, quarantine := some n } }
    let e := { entry .b true with deadline := 1 }
    let u := { (((State.reset.putDomain 3 { dom none .powerUp with settle := 1 }).putBranch 0
      { BranchState.cold with mode := .draining, drainTimer := some 1 }).putPort 1
        { PortState.reset 1 with queue := [.frame e] }) with
      schedule := Vector.replicate 8 { ScheduleEntry.reset with enabled := true, countdown := 1 } }
    ((s 0).silence = some 0 ∧ (s 0).branches[(5 : Branch)].windowTimer = some 0
        ∧ (s 0).rules[(127 : RuleIx)].suspect = some 0 ∧ (s 0).rules[(127 : RuleIx)].quarantine = some 0)
      ∧ ((s 1).silence ≠ some 0 ∧ (s 1).branches[(5 : Branch)].windowTimer ≠ some 0
        ∧ (s 1).branches[(5 : Branch)].isolationTimer ≠ some 0
        ∧ (s 1).rules[(127 : RuleIx)].suspect ≠ some 0 ∧ (s 1).rules[(127 : RuleIx)].quarantine ≠ some 0)
      ∧ (u.deadline ≠ 0 ∧ u.domains[(3 : DomainIx)].settle ≠ 0 ∧ u.branches[(0 : Branch)].drainTimer ≠ some 0
        ∧ u.schedule[(7 : EntryIx)].countdown ≠ 0 ∧ u.account.timer ≠ 0
        ∧ u.ports[(1 : Port)].queue[0]? = some (.frame e) ∧ e.deadline ≠ 0)
      ∧ ((paired .parked .awake .on .off).putDomain 3 { dom (some 0) .on with remaining := 1 }).domains[
          (3 : DomainIx)].remaining ≠ 0 := by decide +kernel

theorem witness_DeadlineEntersFallback :
    (({ base .unconfigured .awake with deadline := 0 } : State).mode = .unconfigured
        ∧ ({ base .unconfigured .awake with deadline := 0 } : State).deadline = 0)
      ∧ (base .drive .awake).mode ≠ .unconfigured := by decide

/-- K domains in PowerUp, D3 among them, and one domain Queued. -/
def crowdedPlaces (m : PartMode) (k : BranchMode) : State :=
  { (paired m k .powerUp .powerUp).putDomain 9 { dom (some 5) .queued with pendingClass := .b } with lastGranted := 3 }

/-- A PowerUp domain's place freed by its fault, outside Parked and on a Waking and an Awake branch. -/
theorem witness_FaultInputActsOnPoweredDomain_granting :
    ∀ x ∈ [(PartMode.drive, BranchMode.awake), (.parked, .waking), (.parked, .awake)],
      let s := crowdedPlaces x.1 x.2
      s.mode = x.1 ∧ s.branches[(0 : Branch)].mode = x.2 ∧ s.domains[(3 : DomainIx)].state = .powerUp
        ∧ s.domains[(3 : DomainIx)].branch = some 0 ∧ s.powerUpCount = s.inrushLimit
        ∧ s.faultInputs.getLsbD (9 : DomainIx).val = false ∧ s.firstCandidate 9 := by
  unfold State.firstCandidate
  decide +kernel

theorem witness_FaultInputActsOnPoweredDomain :
    let d : DomainIx := 3
    (∀ s ∈ [paired .drive .awake .on .off, paired .parked .waking .powerUp .off, paired .parked .draining .releasing .off,
          paired .parked .awake .on .on, paired .parked .waking .powerUp .on],
        (s.domains[d].state = .powerUp ∨ s.domains[d].state = .on ∨ s.domains[d].state = .releasing)
          ∧ s.domains[d].branch = some 0 ∧ ∀ i : DomainIx, s.domains[i].state ≠ .queued)
      ∧ (∀ x ∈ [DomainState.off, .queued, .fault], (paired .parked .waking x .off).domains[d].state = x)
      ∧ (∀ i : DomainIx, i ≠ d → (paired .parked .waking .powerUp .off).domains[i].state.active = false)
      ∧ (paired .parked .awake .on .on).domains[(4 : DomainIx)].state.active = true
      ∧ ((paired .parked .waking .powerUp .powerUp).domains[(4 : DomainIx)].state.waiting = true
        ∧ (paired .parked .waking .powerUp .powerUp).domains[d].state = .powerUp
        ∧ ∀ i : DomainIx, (paired .parked .waking .powerUp .powerUp).domains[i].state ≠ .queued)
      ∧ ((paired .parked .waking .powerUp .on).domains[(4 : DomainIx)].state = .on
        ∧ ∀ i : DomainIx, i ≠ d → (paired .parked .waking .powerUp .on).domains[i].state.waiting = false) := by
  decide +kernel

/-- No domain is pending: outside Parked, and in Parked on a Waking branch with and without another domain that waits,
on an Awake one and without a branch. -/
theorem witness_SettledDomainGoesOn :
    let d : DomainIx := 3
    let b : Branch := 0
    (∀ s ∈ [paired .drive .awake .powerUp .off, paired .parked .waking .powerUp .powerUp,
          paired .parked .waking .powerUp .off, paired .parked .awake .powerUp .on,
          (base .parked .listen).putDomain 3 (dom none .powerUp)],
        s.domains[d].state = .powerUp ∧ s.domains[d].settle = 0
          ∧ (s.mode ≠ .parked ∨ s.domains[d].branch = none ∨ s.domains[d].branch = some b)
          ∧ ∀ i : DomainIx, s.domains[i].state ≠ .queued) := by decide +kernel

/-- K domains in PowerUp and one pending, in Parked on a Waking and on an Awake branch, and in Drive. -/
theorem witness_SettledDomainGoesOn_granting :
    let d : DomainIx := 3
    let b : Branch := 0
    ∀ x ∈ [(PartMode.drive, BranchMode.awake), (.parked, .waking), (.parked, .awake)],
      let s := crowdedPlaces x.1 x.2
      s.mode = x.1 ∧ s.domains[d].state = .powerUp ∧ s.domains[d].settle = 0 ∧ s.domains[d].branch = some b
        ∧ s.branches[b].mode = x.2 ∧ s.powerUpCount = s.inrushLimit
        ∧ s.faultInputs.getLsbD (9 : DomainIx).val = false ∧ s.firstCandidate 9 := by
  unfold State.firstCandidate
  decide +kernel

theorem witness_LingerExpiryDestination :
    let d : DomainIx := 3
    let queued := (paired .parked .awake .on .off).putPort 1 { PortState.reset 1 with queue := [.frame (entry .b true)] }
    let alone := paired .parked .awake .on .fault
    let free := (base .parked .awake).putDomain 3 (dom none .on)
    (∀ s ∈ [paired .parked .awake .on .powerUp, queued, alone, free],
        s.mode = .parked ∧ s.domains[d].state = .on ∧ s.domains[d].remaining = 0 ∧ s.domains[d].awaiting = false
          ∧ s.domains[d].waker = none)
      ∧ free.domains[d].branch = none
      ∧ ((paired .parked .awake .on .powerUp).domains[d].branch = some 0
        ∧ (paired .parked .awake .on .powerUp).domains[(4 : DomainIx)].branch = some 0
        ∧ (paired .parked .awake .on .powerUp).domains[(4 : DomainIx)].state = .powerUp)
      ∧ (queued.branches[(0 : Branch)].mode = .awake ∧ queued.ports[portOf 0].queue ≠ []
        ∧ queued.ports[portOf 0].queue.head? ≠ some .marker
        ∧ ∀ i : DomainIx, i ≠ d → queued.domains[i].state = .off)
      ∧ (alone.branches[(0 : Branch)].mode = .awake ∧ alone.ports[portOf 0].queue = []
        ∧ alone.domains[(4 : DomainIx)].branch = some 0
        ∧ ∀ i : DomainIx, i ≠ d → alone.domains[i].state = .off ∨ alone.domains[i].state = .fault) := by decide +kernel

/-- In good standing, suspect and quarantined, each beside another On domain. -/
theorem witness_UnconfirmedWakeIsCharged :
    ∀ x ∈ [Rule.reset, { Rule.reset with suspect := some 0 }, { Rule.reset with quarantine := some 1 }],
      let s := night x
      s.mode = .parked ∧ s.domains[(4 : DomainIx)].state = .on ∧ s.domains[(4 : DomainIx)].awaiting = true
        ∧ s.domains[(4 : DomainIx)].waker = some 5 ∧ s.domains[(4 : DomainIx)].remaining = 0
        ∧ s.domains[(4 : DomainIx)].branch = some 0
        ∧ (3 : DomainIx) ≠ 4 ∧ s.domains[(3 : DomainIx)].branch = some 0 ∧ s.domains[(3 : DomainIx)].state = .on
        ∧ s.rules[(5 : RuleIx)] = x := by decide +kernel

/-- The branch's last domain, with an entry queued and with none. -/
theorem witness_UnconfirmedWakeIsCharged_last :
    let d : DomainIx := 3
    ∀ q ∈ [[], [QueueItem.frame (entry .b true)]],
      let s := ((paired .parked .awake .on .fault).putDomain d
        { dom (some 0) .on with waker := some 5, awaiting := true }).putPort 1 { PortState.reset 1 with queue := q }
      s.mode = .parked ∧ s.domains[d].state = .on ∧ s.domains[d].awaiting = true ∧ s.domains[d].waker = some 5
        ∧ s.domains[d].remaining = 0 ∧ s.domains[d].branch = some 0 ∧ s.branches[(0 : Branch)].mode = .awake
        ∧ s.ports[portOf 0].queue = q ∧ q.head? ≠ some .marker
        ∧ ∀ i : DomainIx, i ≠ d → s.domains[i].state = .off ∨ s.domains[i].state = .fault := by decide +kernel

theorem witness_DeadlineRemovesEntry :
    let e := { entry .b true with deadline := 0 }
    let sent := { e with sending := true }
    let s := fun i : QueueItem => (base .drive .awake).putPort 6
      { PortState.reset 6 with queue := [.frame (entry .a true)] ++ i :: [] }
    ((s (.frame e)).ports[(6 : Port)].queue = [.frame (entry .a true)] ++ .frame e :: [] ∧ e.deadline = 0
        ∧ e.sending = false
        ∧ (s (.frame e)).noDrainEnds 6
            { (s (.frame e)).ports[(6 : Port)] with queue := [.frame (entry .a true)] ++ [] })
      ∧ ((s (.frame sent)).ports[(6 : Port)].queue = [.frame (entry .a true)] ++ .frame sent :: []
        ∧ sent.deadline = 0 ∧ sent.sending = true)
      ∧ (s .marker).ports[(6 : Port)].queue = [.frame (entry .a true)] ++ .marker :: []
      ∧ (let u := draining ([.frame (entry .a true)] ++ .frame e :: [.marker])
        u.branches[(0 : Branch)].mode = .draining
          ∧ u.ports[portOf 0].queue = [.frame (entry .a true)] ++ .frame e :: [.marker]
          ∧ u.noDrainEnds (portOf 0)
            { u.ports[portOf 0] with queue := [.frame (entry .a true)] ++ [.marker] }) := by
  unfold State.noDrainEnds
  dsimp only
  refine ⟨?_, ?_, ?_, ?_⟩ <;> decide +kernel

theorem witness_AccountingChargesInterval :
    ∀ m ∈ [PartMode.drive, .parked],
      ({ charged 1000000 3 352 .off true with mode := m } : State).account.timer = 0
        ∧ ({ charged 1000000 3 352 .off true with mode := m } : State).mode = m := by decide +kernel

theorem witness_IsolationEnds :
    let iso : BranchState := { BranchState.cold with mode := .isolated, cause := .noAck, isolationTimer := some 0 }
    let off : BranchState := { iso with params := { BranchParams.reset with rest := .off } }
    let s := fun m bs => asked ((base m .awake).putBranch 5 bs) [0x32, 9, byte (portOf 5).val]
    ((portOf 5 : Port) = 6 ∧ (s .parked iso).branches[(5 : Branch)].params.rest = .listen
        ∧ (s .parked off).branches[(5 : Branch)].params.rest = .off)
      ∧ (∀ m ∈ [PartMode.parked, .unconfigured, .drive], (s m iso).mode = m
        ∧ (s m iso).branches[(5 : Branch)].mode = .isolated ∧ (s m iso).arbiterIdle
        ∧ (∀ d : DomainIx, (s m iso).domains[d].branch ≠ some 5)
        ∧ (s m iso).turn [0x32, 9, byte (portOf 5).val] [])
      ∧ (s .drive BranchState.reset).branches[(5 : Branch)].mode ≠ .isolated
      ∧ (let u := (s .drive iso).putDomain 3 (dom (some 5) .off)
        u.mode = .drive ∧ u.branches[(5 : Branch)].mode = .isolated ∧ u.domains[(3 : DomainIx)].branch = some 5
          ∧ u.domains[(3 : DomainIx)].state = .off ∧ u.faultInputs = 0)
      ∧ ∀ i ∈ [(0 : Byte), 7], let u := asked (base .drive .awake) [0x32, 9, i]
        u.mode ≠ .fallback ∧ u.turn ([0x32, 9, i] ++ []) [] ∧ (i = 0 ∨ 6 < i.toNat) := by
  unfold State.arbiterIdle State.turn
  dsimp only
  refine ⟨?_, ?_, ?_, ?_, ?_⟩ <;> decide +kernel

theorem witness_ScheduleEntryFires :
    let e : ScheduleEntry := { ScheduleEntry.reset with enabled := true, countdown := 0, cls := .b }
    let wakes := { e with wake := BitVec.twoPow 16 15 }
    let s := fun (l : Level) (x : ScheduleEntry) (d : Domain) =>
      { (levelled l .listen 0 .dropped).putDomain 15 d with schedule := (Vector.replicate 8 e).set 7 x }
    let full := fun d : Domain => { ((s .amber wakes d).putDomain 1 (dom none .powerUp)) with inrushLimit := 1 }
    (∀ l ∈ [Level.green, .red], (s l e (dom none .on)).mode = .parked
        ∧ (s l e (dom none .on)).schedule[(7 : EntryIx)].enabled = true
        ∧ (s l e (dom none .on)).schedule[(7 : EntryIx)].countdown = 0)
      ∧ (¬ (s .red e (dom none .on)).honours e.cls ∧ (s .green e (dom none .on)).honours e.cls ∧ e.wake = 0)
      ∧ ((s .amber wakes (dom none .on)).honours wakes.cls
        ∧ (s .amber wakes (dom none .on)).schedule[(7 : EntryIx)].wake = BitVec.twoPow 16 (15 : DomainIx).val
        ∧ (s .amber wakes (dom none .on)).domains[(15 : DomainIx)].state = .on
        ∧ (s .amber wakes (dom none .on)).arbiterIdle)
      ∧ ∀ b ∈ [none, some (5 : Branch)], (full (dom b .off)).mode = .parked ∧ (full (dom b .off)).honours wakes.cls
        ∧ (full (dom b .off)).schedule[(7 : EntryIx)] = wakes ∧ (full (dom b .off)).domains[(15 : DomainIx)].state = .off
        ∧ (full (dom b .off)).domains[(15 : DomainIx)].branch = b
        ∧ (full (dom b .off)).inrushLimit ≤ (full (dom b .off)).powerUpCount := by
  unfold State.honours State.arbiterIdle
  dsimp only
  refine ⟨?_, ?_, ?_, ?_⟩ <;> decide +kernel

/-- A domain in each state on a branch of each kind or on none, with a place free. -/
theorem witness_ScheduleEntryFires_states :
    let d : DomainIx := 15
    let e : ScheduleEntry :=
      { ScheduleEntry.reset with enabled := true, countdown := 0, cls := .a, wake := BitVec.twoPow 16 15 }
    let s := fun (k : BranchMode) (x : Domain) =>
      { (levelled .exhausted k 0 .dropped).putDomain d x with schedule := Vector.replicate 8 e }
    let meets := fun (k : BranchMode) (x : Domain) =>
      (s k x).mode = .parked ∧ (s k x).schedule[(0 : EntryIx)] = e ∧ (s k x).honours e.cls
        ∧ (∀ i : DomainIx, i ≠ d → (s k x).domains[i].state = .off)
        ∧ (s k x).powerUpCount < (s k x).inrushLimit ∧ (s k x).faultInputs.getLsbD d.val = false
        ∧ (s k x).domains[d] = x ∧ (s k x).branches[(5 : Branch)].mode = k
    (∀ k ∈ [BranchMode.off, .listen, .waking, .awake, .draining, .isolated], meets k (dom (some 5) .off))
      ∧ (∀ x ∈ [DomainState.off, .on, .powerUp, .releasing, .fault], meets .awake (dom none x))
      ∧ meets .draining (dom (some 5) .releasing) := by
  unfold State.honours
  dsimp only
  refine ⟨?_, ?_, ?_⟩ <;> decide +kernel

/-- An Honoured entry that wakes every domain. -/
theorem witness_ScheduleEntryFires_many :
    let e : ScheduleEntry := { ScheduleEntry.reset with enabled := true, countdown := 0, cls := .a, wake := 0xFFFF }
    let s := { levelled .red .listen 0 .dropped with schedule := (Vector.replicate 8 ScheduleEntry.reset).set 7 e }
    s.mode = .parked ∧ s.schedule[(7 : EntryIx)] = e ∧ e.enabled = true ∧ e.countdown = 0 ∧ s.honours e.cls
      ∧ (allDomains.filter fun j => e.wake.getLsbD j.val).length = 16 := by
  unfold State.honours
  decide +kernel

/-- A masked kind; and an unmasked one at 15 and at 16 records. -/
theorem witness_ConditionIsRecorded :
    let r : Report := { kind := .batteryLow, subject := none, detail1 := 3, detail2 := 0, stamp := 5, urgent := false,
                        lost := false, attempts := 0 }
    ({ State.reset with reportMask := 0x1FF } : State).reportMask.getLsbD (Condition.index .fallbackEntered) = false
      ∧ State.reset.reportMask.getLsbD (Condition.index .fallbackEntered) = true
      ∧ (List.replicate 15 r).length < 16 ∧ 16 ≤ (List.replicate 16 r).length := by decide +kernel

/-- Any request has its turn in the reset state. -/
theorem asked_reset (req : List Byte) :
    (asked State.reset req).mode ≠ .fallback ∧ (asked State.reset req).turn (req ++ []) [] := by
  refine ⟨?_, by simp [asked], rfl, rfl⟩
  show PartMode.unconfigured ≠ .fallback
  decide

theorem witness_ReadIdentityAnswer :
    (asked State.reset ([1, 9] ++ [0])).mode ≠ .fallback ∧ (asked State.reset ([1, 9] ++ [0])).turn ([1, 9] ++ [0]) [] := by
  unfold State.turn
  decide +kernel

/-- The last index and the first beyond it. -/
theorem witness_ReadDomainAnswer :
    (∀ i ∈ [(15 : Byte), 16], (asked State.reset [0x21, 9, i]).mode ≠ .fallback
        ∧ (asked State.reset [0x21, 9, i]).turn ([0x21, 9, i] ++ []) [])
      ∧ (15 : Byte).toNat = (15 : DomainIx).val ∧ 15 < (16 : Byte).toNat := by
  unfold State.turn
  decide +kernel

theorem witness_ClearConditionsAnswer :
    (asked State.reset [3, 9, 1, 4]).mode ≠ .fallback
      ∧ (asked State.reset [3, 9, 1, 4]).turn ([3, 9, 1, 4] ++ []) [] := by
  unfold State.turn
  decide +kernel

/-- Each read at its last index or page and at the first beyond it, and Read Port of TP. -/
theorem witness_ReadsReturnTheirItem :
    (∀ x ∈ [((0x11 : Byte), (127 : Byte)), (0x11, 128), (0x31, 0), (0x31, 6), (0x31, 7), (0x51, 7), (0x51, 8), (2, 0), (2, 1), (2, 2),
          (2, 3), (2, 4)],
        (asked State.reset [x.1, 9, x.2]).mode ≠ .fallback
          ∧ (asked State.reset [x.1, 9, x.2]).turn ([x.1, 9, x.2] ++ []) [])
      ∧ ((127 : Byte).toNat = (127 : RuleIx).val ∧ 127 < (128 : Byte).toNat)
      ∧ ((6 : Byte).toNat = (5 : Branch).val + 1 ∧ 6 < (7 : Byte).toNat)
      ∧ ((7 : Byte).toNat = (7 : EntryIx).val ∧ 7 < (8 : Byte).toNat) ∧ 3 < (4 : Byte).toNat
      ∧ State.reset.rules[(127 : RuleIx)].record.lanes.length ≤ 4 := by
  exact ⟨fun x _ => asked_reset [x.1, 9, x.2], by decide +kernel⟩

/-- The last free place and the full queue; and an empty request, one of an unassigned code with and without a tag,
and of an assigned one without a tag and one argument byte short. -/
theorem witness_RequestsAreQueuedAndChecked :
    let c : Classification := { frame := f0, port := 0, verdict := .management }
    let three := { judged (base .drive .awake) 0 .management with requests := [[], [], []] }
    let four := { judged (base .drive .awake) 0 .management with requests := [[], [], [], []] }
    let argumentBytes : List (Nat × Nat) :=
      [(0x01, 0), (0x02, 1), (0x03, 2), (0x04, 4), (0x05, 0), (0x10, 44), (0x11, 1), (0x12, 2), (0x13, 1), (0x14, 4),
       (0x20, 7), (0x21, 1), (0x22, 2), (0x23, 1), (0x30, 15), (0x31, 1), (0x32, 1), (0x40, 20), (0x50, 16), (0x51, 1),
       (0x60, 0), (0x61, 0)]
    (three.classification = some c ∧ c.verdict = .management ∧ three.requests.length < 4)
      ∧ (four.classification = some c ∧ 4 ≤ four.requests.length)
      ∧ (∀ req ∈ [[], [0x62, 9], [0x62], [0x61], [0x22, 9, (3 : Byte)]], (asked State.reset req).turn req [])
      ∧ argumentBytes.lookup (0x62 : Byte).toNat = none ∧ (argumentBytes.lookup (0x61 : Byte).toNat).isSome = true
      ∧ (argumentBytes.lookup (0x22 : Byte).toNat).any ([(3 : Byte)].length < ·) = true := by
  unfold State.turn
  decide +kernel

/-- Set Inrush Limit at 0, 1, 4 and 5, with and without a domain in PowerUp. -/
theorem witness_SmallSettingsAreWritten :
    (∀ req ∈ [[(4 : Byte), 9, 1, 2, 3, 4], [0x14, 9, 0, 0, 0, 1], [0x14, 9, 0, 1, 0, 1], [5, 9]],
        (asked State.reset req).mode ≠ .fallback ∧ (asked State.reset req).turn (req ++ []) [])
      ∧ (∀ x ∈ [(0 : Byte), 1, 4, 5], (asked State.reset [0x23, 9, x]).turn ([0x23, 9, x] ++ []) []
        ∧ (asked (base .drive .awake) [0x23, 9, x]).turn ([0x23, 9, x] ++ []) [])
      ∧ ((0 : Byte).toNat = 0 ∧ 4 < (5 : Byte).toNat ∧ 1 ≤ (1 : Byte).toNat ∧ (4 : Byte).toNat ≤ 4)
      ∧ State.reset.domains[(15 : DomainIx)].state = .powerUp
      ∧ ∀ d : DomainIx, (base .drive .awake).domains[d].state ≠ .powerUp
        ∧ (base .drive .awake).domains[d].state ≠ .queued := by
  unfold State.turn
  decide +kernel

/-- Each refused image is beyond its boundary by the condition that the statement names. -/
theorem witness_RuleRequestsChangeTheirRule_refused :
    let at8 := fun (l : List (Nat × Byte)) (k : Nat) => ((imageWith l).getD k 0).toNat
    let at16 := fun (l : List (Nat × Byte)) (k : Nat) => 256 * at8 l k + at8 l (k + 1)
    let at32 := fun (l : List (Nat × Byte)) (k : Nat) => 65536 * at16 l k + at16 l (k + 2)
    (∀ image ∈ badImages, image.length = 43)
      ∧ (127 < at8 [(1, 128)] 1 ∧ 127 < at8 [(40, 128)] 40 ∧ at8 [(2, 3)] 2 % 4 = 3 ∧ at8 [(2, 12)] 2 / 4 % 4 = 3
        ∧ at8 [(2, 48)] 2 / 16 % 4 = 3 ∧ 2 ^ 29 ≤ at32 [(3, 32)] 3 ∧ 2 ^ 29 ≤ at32 [(7, 32)] 7
        ∧ 64 < at8 [(11, 65)] 11 ∧ 4 < at8 [(12, 5)] 12)
      ∧ ((0 : Fin 4).val < at8 [(12, 1), (13, 64)] 12 ∧ 63 < at8 [(12, 1), (13, 64)] (13 + 4 * (0 : Fin 4).val)
        ∧ (3 : Fin 4).val < at8 [(12, 4), (27, 4)] 12 ∧ 3 < at8 [(12, 4), (27, 4)] (15 + 4 * (3 : Fin 4).val))
      ∧ ((at8 [(29, 1), (30, 4)] 29).testBit 0 = true ∧ 3 < at8 [(29, 1), (30, 4)] 30
        ∧ (at8 [(29, 1), (31, 63)] 29).testBit 0 = true ∧ 62 < at8 [(29, 1), (31, 63)] 31
        ∧ (at8 [(0, 8)] 0).testBit 3 = true ∧ (at8 [(0, 8)] 29).testBit 0 = false) := by decide +kernel

/-- An image whose fields stand at their greatest values. -/
def greatest : List Byte :=
  imageWith [(0, 31), (1, 127), (2, 42), (3, 31), (4, 255), (5, 255), (6, 255), (7, 31), (8, 255), (9, 255), (10, 255),
    (11, 64), (12, 4), (13, 63), (15, 3), (17, 63), (19, 3), (21, 63), (23, 3), (25, 63), (27, 3), (29, 7), (30, 3),
    (31, 62), (40, 127)]

/-- It is refused for no reason. -/
theorem witness_RuleRequestsChangeTheirRule_greatest :
    let at8 := fun k : Nat => (greatest.getD k 0).toNat
    let at16 := fun k : Nat => 256 * at8 k + at8 (k + 1)
    let at32 := fun k : Nat => 65536 * at16 k + at16 (k + 2)
    let flag := fun k n : Nat => (at8 k).testBit n
    greatest.length = 43 ∧ ¬ (127 < at8 1 ∨ at8 2 % 4 = 3 ∨ at8 2 / 4 % 4 = 3 ∨ at8 2 / 16 % 4 = 3
      ∨ 2 ^ 29 ≤ at32 3 ∨ 2 ^ 29 ≤ at32 7 ∨ 64 < at8 11 ∨ 4 < at8 12
      ∨ (∃ k : Fin 4, k.val < at8 12 ∧ (63 < at8 (13 + 4 * k.val) ∨ 3 < at8 (15 + 4 * k.val)))
      ∨ flag 29 0 = true ∧ (3 < at8 30 ∨ 62 < at8 31) ∨ 127 < at8 40 ∨ flag 0 3 = true ∧ flag 29 0 = false) := by
  decide +kernel

/-- The last rule and the first index beyond it; an image that is refused and one that is accepted. -/
theorem witness_RuleRequestsChangeTheirRule :
    let good := greatest
    let bad := imageWith [(0, 8)]
    (∀ req ∈ [[0x10, 9, 127] ++ good, [0x10, 9, 127] ++ bad, [0x10, 9, 128] ++ good, [0x12, 9, 127, 0], [0x12, 9, 127, 1],
          [0x12, 9, 127, 2], [0x12, 9, 128, 0], [0x13, 9, 127], [0x13, 9, 128]],
        (asked State.reset req).mode ≠ .fallback ∧ (asked State.reset req).turn (req ++ []) [])
      ∧ (good.length = 43 ∧ bad.length = 43)
      ∧ ((127 : Byte).toNat = (127 : RuleIx).val ∧ 127 < (128 : Byte).toNat ∧ 1 < (2 : Byte).toNat) := by
  unfold State.turn
  decide +kernel

theorem witness_ForceDomainActs :
    (∀ x ∈ [DomainState.off, .queued, .powerUp, .on, .releasing, .fault], ∀ a ∈ [(0 : Byte), 1, 2, 3],
        let s := asked ((base .drive .awake).putDomain 15 (dom none x)) [0x22, 9, 15, a]
        s.mode ≠ .fallback ∧ s.turn ([0x22, 9, 15, a] ++ []) [] ∧ s.domains[(15 : DomainIx)].state = x
          ∧ s.domains[(15 : DomainIx)].branch = none ∧ s.faultInputs.getLsbD (15 : DomainIx).val = false
          ∧ s.powerUpCount ≤ 1 ∧ s.inrushLimit = 2 ∧ ∀ j : DomainIx, j ≠ 15 → s.domains[j].state ≠ .queued)
      ∧ (let s := asked { (base .drive .awake).putDomain 15 (dom none .fault) with faultInputs := 0x8000 } [0x22, 9, 15, 2]
        s.turn ([0x22, 9, 15, 2] ++ []) [] ∧ s.domains[(15 : DomainIx)].state = .fault
          ∧ s.faultInputs.getLsbD (15 : DomainIx).val = true)
      ∧ (asked State.reset [0x22, 9, 16, 0]).turn ([0x22, 9, 16, 0] ++ []) []
      ∧ ((15 : Byte).toNat = (15 : DomainIx).val ∧ 15 < (16 : Byte).toNat ∧ 2 < (3 : Byte).toNat) := by
  unfold State.turn
  dsimp only
  refine ⟨?_, ?_, ?_, ?_⟩ <;> decide +kernel

/-- On of an Off or a Releasing domain of a branch, with and without a free place, in Parked and outside it. -/
theorem witness_ForceDomainActs_on :
    (∀ k ∈ [BranchMode.off, .listen, .waking, .awake, .draining, .isolated],
        ∀ s ∈ [asked (awaiting k (dom (some 0) .off)) [0x22, 9, 3, 0],
            asked ((base .parked k).putDomain 3 (dom (some 0) .off)) [0x22, 9, 3, 0]],
          s.turn ([0x22, 9, 3, 0] ++ []) [] ∧ s.mode = .parked ∧ s.domains[(3 : DomainIx)].state = .off
            ∧ s.domains[(3 : DomainIx)].branch = some 0 ∧ s.branches[(0 : Branch)].mode = k ∧ s.faultInputs = 0
            ∧ s.arbiterIdle)
      ∧ ((awaiting .off (dom (some 0) .off)).inrushLimit ≤ (awaiting .off (dom (some 0) .off)).powerUpCount)
      ∧ (let s := asked ((base .drive .awake).putDomain 3 (dom (some 0) .off)) [0x22, 9, 3, 0]
        s.turn ([0x22, 9, 3, 0] ++ []) [] ∧ s.mode = .drive ∧ s.domains[(3 : DomainIx)].branch = some 0
          ∧ s.branches[(0 : Branch)].mode = .awake)
      ∧ (let s := asked (paired .parked .draining .releasing .releasing) [0x22, 9, 3, 0]
        s.turn ([0x22, 9, 3, 0] ++ []) [] ∧ s.domains[(3 : DomainIx)].state = .releasing
          ∧ s.domains[(3 : DomainIx)].branch = some 0 ∧ s.branches[(0 : Branch)].mode = .draining ∧ s.arbiterIdle) := by
  unfold State.turn State.arbiterIdle
  dsimp only
  refine ⟨?_, ?_, ?_, ?_⟩ <;> decide +kernel

/-- Off in Parked of a domain that is its branch's last, of one beside another, and of a Waking branch's. -/
theorem witness_ForceDomainActs_off :
    (∀ s ∈ [paired .parked .awake .on .off, paired .parked .draining .releasing .off,
          paired .parked .waking .powerUp .off, paired .parked .awake .on .on, paired .parked .waking .powerUp .powerUp,
          paired .parked .waking .powerUp .on],
        (asked s [0x22, 9, 3, 1]).turn ([0x22, 9, 3, 1] ++ []) [] ∧ s.mode = .parked
          ∧ s.domains[(3 : DomainIx)].branch = some 0 ∧ s.domains[(3 : DomainIx)].state ≠ .off
          ∧ s.domains[(3 : DomainIx)].state ≠ .fault ∧ ∀ j : DomainIx, j ≠ 3 → s.domains[j].state ≠ .queued)
      ∧ (∀ j : DomainIx, j ≠ 3 → (paired .parked .awake .on .off).domains[j].state.active = false)
      ∧ (paired .parked .awake .on .on).domains[(4 : DomainIx)].state.active = true
      ∧ (paired .parked .waking .powerUp .powerUp).domains[(4 : DomainIx)].state.waiting = true
      ∧ ((paired .parked .waking .powerUp .on).domains[(4 : DomainIx)].state = .on
        ∧ ∀ j : DomainIx, j ≠ 3 → (paired .parked .waking .powerUp .on).domains[j].state.waiting = false) := by
  unfold State.turn
  refine ⟨?_, ?_, ?_, ?_, ?_⟩ <;> decide +kernel

/-- Off of a PowerUp domain whose place another waits for. -/
theorem witness_ForceDomainActs_freeing :
    ∀ x ∈ [(PartMode.drive, BranchMode.awake), (.parked, .waking), (.parked, .awake)],
      let s := asked (crowdedPlaces x.1 x.2) [0x22, 9, 3, 1]
      s.mode ≠ .fallback ∧ s.turn ([0x22, 9, 3, 1] ++ []) [] ∧ s.domains[(3 : DomainIx)].state = .powerUp
        ∧ s.domains[(3 : DomainIx)].branch = some 0 ∧ s.powerUpCount = s.inrushLimit
        ∧ s.faultInputs.getLsbD (9 : DomainIx).val = false ∧ s.firstCandidate 9 := by
  unfold State.turn State.firstCandidate
  decide +kernel

/-- Clear Fault in Parked of a domain of a branch at rest, which follows its domains. -/
theorem witness_ForceDomainActs_cleared :
    let s := asked (paired .parked .listen .fault .off) [0x22, 9, 3, 2]
    s.turn ([0x22, 9, 3, 2] ++ []) [] ∧ s.mode = .parked ∧ s.domains[(3 : DomainIx)].state = .fault
      ∧ s.domains[(3 : DomainIx)].branch = some 0 ∧ s.faultInputs = 0 ∧ s.branches[(0 : Branch)].mode = .listen
      ∧ ¬ ∃ d : DomainIx, s.domains[d].branch = some 0 ∧ s.domains[d].state.active = true := by
  unfold State.turn
  decide +kernel

/-- Each write at its last index and the first beyond it, and Write Domain with a value refused and a branch moved. -/
theorem witness_RecordWritesReplaceWhole :
    let good : List Byte := [15, 6, 0x3F, 0xFF, 1, 0, 1]
    (∀ req ∈ [[0x20, 9] ++ good, [0x20, 9] ++ good.set 0 16, [0x20, 9] ++ good.set 1 7, [0x40, 9] ++ List.replicate 20 0,
          [0x50, 9] ++ (List.replicate 16 0).set 0 7, [0x50, 9] ++ (List.replicate 16 0).set 0 8,
          [0x30, 9] ++ List.replicate 15 0, [0x30, 9] ++ (List.replicate 15 0).set 0 6,
          [0x30, 9] ++ (List.replicate 15 0).set 0 7],
        (asked State.reset req).mode ≠ .fallback ∧ (asked State.reset req).turn (req ++ []) [])
      ∧ (good.length = 7 ∧ (good.getD 0 0).toNat = (15 : DomainIx).val ∧ 15 < ((good.set 0 16).getD 0 0).toNat)
      ∧ (State.reset.domains[(15 : DomainIx)].branch ≠ some 5 ∧ State.reset.domains[(15 : DomainIx)].state ≠ .off
        ∧ State.reset.domains[(15 : DomainIx)].state ≠ .fault ∧ (base .drive .awake).domains[(15 : DomainIx)].state = .off)
      ∧ ((asked (base .drive .awake) ([0x20, 9] ++ good)).turn ([0x20, 9] ++ good ++ []) []) := by
  unfold State.turn
  decide +kernel

/-- The arguments of Write Budget, Write Schedule and Write Port at the least and greatest values that are accepted, and
one step beyond each. -/
theorem witness_RecordWritesReplaceWhole_bounds :
    let set := fun (n : Nat) (l : List (Nat × Byte)) => l.foldl (fun a x => a.set x.1 x.2) (List.replicate n (0 : Byte))
    let at8 := fun (a : List Byte) (k : Nat) => (a.getD k 0).toNat
    let at16 := fun (a : List Byte) (k : Nat) => 256 * at8 a k + at8 a (k + 1)
    let at32 := fun (a : List Byte) (k : Nat) => 65536 * at16 a k + at16 a (k + 2)
    let budget := [(7, (1 : Byte)), (11, 1), (12, 3), (13, 255), (14, 15), (15, 255), (16, 255), (17, 254), (19, 1)]
    let schedule := [(0, (7 : Byte)), (1, 1), (2, 1), (4, 1), (5, 0x51), (6, 0x80), (10, 1), (13, 2)]
    let port := [(0, (6 : Byte)), (1, 1), (2, 64), (4, 96), (6, 1), (7, 1), (8, 63), (9, 1), (10, 1), (12, 1), (13, 1),
      (14, 1)]
    let badBudget := fun a => at32 a 4 < at32 a 8 ∨ 1023 < at16 a 12 ∨ 15 < at8 a 14 ∨ 65534 < at16 a 16 ∨ at16 a 18 = 0
    let badSchedule := fun a => 1 < at8 a 1 ∨ 1 < at8 a 2 ∨ at32 a 3 = 0 ∨ 86400 < at32 a 3 ∨ at32 a 7 = 0
      ∨ 86400 < at32 a 7 ∨ 2 < at8 a 13
    let badPort := fun a => (at8 a 2 ≠ 8 ∧ at8 a 2 ≠ 64 ∨ 96 < at8 a 4 ∨ at16 a 5 = 0 ∨ 1 < at8 a 7 ∨ 127 < at8 a 8
      ∨ (at8 a 8).testBit (at8 a 0) = true) ∨ 1 < at8 a 1 ∨ at8 a 9 = 0 ∨ at8 a 10 = 0 ∨ at16 a 11 = 0 ∨ at8 a 13 = 0
    (¬ badBudget (set 20 budget)
        ∧ ∀ x ∈ [(11, (2 : Byte)), (12, 4), (14, 16), (17, 255), (19, 0)], badBudget (set 20 (budget ++ [x])))
      ∧ (¬ badSchedule (set 16 schedule)
        ∧ ∀ x ∈ [(1, (2 : Byte)), (2, 2), (6, 0x81), (10, 0), (13, 3)], badSchedule (set 16 (schedule ++ [x])))
      ∧ (¬ badPort (set 15 port)
        ∧ ∀ x ∈ [(2, (9 : Byte)), (4, 97), (6, 0), (7, 2), (8, 128), (8, 64), (1, 2), (9, 0), (10, 0), (12, 0), (13, 0)],
          badPort (set 15 (port ++ [x]))) := by
  dsimp only
  refine ⟨?_, ?_, ?_⟩ <;> decide +kernel

/-- From Drive, and repeated: a branch that goes to rest, one at rest, one Isolated, and one Draining with a
Releasing domain alone. -/
theorem witness_ParkStartsParkedPeriod :
    let s := asked (paired .drive .awake .on .powerUp) [0x60, 9]
    let u := asked ((((base .parked .listen).putBranch 0 { BranchState.cold with mode := .draining }).putBranch 5
        { BranchState.cold with mode := .isolated }).putDomain 3 (dom (some 0) .releasing)) [0x60, 9]
    (s.mode ≠ .fallback ∧ s.turn ([0x60, 9] ++ []) [] ∧ (∀ b : Branch, s.branches[b].mode ≠ .draining)
        ∧ (s.branches[(1 : Branch)].mode = .awake ∧ s.branches[(1 : Branch)].mode ≠ s.branches[(1 : Branch)].params.rest.mode
          ∧ ∀ d : DomainIx, s.domains[d].branch ≠ some 1))
      ∧ (u.mode ≠ .fallback ∧ u.turn ([0x60, 9] ++ []) [] ∧ u.branches[(5 : Branch)].mode = .isolated
        ∧ u.branches[(0 : Branch)].mode = .draining
        ∧ (u.domains[(3 : DomainIx)].branch = some 0 ∧ u.domains[(3 : DomainIx)].state = .releasing
          ∧ ∀ d : DomainIx, u.domains[d].state.waiting = false ∧ u.domains[d].state ≠ .on)
        ∧ u.branches[(1 : Branch)].mode = u.branches[(1 : Branch)].params.rest.mode
        ∧ ∀ d : DomainIx, u.domains[d].branch ≠ some 1)
      ∧ (let s := asked lively [0x60, 9]
        s.turn ([0x60, 9] ++ []) [] ∧ s.branches[(0 : Branch)].mode ≠ .draining) := by
  unfold State.turn
  decide +kernel

/-- A repeated Park: one branch drains, D4 is On on another, which is Awake, and D5 waits on a third, at rest. -/
theorem witness_ParkStartsParkedPeriod_beside :
    let s := asked (((((base .parked .listen).putBranch 0 { BranchState.cold with mode := .draining }).putBranch 1
        { BranchState.cold with mode := .awake }).putDomain 3 (dom (some 0) .releasing)).putDomain 4
          (dom (some 1) .on)) [0x60, 9]
    let u := s.putDomain 5 (dom (some 2) .powerUp)
    s.mode ≠ .fallback ∧ s.turn ([0x60, 9] ++ []) [] ∧ s.branches[(0 : Branch)].mode = .draining
      ∧ (∀ d : DomainIx, s.domains[d].branch = some 0 → s.domains[d].state = .releasing)
      ∧ (s.domains[(4 : DomainIx)].branch = some 1 ∧ s.domains[(4 : DomainIx)].state = .on
        ∧ s.branches[(1 : Branch)].mode = .awake ∧ ∀ d : DomainIx, s.domains[d].state.waiting = false)
      ∧ (u.domains[(5 : DomainIx)].branch = some 2 ∧ u.domains[(5 : DomainIx)].state.waiting = true
        ∧ u.branches[(2 : Branch)].mode = .listen) := by
  unfold State.turn
  decide +kernel

theorem witness_DepartWakesEverything :
    (∀ m ∈ [PartMode.unconfigured, .parked, .drive], (asked (base m .listen) [0x61, 9]).mode = m
        ∧ (asked (base m .listen) [0x61, 9]).turn ([0x61, 9] ++ []) [])
      ∧ (∀ x ∈ [DomainState.releasing, .on, .fault, .off, .queued, .powerUp],
        (asked (paired .parked .draining x .off) [0x61, 9]).domains[(3 : DomainIx)].state = x)
      ∧ (let s := asked (paired .parked .isolated .off .off) [0x61, 9]
        s.domains[(3 : DomainIx)].branch = some 0 ∧ s.branches[(0 : Branch)].mode = .isolated ∧ s.faultInputs = 0) := by
  unfold State.turn
  decide +kernel

end Sys2Proof.Tests
end

