-- ==== Sys2Proof/Proofs/RecordAccepts.lean ====
section
/-! The match tests of a rule record (R37 to R43), each as the condition its rule states, and O23 from them. -/

namespace Sys2Proof.Machine

/-- What a comparison operator says of two words, unsigned (R41). -/
def Comparison.relates {w : Nat} (op : Comparison) (x y : BitVec w) : Prop :=
  match op with
  | .eq => x = y
  | .ne => x ≠ y
  | .ge => y ≤ x
  | .le => x ≤ y

theorem Comparison.holds_toNat_iff {w : Nat} (op : Comparison) (x y : BitVec w) :
    op.holds x.toNat y.toNat = true ↔ op.relates x y := by
  cases op <;> simp [Comparison.holds, Comparison.relates, BitVec.toNat_inj, BitVec.le_def]

theorem KindTest.accepts_iff (t : KindTest) (k : IdKind) :
    t.accepts k = true ↔ t = .any ∨ t = .base ∧ k = .base ∨ t = .extended ∧ k = .extended := by
  cases t <;> simp [KindTest.accepts]

theorem FormatTest.accepts_iff (t : FormatTest) (k : Format) :
    t.accepts k = true ↔ t = .any ∨ t = .classic ∧ k = .classic ∨ t = .fd ∧ k = .fd := by
  cases t <;> simp [FormatTest.accepts]

/-- Two words agree under a mask when they agree in every bit the mask sets (R38). -/
theorem masked_eq_iff {w : Nat} (x y mask : BitVec w) :
    x &&& mask = y &&& mask ↔ ∀ n : Fin w, mask.getLsbD n.val = true → x.getLsbD n.val = y.getLsbD n.val := by
  constructor
  · intro h n hn
    have hbit : (x &&& mask).getLsbD n.val = (y &&& mask).getLsbD n.val := by rw [h]
    rwa [BitVec.getLsbD_and, BitVec.getLsbD_and, hn, Bool.and_true, Bool.and_true] at hbit
  · intro h
    refine BitVec.eq_of_getLsbD_eq fun i hi => ?_
    have hbit := h ⟨i, hi⟩
    cases hm : mask.getLsbD i <;> simp_all

theorem LaneTest.holds_iff (t : LaneTest) (payload : List Byte) :
    t.holds payload = true ↔ ∃ x ∈ payload[t.offset]?, t.op.relates (x &&& t.mask) t.operand := by
  unfold LaneTest.holds
  cases payload[t.offset]? with
  | none => simp
  | some x => simp [-BitVec.toNat_and, Comparison.holds_toNat_iff]

/-- The byte before the `++` is the high one. -/
theorem append_bytes_eq_ofNat (x y : Byte) : x ++ y = BitVec.ofNat 16 (256 * x.toNat + y.toNat) := by
  apply BitVec.eq_of_toNat_eq
  have hx := x.isLt
  have hy := y.isLt
  rw [BitVec.toNat_append, ← Nat.shiftLeft_add_eq_or_of_lt hy, Nat.shiftLeft_eq, BitVec.toNat_ofNat]
  omega

/-- The number two bytes of the payload make in the record's byte order (R42). -/
def WordTest.number (t : WordTest) (x y : Byte) : Nat :=
  if t.lowFirst then x.toNat + 256 * y.toNat else 256 * x.toNat + y.toNat

theorem WordTest.wordOf_eq_some_iff (t : WordTest) (payload : List Byte) (w : BitVec 16) :
    t.wordOf payload = some w ↔
      ∃ x ∈ payload[t.offset]?, ∃ y ∈ payload[t.offset + 1]?, BitVec.ofNat 16 (t.number x y) = w := by
  have horder (x y : Byte) : (if t.lowFirst then y ++ x else x ++ y) = BitVec.ofNat 16 (t.number x y) := by
    cases hlow : t.lowFirst <;> simp [WordTest.number, hlow, append_bytes_eq_ofNat, Nat.add_comm]
  unfold WordTest.wordOf
  cases payload[t.offset]? <;> cases payload[t.offset + 1]? <;> simp [← horder]

theorem WordTest.accepts_iff_wordOf (t : WordTest) (payload : List Byte) :
    t.accepts payload = true ↔
      (t.compare = true → ∃ w, t.wordOf payload = some w ∧ t.op.relates (w &&& t.mask) t.operand) := by
  unfold WordTest.accepts WordTest.masked
  cases t.compare with
  | false => simp
  | true => cases t.wordOf payload <;> simp [-BitVec.toNat_and, Comparison.holds_toNat_iff]

theorem WordTest.accepts_iff (t : WordTest) (payload : List Byte) :
    t.accepts payload = true ↔
      (t.compare = true → ∃ x ∈ payload[t.offset]?, ∃ y ∈ payload[t.offset + 1]?,
        t.op.relates (BitVec.ofNat 16 (t.number x y) &&& t.mask) t.operand) := by
  rw [WordTest.accepts_iff_wordOf]
  refine imp_congr_right fun _ => ?_
  constructor
  · rintro ⟨w, hword, hrel⟩
    obtain ⟨x, hx, y, hy, rfl⟩ := (t.wordOf_eq_some_iff payload w).mp hword
    exact ⟨x, hx, y, hy, hrel⟩
  · rintro ⟨x, hx, y, hy, hrel⟩
    exact ⟨_, (t.wordOf_eq_some_iff payload _).mpr ⟨x, hx, y, hy, rfl⟩, hrel⟩

theorem RuleRecord.wordAccepts_iff (r : RuleRecord) (payload : List Byte) :
    r.wordAccepts payload = true ↔ ∀ t ∈ r.word, t.accepts payload = true := by
  unfold RuleRecord.wordAccepts
  cases r.word <;> simp

theorem RuleRecord.accepts_iff (r : RuleRecord) (p : Port) (f : Frame) :
    r.accepts p f = true ↔
      r.ingress.getLsbD p.val = true ∧ r.kind.accepts f.kind = true ∧ f.id &&& r.idMask = r.idValue &&& r.idMask
        ∧ r.format.accepts f.format = true ∧ r.minLength ≤ f.payload.length
        ∧ (∀ t ∈ r.lanes, t.holds f.payload = true) ∧ r.wordAccepts f.payload = true := by
  simp [RuleRecord.accepts, and_assoc]

/-- Settles O23: the conjuncts of `RuleRecord.accepts`, each by the lemma on its test. -/
theorem recordAcceptsByEveryTest : Obligations.RecordAcceptsByEveryTest := by
  intro r p f
  rw [RuleRecord.accepts_iff, KindTest.accepts_iff, masked_eq_iff, FormatTest.accepts_iff,
    RuleRecord.wordAccepts_iff]
  simp only [LaneTest.holds_iff, WordTest.accepts_iff]
  exact Iff.rfl

end Sys2Proof.Machine
end

section
/-! What a request of an assigned command is answered with when its turn has come and every check of R173 passes
(R172 to R174), and O50 and O52 from it. -/

namespace Sys2Proof.Machine

theorem anyMode_iff (m : PartMode) : anyMode m = true ↔ m ≠ .fallback := by
  simp [anyMode]

section
variable {s : State} {req : List Byte} {rest : List (List Byte)}

theorem State.turn.headRequest_eq (h : s.turn req rest) : s.headRequest = some req := by
  obtain ⟨hqueue, hslot, hreset⟩ := h
  simp [State.headRequest, hqueue, hslot, hreset]

theorem State.turn.execute_eq (h : s.turn req rest) {row : Instr} (hrow : rowOf req = row) (nargs : Nat)
    (modes : PartMode → Bool) (act : Action) :
    s.execute row nargs modes act = s.runRequest req nargs modes act := by
  simp [State.execute, h.headRequest_eq, hrow]

theorem State.respond_eq_answered (h : s.requests = req :: rest) (code tag : Byte) (r : Result)
    (data : List Byte) :
    s.respond code tag r data = s.answered rest ([code, tag, byte r.code] ++ data) := by
  simp [State.respond, State.answered, h]

end

section
variable {s t : State} {args data : List Byte} {nargs : Nat} {modes : PartMode → Bool} {act : Action}

theorem State.runRequest_of_accepted (code tag : Byte) (hargs : nargs ≤ args.length)
    (hmode : modes s.mode = true) (hact : act args s = .ok (t, data)) :
    s.runRequest (code :: tag :: args) nargs modes act = t.respond code tag .done data := by
  simp [State.runRequest, hargs, hmode, hact]

/-- A request whose turn has come and that passes every check: its action's state, answered DONE with its action's
data. -/
theorem State.turn.execute_of_accepted {code tag : Byte} {rest : List (List Byte)}
    (h : s.turn (code :: tag :: args) rest) {row : Instr} (hrow : rowOf (code :: tag :: args) = row)
    (hargs : nargs ≤ args.length) (hmode : modes s.mode = true) (hact : act args s = .ok (t, data))
    (hkept : t.requests = s.requests) :
    s.execute row nargs modes act = t.answered rest ([code, tag, 0] ++ data) := by
  rw [h.execute_eq hrow, State.runRequest_of_accepted code tag hargs hmode hact,
    State.respond_eq_answered (hkept.trans h.1)]
  rfl

end

/-- Bits 10 to 15 of the two bytes of a kind set are ignored (R183). -/
theorem kindSetOf_zero (x y : Byte) (more : List Byte) :
    kindSetOf (x :: y :: more) 0 = (x ++ y).setWidth 10 := by
  rw [append_bytes_eq_ofNat]
  apply BitVec.eq_of_toNat_eq
  simp [kindSetOf, arg16, arg8]

theorem exec_readIdentity (s : State) : exec .readIdentity s = execReadIdentity s := rfl

theorem exec_clearConditions (s : State) : exec .clearConditions s = execClearConditions s := rfl

/-- Settles O50: Read Identity takes no arguments, passes in every mode but Fallback, and its action leaves the state
as it is. -/
theorem readIdentityAnswer : Obligations.ReadIdentityAnswer := by
  intro s tag more rest hmode hturn
  have hanswer := hturn.execute_of_accepted (row := .readIdentity) (nargs := 0)
    (act := fun _ s => .ok (s, s.identityData)) rfl (Nat.zero_le _) ((anyMode_iff _).mpr hmode) rfl rfl
  rw [exec_readIdentity, execReadIdentity, hanswer]
  rfl

/-- Settles O52: the data are the flags before the clearing, and the cleared set is that of the two argument bytes. -/
theorem clearConditionsAnswer : Obligations.ClearConditionsAnswer := by
  intro s tag x y more rest hmode hturn
  have haction : actClearConditions (x :: y :: more) s =
      .ok ({ s with flags := s.flags &&& ~~~((x ++ y).setWidth 10) }, be16 s.flags.toNat) := by
    rw [actClearConditions, kindSetOf_zero]
  have hargs : 2 ≤ (x :: y :: more).length := by simp
  have hanswer := hturn.execute_of_accepted (row := .clearConditions) rfl hargs ((anyMode_iff _).mpr hmode) haction rfl
  rw [exec_clearConditions, execClearConditions, hanswer]

end Sys2Proof.Machine
end

section
/-! What one command can do, said once: `Effect` lists the outcomes of every command by the named operation that makes
the next state, and `exec_effect` and `step_effect` are the inversions from which the invariants follow. -/

namespace Sys2Proof.Machine

/-! ## Requests -/

/-- What the action of an accepted request makes of the state, with the checks that its row has made. -/
inductive Acted (s : State) : Instr → State → Prop where
  | same {c : Instr} : Acted s c s
  | overrunRead : Acted s .readStatus { s with requestOverrun := false }
  | flagsCleared (x : KindSet) : Acted s .clearConditions { s with flags := x }
  | masksSet (x y : KindSet) : Acted s .setReportMasks { s with reportMask := x, urgentMask := y }
  | resetAwaited : Acted s .warmReset { s with warmResetPending := true }
  | ruleWritten (r : RuleIx) (a : List Byte) (x : RuleRecord) (hx : ruleOf a = some x) :
      Acted s .writeRule (s.putRule r x)
  | enableSet (r : RuleIx) (on : Bool) : Acted s .setRuleEnable (s.setEnable r on)
  | quarantineReleased (r : RuleIx) :
      Acted s .releaseQuarantine (s.modRule r fun x => { x with suspect := none, quarantine := none })
  | monitorWritten (a : List Byte) (hx : arg16 a 0 ≠ 0) (hy : arg16 a 2 ≠ 0) :
      Acted s .writeMonitor { s with suspectWindow := arg16 a 0, quarantineTime := arg16 a 2 }
  | domainWritten (d : DomainIx) (a : List Byte) (x : DomainParams) (hx : domainOf a = some x)
      (hbranch : s.domains[d].state.active = true → x.branch = s.domains[d].branch) :
      Acted s .writeDomain (s.modDomain d fun y => y.withParams x)
  | forcedOn {c : Instr} (d : DomainIx) (hmode : s.mode ≠ .fallback) : Acted s c (s.wake d .a (s.cappedDefault d) none)
  | forcedOff {c : Instr} (d : DomainIx) : Acted s c (s.switchOff d)
  | faultCleared {c : Instr} (d : DomainIx) (hfault : s.domains[d].state = .fault) :
      Acted s c ((s.modDomain d fun x => { x with state := .off }).followDomain d)
  | limitSet (k : Nat) (hlow : 1 ≤ k) (hhigh : k ≤ 4) (hnone : s.powerUpCount = 0) :
      Acted s .setInrushLimit { s with inrushLimit := k }.runArbiter
  | trunkWritten (a : List Byte) (x : PortParams) (t : Nat) (hx : portParamsOf trunkPort a = some x)
      (ht : silenceOf a = some t) :
      Acted s .writePort { s.modPort trunkPort (fun ps => { ps with params := x }) with silenceTime := t }
  | branchWritten (b : Branch) (a : List Byte) (x : PortParams) (y : BranchParams)
      (hx : portParamsOf (portOf b) a = some x) (hy : branchParamsOf a = some y) :
      Acted s .writePort
        ((s.modPort (portOf b) fun ps => { ps with params := x }).modBranch b fun bs => { bs with params := y })
  | portReleased (b : Branch) (hisolated : s.branches[b].mode = .isolated) :
      Acted s .releasePort (s.leaveIsolated b)
  | budgetWritten (a : List Byte) (x : Budget) (hx : budgetOf a = some x) :
      Acted s .writeBudget { s with budget := x }.recompute
  | entryWritten (i : EntryIx) (a : List Byte) (e : ScheduleEntry) (he : scheduleOf a = some e) :
      Acted s .writeSchedule (s.modEntry i fun _ => e)
  | parked (hmode : s.mode ≠ .fallback) : Acted s .park s.parkNow
  | departed (hmode : s.mode = .unconfigured ∨ s.mode = .parked) : Acted s .depart s.departNow

/-! ## Commands -/

/-- What a command can make of the state. -/
inductive Effect (s : State) : Instr → State → Prop where
  | same {c : Instr} : Effect s c s
  | requestDiscarded : Effect s .emptyRequest { s with requests := s.requests.tail }
  | answered {c : Instr} (u : State) (code tag : Byte) (r : Result) (data : List Byte) (h : Acted s c u) :
      Effect s c (u.respond code tag r data)
  | fullReset (straps : Fin 4) : Effect s (.fullReset straps) (s.fullReset straps)
  | resetByInput (straps : Fin 4) : Effect s (.resetInput straps) (s.warmReset straps)
  | resetByRequest (straps : Fin 4) : Effect s (.warmResetTakesPlace straps) (s.warmReset straps)
  | babbled (p : Port) (f : Frame) : Effect s (.frameReception p f) (s.packetBabble p)
  | landed (p : Port) (f : Frame) (hreceives : s.receives p = true)
      (hroom : s.ports[p].landing.length < 2) : Effect s (.frameReception p f) (s.land p f)
  | overran (p : Port) (f : Frame) : Effect s (.frameReception p f) (s.dropAtLanding p)
  | took (p : Port) (f : Frame) (rest : List Frame) (hmode : s.mode ≠ .fallback)
      (hlanding : s.ports[p].landing = f :: rest) : Effect s .classifierTakesFrame (s.take p f rest)
  | dispatched (c : Classification) (hc : s.classification = some c) :
      Effect s .classificationDispatch ({ s with classification := none }.dispatch c)
  | beganTrunk (hidle : s.ports[trunkPort].flight = none) :
      Effect s (.transmissionAttempt trunkPort) s.beginTrunk
  | beganBranch (b : Branch) (hidle : s.ports[portOf b].flight = none) :
      Effect s (.transmissionAttempt (portOf b)) (s.beginBranch b)
  | attemptEnded (p : Port) (f : Flight) (o : AttemptOutcome) (hf : s.ports[p].flight = some f) :
      Effect s (.attemptEnd p o) (s.endAttempt p f o)
  | trunkSilenced : Effect s .silenceTimerExpiry s.trunkSilent
  | fellBack (hmode : s.mode = .unconfigured) : Effect s .configurationDeadlineExpiry s.enterFallback
  | pinSet (d : DomainIx) (level : Bool) : Effect s (.faultInputAsserts d level) (s.setFaultInput d level)
  | faulted (d : DomainIx) (level : Bool) (hpowered : s.domains[d].state.enabled = true) :
      Effect s (.faultInputAsserts d level) ((s.setFaultInput d level).enterFault d)
  | settled (d : DomainIx) (hstate : s.domains[d].state = .powerUp) :
      Effect s (.settleExpiry d) ((s.modDomain d Domain.settled).followDomain d).runArbiter
  | lingered (d : DomainIx) (hmode : s.mode = .parked) (hstate : s.domains[d].state = .on)
      (hcount : s.domains[d].remaining = 0) : Effect s (.lingerExpiry d) ((s.judge d).lingerOut d)
  | drainLimited (b : Branch) (hmode : s.branches[b].mode = .draining) :
      Effect s (.drainLimitExpiry b)
        ((s.modBranch b fun bs => { bs with drainTimer := none, closing := true }).settleDrain b)
  | entryExpired (p : Port) (place : Nat) (e : Entry) (he : s.ports[p].queue[place]? = some (.frame e))
      (hidle : e.sending = false) : Effect s (.deadlineExpiry p place) ((s.dropAt p place).settlePort p)
  | accountReloaded : Effect s .accountingExpiry s.reloadAccounting
  | accounted : Effect s .accountingExpiry s.reloadAccounting.accountNow
  | windowOpened (b : Branch) (hdue : s.branches[b].windowTimer = some 0) :
      Effect s (.chatterWindowExpiry b) (s.modBranch b BranchState.freshWindow)
  | isolationEnded (b : Branch) (hisolated : s.branches[b].mode = .isolated) :
      Effect s (.isolationTimerExpiry b) (s.leaveIsolated b)
  | suspicionEnded (r : RuleIx) :
      Effect s (.suspectTimerExpiry r) (s.modRule r fun x => { x with suspect := none })
  | quarantineEnded (r : RuleIx) :
      Effect s (.quarantineTimerExpiry r) (s.modRule r fun x => { x with quarantine := none })
  | scheduleFired (i : EntryIx) (hmode : s.mode = .parked) :
      Effect s (.scheduleExpiry i) ((s.scheduledWake i).modEntry i ScheduleEntry.fired)
  | secondPassed : Effect s .parkClockAdvance s.secondStep

/-! ## The inversion -/

theorem need_ok_iff {α : Type} {r : Result} {x : Option α} {y : α} : need r x = .ok y ↔ x = some y := by
  cases x <;> simp [need]

theorem need_error_iff {α : Type} {r q : Result} {x : Option α} : need r x = .error q ↔ x = none ∧ r = q := by
  cases x <;> simp [need]

/-- A request that its row executes does what its action does, or changes nothing but queue and slot. -/
theorem State.execute_effect {s : State} {c : Instr} {nargs : Nat} {modes : PartMode → Bool} {act : Action}
    (hact : ∀ a u data, modes s.mode = true → act a s = .ok (u, data) → Acted s c u) :
    Effect s c (s.execute c nargs modes act) := by
  unfold State.execute
  split
  · exact .same
  split
  · unfold State.runRequest
    split
    · exact .same
    · exact .answered s _ _ _ _ (.same)
    split
    · exact .answered s _ _ _ _ (.same)
    split
    · rename_i hmode
      split
      · rename_i hok
        exact .answered _ _ _ _ _ (hact _ _ _ hmode hok)
      · exact .answered s _ _ _ _ (.same)
    · exact .answered s _ _ _ _ (.same)
  · exact .same

theorem branchOf_trunkPort : branchOf trunkPort = none := rfl

@[simp] theorem branchOf_portOf (b : Branch) : branchOf (portOf b) = some b := by
  revert b; decide

theorem branchOf_eq_none_iff (p : Port) : branchOf p = none ↔ p = trunkPort := by
  revert p; decide

theorem branchOf_eq_some_iff (p : Port) (b : Branch) : branchOf p = some b ↔ p = portOf b := by
  revert p b; decide

theorem State.clearFault_ok {s u : State} {d : DomainIx} (h : s.clearFault d = .ok u) :
    u = s ∨ s.domains[d].state = .fault
      ∧ u = (s.modDomain d fun x => { x with state := .off }).followDomain d := by
  unfold State.clearFault at h
  split at h
  · rename_i hfault
    split at h
    · cases h
    · exact .inr ⟨hfault, (Except.ok.inj h).symm⟩
  · exact .inl (Except.ok.inj h).symm

theorem actForceDomain_acted {c : Instr} {s u : State} {a data : List Byte}
    (hmode : s.mode ≠ .fallback) (h : actForceDomain a s = .ok (u, data)) : Acted s c u := by
  simp only [actForceDomain, bind, Except.bind] at h
  split at h
  · cases h
  split at h
  · cases h; exact .forcedOn _ hmode
  · cases h; exact .forcedOff _
  · split at h
    · cases h
    rename_i hclear
    cases h
    rcases State.clearFault_ok hclear with rfl | ⟨hfault, rfl⟩
    · exact .same
    · exact .faultCleared _ hfault
  · cases h

theorem actWritePort_acted {s u : State} {a data : List Byte} (h : actWritePort a s = .ok (u, data)) :
    Acted s .writePort u := by
  simp only [actWritePort, bind, Except.bind] at h
  split at h
  · cases h
  rename_i p hp
  split at h
  · cases h
  rename_i x hx
  rw [need_ok_iff] at hx
  split at h
  · rename_i htrunk
    obtain rfl := (branchOf_eq_none_iff p).1 htrunk
    split at h
    · cases h
    rename_i t ht
    cases h
    exact .trunkWritten a x t hx (need_ok_iff.1 ht)
  · rename_i b hb
    obtain rfl := (branchOf_eq_some_iff p b).1 hb
    split at h
    · cases h
    rename_i y hy
    cases h
    exact .branchWritten b a x y hx (need_ok_iff.1 hy)

theorem actWriteDomain_acted {s u : State} {a data : List Byte} (h : actWriteDomain a s = .ok (u, data)) :
    Acted s .writeDomain u := by
  simp only [actWriteDomain, bind, Except.bind] at h
  split at h
  · cases h
  split at h
  · cases h
  rename_i x hx
  split at h
  · cases h
  rename_i hbranch
  cases h
  exact .domainWritten _ a x (need_ok_iff.1 hx) fun hactive => by
    by_contra hne
    exact hbranch ⟨hne, hactive⟩

theorem execFullReset_effect {straps : Fin 4} {s t : State} (h : execFullReset straps s = .next t) : Effect s (.fullReset straps) t := by
  simp only [execFullReset, Host.Outcome.next.injEq] at h
  subst h
  exact .fullReset straps

theorem execResetInput_effect {straps : Fin 4} {s t : State} (h : execResetInput straps s = .next t) : Effect s (.resetInput straps) t := by
  simp only [execResetInput, Host.Outcome.next.injEq] at h
  subst h
  exact .resetByInput straps

theorem execWarmResetTakesPlace_effect {straps : Fin 4} {s t : State} (h : execWarmResetTakesPlace straps s = .next t) : Effect s (.warmResetTakesPlace straps) t := by
  unfold execWarmResetTakesPlace at h
  split at h
  · cases h; exact .resetByRequest straps
  · cases h; exact .same

theorem execFrameReception_effect {p : Port} {f : Frame} {s t : State} (h : execFrameReception p f s = .next t) : Effect s (.frameReception p f) t := by
  unfold execFrameReception at h
  split at h
  · split at h
    · rename_i hreceives
      cases h
      unfold State.receive
      split
      · exact .babbled p f
      split
      · rename_i hroom
        exact .landed p f hreceives hroom
      · exact .overran p f
    · cases h; exact .same
  · cases h

theorem execRemoteFrame_effect {p : Port} {s t : State} (h : execRemoteFrame p s = .next t) : Effect s (.remoteFrame p) t := by
  simp only [execRemoteFrame, Host.Outcome.next.injEq] at h
  subst h
  exact .same

theorem execClassifierTakesFrame_effect {s t : State} (h : execClassifierTakesFrame s = .next t) : Effect s .classifierTakesFrame t := by
  unfold execClassifierTakesFrame at h
  split at h
  · cases h; exact .same
  rename_i hfree
  split at h
  · cases h; exact .same
  split at h
  · cases h; exact .same
  rename_i hlanding
  cases h
  exact .took _ _ _ (fun e => hfree (.inr e)) hlanding

theorem execClassificationDispatch_effect {s t : State} (h : execClassificationDispatch s = .next t) : Effect s .classificationDispatch t := by
  unfold execClassificationDispatch at h
  split at h
  · cases h; exact .same
  rename_i c hc
  cases h
  exact .dispatched c hc

theorem execTransmissionAttempt_effect {p : Port} {s t : State} (h : execTransmissionAttempt p s = .next t) : Effect s (.transmissionAttempt p) t := by
  unfold execTransmissionAttempt at h
  split at h
  · cases h; exact .same
  rename_i hidle
  have hnone : s.ports[p].flight = none := by simpa using hidle
  split at h
  · rename_i htrunk
    obtain rfl := (branchOf_eq_none_iff p).1 htrunk
    cases h
    exact .beganTrunk hnone
  · rename_i b hb
    obtain rfl := (branchOf_eq_some_iff p b).1 hb
    cases h
    exact .beganBranch b hnone

theorem execAttemptEnd_effect {p : Port} {o : AttemptOutcome} {s t : State} (h : execAttemptEnd p o s = .next t) : Effect s (.attemptEnd p o) t := by
  unfold execAttemptEnd at h
  split at h
  · cases h; exact .same
  rename_i f hf
  cases h
  exact .attemptEnded p f o hf

theorem execSilenceTimerExpiry_effect {s t : State} (h : execSilenceTimerExpiry s = .next t) : Effect s .silenceTimerExpiry t := by
  simp only [execSilenceTimerExpiry, Host.Outcome.next.injEq] at h
  subst h
  split
  · exact .trunkSilenced
  · exact .same

theorem execConfigurationDeadlineExpiry_effect {s t : State} (h : execConfigurationDeadlineExpiry s = .next t) : Effect s .configurationDeadlineExpiry t := by
  simp only [execConfigurationDeadlineExpiry, Host.Outcome.next.injEq] at h
  subst h
  split
  · rename_i hdue
    exact .fellBack ((State.deadlineDue_iff s).1 hdue).1
  · exact .same

theorem execFaultInputAsserts_effect {d : DomainIx} {level : Bool} {s t : State} (h : execFaultInputAsserts d level s = .next t) : Effect s (.faultInputAsserts d level) t := by
  unfold execFaultInputAsserts at h
  split at h
  · rename_i hacts
    cases h
    exact .faulted d level (by simp only [Bool.and_eq_true] at hacts; exact hacts.2)
  · cases h; exact .pinSet d level

theorem execSettleExpiry_effect {d : DomainIx} {s t : State} (h : execSettleExpiry d s = .next t) : Effect s (.settleExpiry d) t := by
  simp only [execSettleExpiry, Host.Outcome.next.injEq] at h
  subst h
  split
  · rename_i hdue
    exact .settled d ((State.settleDue_iff s d).1 hdue).1
  · exact .same

theorem execLingerExpiry_effect {d : DomainIx} {s t : State} (h : execLingerExpiry d s = .next t) : Effect s (.lingerExpiry d) t := by
  simp only [execLingerExpiry, Host.Outcome.next.injEq] at h
  subst h
  split
  · rename_i hdue
    obtain ⟨⟨hmode, hstate⟩, hcount⟩ := (State.lingerDue_iff s d).1 hdue
    exact .lingered d hmode hstate hcount
  · exact .same

theorem execDrainLimitExpiry_effect {b : Branch} {s t : State} (h : execDrainLimitExpiry b s = .next t) : Effect s (.drainLimitExpiry b) t := by
  simp only [execDrainLimitExpiry, Host.Outcome.next.injEq] at h
  subst h
  split
  · rename_i hdue
    exact .drainLimited b ((State.drainDue_iff s b).1 hdue).1
  · exact .same

theorem execDeadlineExpiry_effect {p : Port} {place : Nat} {s t : State} (h : execDeadlineExpiry p place s = .next t) : Effect s (.deadlineExpiry p place) t := by
  simp only [execDeadlineExpiry, Host.Outcome.next.injEq] at h
  subst h
  split
  · rename_i hdue
    rcases hitem : s.ports[p].queue[place]? with _ | e | _ <;> simp [hitem, -Fin.getElem_fin] at hdue
    exact .entryExpired p place e hitem hdue.2
  · exact .same

theorem execAccountingExpiry_effect {s t : State} (h : execAccountingExpiry s = .next t) : Effect s .accountingExpiry t := by
  simp only [execAccountingExpiry, Host.Outcome.next.injEq] at h
  subst h
  split
  · split
    · exact .accountReloaded
    · exact .accounted
  · exact .same

theorem execChatterWindowExpiry_effect {b : Branch} {s t : State} (h : execChatterWindowExpiry b s = .next t) : Effect s (.chatterWindowExpiry b) t := by
  simp only [execChatterWindowExpiry, Host.Outcome.next.injEq] at h
  subst h
  split
  · rename_i hdue
    exact .windowOpened b ((State.windowDue_iff s b).1 hdue)
  · exact .same

theorem execIsolationTimerExpiry_effect {b : Branch} {s t : State} (h : execIsolationTimerExpiry b s = .next t) : Effect s (.isolationTimerExpiry b) t := by
  simp only [execIsolationTimerExpiry, Host.Outcome.next.injEq] at h
  subst h
  split
  · rename_i hdue
    exact .isolationEnded b ((State.isolationDue_iff s b).1 hdue).1
  · exact .same

theorem execSuspectTimerExpiry_effect {r : RuleIx} {s t : State} (h : execSuspectTimerExpiry r s = .next t) : Effect s (.suspectTimerExpiry r) t := by
  simp only [execSuspectTimerExpiry, Host.Outcome.next.injEq] at h
  subst h
  split
  · exact .suspicionEnded r
  · exact .same

theorem execQuarantineTimerExpiry_effect {r : RuleIx} {s t : State} (h : execQuarantineTimerExpiry r s = .next t) : Effect s (.quarantineTimerExpiry r) t := by
  simp only [execQuarantineTimerExpiry, Host.Outcome.next.injEq] at h
  subst h
  split
  · exact .quarantineEnded r
  · exact .same

theorem execScheduleExpiry_effect {i : EntryIx} {s t : State} (h : execScheduleExpiry i s = .next t) : Effect s (.scheduleExpiry i) t := by
  simp only [execScheduleExpiry, Host.Outcome.next.injEq] at h
  subst h
  split
  · rename_i hdue
    exact .scheduleFired i ((State.scheduleDue_iff s i).1 hdue).1.1
  · exact .same

theorem execEmptyRequest_effect {s t : State} (h : execEmptyRequest s = .next t) : Effect s .emptyRequest t := by
  unfold execEmptyRequest at h
  split at h
  · cases h; exact .requestDiscarded
  · cases h; exact .same

theorem execUnknownCommand_effect {s t : State} (h : execUnknownCommand s = .next t) : Effect s .unknownCommand t := by
  unfold execUnknownCommand at h
  split at h
  · cases h; exact .same
  split at h
  · cases h
    unfold State.answerUnknown
    split
    · exact .same
    all_goals exact .answered s _ _ _ _ (.same)
  · cases h; exact .same

theorem execReadIdentity_effect {s t : State} (h : execReadIdentity s = .next t) : Effect s .readIdentity t := by
  simp only [execReadIdentity, Host.Outcome.next.injEq] at h
  subst h
  exact State.execute_effect fun a u data _ h => by cases h; exact .same

theorem execReadStatus_effect {s t : State} (h : execReadStatus s = .next t) : Effect s .readStatus t := by
  simp only [execReadStatus, Host.Outcome.next.injEq] at h
  subst h
  refine State.execute_effect fun a u data _ h => ?_
  simp only [actReadStatus, bind, Except.bind] at h
  split at h
  · cases h
  · cases h; exact .overrunRead

theorem execClearConditions_effect {s t : State} (h : execClearConditions s = .next t) : Effect s .clearConditions t := by
  simp only [execClearConditions, Host.Outcome.next.injEq] at h
  subst h
  exact State.execute_effect fun a u data _ h => by cases h; exact .flagsCleared _

theorem execSetReportMasks_effect {s t : State} (h : execSetReportMasks s = .next t) : Effect s .setReportMasks t := by
  simp only [execSetReportMasks, Host.Outcome.next.injEq] at h
  subst h
  exact State.execute_effect fun a u data _ h => by cases h; exact .masksSet _ _

theorem execWarmReset_effect {s t : State} (h : execWarmReset s = .next t) : Effect s .warmReset t := by
  simp only [execWarmReset, Host.Outcome.next.injEq] at h
  subst h
  exact State.execute_effect fun a u data _ h => by cases h; exact .resetAwaited

theorem execWriteRule_effect {s t : State} (h : execWriteRule s = .next t) : Effect s .writeRule t := by
  simp only [execWriteRule, Host.Outcome.next.injEq] at h
  subst h
  refine State.execute_effect fun a u data _ h => ?_
  simp only [actWriteRule, bind, Except.bind] at h
  split at h
  · cases h
  split at h
  · cases h
  rename_i hx
  cases h
  exact .ruleWritten _ _ _ (need_ok_iff.1 hx)

theorem execReadRule_effect {s t : State} (h : execReadRule s = .next t) : Effect s .readRule t := by
  simp only [execReadRule, Host.Outcome.next.injEq] at h
  subst h
  refine State.execute_effect fun a u data _ h => ?_
  simp only [actReadRule, bind, Except.bind] at h
  split at h
  · cases h
  · cases h; exact .same

theorem execSetRuleEnable_effect {s t : State} (h : execSetRuleEnable s = .next t) : Effect s .setRuleEnable t := by
  simp only [execSetRuleEnable, Host.Outcome.next.injEq] at h
  subst h
  refine State.execute_effect fun a u data _ h => ?_
  simp only [actSetRuleEnable, bind, Except.bind] at h
  split at h
  · cases h
  split at h
  · cases h
  · cases h; exact .enableSet _ _

theorem execReleaseQuarantine_effect {s t : State} (h : execReleaseQuarantine s = .next t) : Effect s .releaseQuarantine t := by
  simp only [execReleaseQuarantine, Host.Outcome.next.injEq] at h
  subst h
  refine State.execute_effect fun a u data _ h => ?_
  simp only [actReleaseQuarantine, bind, Except.bind] at h
  split at h
  · cases h
  · cases h; exact .quarantineReleased _

theorem execWriteMonitor_effect {s t : State} (h : execWriteMonitor s = .next t) : Effect s .writeMonitor t := by
  simp only [execWriteMonitor, Host.Outcome.next.injEq] at h
  subst h
  refine State.execute_effect fun a u data _ h => ?_
  simp only [actWriteMonitor] at h
  split at h
  · cases h
  rename_i hzero
  cases h
  rw [not_or] at hzero
  exact .monitorWritten a hzero.1 hzero.2

theorem execWriteDomain_effect {s t : State} (h : execWriteDomain s = .next t) : Effect s .writeDomain t := by
  simp only [execWriteDomain, Host.Outcome.next.injEq] at h
  subst h
  exact State.execute_effect fun a u data _ h => actWriteDomain_acted h

theorem execReadDomain_effect {s t : State} (h : execReadDomain s = .next t) : Effect s .readDomain t := by
  simp only [execReadDomain, Host.Outcome.next.injEq] at h
  subst h
  refine State.execute_effect fun a u data _ h => ?_
  simp only [actReadDomain, bind, Except.bind] at h
  split at h
  · cases h
  · cases h; exact .same

theorem execForceDomainOn_effect {s t : State} (h : execForceDomainOn s = .next t) : Effect s .forceDomainOn t := by
  simp only [execForceDomainOn, Host.Outcome.next.injEq] at h
  subst h
  exact State.execute_effect fun a u data hmode h => actForceDomain_acted ((anyMode_iff _).1 hmode) h

theorem execForceDomainOff_effect {s t : State} (h : execForceDomainOff s = .next t) : Effect s .forceDomainOff t := by
  simp only [execForceDomainOff, Host.Outcome.next.injEq] at h
  subst h
  exact State.execute_effect fun a u data hmode h => actForceDomain_acted ((anyMode_iff _).1 hmode) h

theorem execClearFault_effect {s t : State} (h : execClearFault s = .next t) : Effect s .clearFault t := by
  simp only [execClearFault, Host.Outcome.next.injEq] at h
  subst h
  exact State.execute_effect fun a u data hmode h => actForceDomain_acted ((anyMode_iff _).1 hmode) h

theorem execSetInrushLimit_effect {s t : State} (h : execSetInrushLimit s = .next t) : Effect s .setInrushLimit t := by
  simp only [execSetInrushLimit, Host.Outcome.next.injEq] at h
  subst h
  refine State.execute_effect fun a u data _ h => ?_
  simp only [actSetInrushLimit] at h
  split at h
  · cases h
  rename_i hrange
  split at h
  · cases h
  rename_i hnone
  cases h
  exact .limitSet _ (by omega) (by omega) (by omega)

theorem execWritePort_effect {s t : State} (h : execWritePort s = .next t) : Effect s .writePort t := by
  simp only [execWritePort, Host.Outcome.next.injEq] at h
  subst h
  exact State.execute_effect fun a u data _ h => actWritePort_acted h

theorem execReadPort_effect {s t : State} (h : execReadPort s = .next t) : Effect s .readPort t := by
  simp only [execReadPort, Host.Outcome.next.injEq] at h
  subst h
  refine State.execute_effect fun a u data _ h => ?_
  simp only [actReadPort, bind, Except.bind] at h
  split at h
  · cases h
  · cases h; exact .same

theorem execReleasePort_effect {s t : State} (h : execReleasePort s = .next t) : Effect s .releasePort t := by
  simp only [execReleasePort, Host.Outcome.next.injEq] at h
  subst h
  refine State.execute_effect fun a u data _ h => ?_
  simp only [actReleasePort, bind, Except.bind] at h
  split at h
  · cases h
  split at h
  · cases h
  split at h
  · rename_i hisolated
    cases h
    exact .portReleased _ hisolated
  · cases h

theorem execWriteBudget_effect {s t : State} (h : execWriteBudget s = .next t) : Effect s .writeBudget t := by
  simp only [execWriteBudget, Host.Outcome.next.injEq] at h
  subst h
  refine State.execute_effect fun a u data _ h => ?_
  simp only [actWriteBudget, bind, Except.bind] at h
  split at h
  · cases h
  rename_i hx
  cases h
  exact .budgetWritten a _ (need_ok_iff.1 hx)

theorem execWriteSchedule_effect {s t : State} (h : execWriteSchedule s = .next t) : Effect s .writeSchedule t := by
  simp only [execWriteSchedule, Host.Outcome.next.injEq] at h
  subst h
  refine State.execute_effect fun a u data _ h => ?_
  simp only [actWriteSchedule, bind, Except.bind] at h
  split at h
  · cases h
  split at h
  · cases h
  rename_i he
  cases h
  exact .entryWritten _ a _ (need_ok_iff.1 he)

theorem execReadSchedule_effect {s t : State} (h : execReadSchedule s = .next t) : Effect s .readSchedule t := by
  simp only [execReadSchedule, Host.Outcome.next.injEq] at h
  subst h
  refine State.execute_effect fun a u data _ h => ?_
  simp only [actReadSchedule, bind, Except.bind] at h
  split at h
  · cases h
  · cases h; exact .same

theorem execPark_effect {s t : State} (h : execPark s = .next t) : Effect s .park t := by
  simp only [execPark, Host.Outcome.next.injEq] at h
  subst h
  refine State.execute_effect fun a u data hmode h => ?_
  simp only [Except.ok.injEq, Prod.mk.injEq] at h
  obtain ⟨rfl, -⟩ := h
  exact .parked ((anyMode_iff _).1 hmode)

theorem execDepart_effect {s t : State} (h : execDepart s = .next t) : Effect s .depart t := by
  simp only [execDepart, Host.Outcome.next.injEq] at h
  subst h
  refine State.execute_effect fun a u data hmode h => ?_
  simp only [Except.ok.injEq, Prod.mk.injEq] at h
  obtain ⟨rfl, -⟩ := h
  exact .departed (by simpa [departModes] using hmode)

theorem execParkClockAdvance_effect {s t : State} (h : execParkClockAdvance s = .next t) : Effect s .parkClockAdvance t := by
  simp only [execParkClockAdvance, Host.Outcome.next.injEq] at h
  subst h
  exact .secondPassed

/-- What a command makes of the state is one of the listed effects. -/
theorem exec_effect {c : Instr} {s t : State} (h : exec c s = .next t) : Effect s c t := by
  cases c with
  | fullReset _ => exact execFullReset_effect h
  | resetInput _ => exact execResetInput_effect h
  | warmResetTakesPlace _ => exact execWarmResetTakesPlace_effect h
  | frameReception _ _ => exact execFrameReception_effect h
  | remoteFrame _ => exact execRemoteFrame_effect h
  | classifierTakesFrame => exact execClassifierTakesFrame_effect h
  | classificationDispatch => exact execClassificationDispatch_effect h
  | transmissionAttempt _ => exact execTransmissionAttempt_effect h
  | attemptEnd _ _ => exact execAttemptEnd_effect h
  | silenceTimerExpiry => exact execSilenceTimerExpiry_effect h
  | configurationDeadlineExpiry => exact execConfigurationDeadlineExpiry_effect h
  | faultInputAsserts _ _ => exact execFaultInputAsserts_effect h
  | settleExpiry _ => exact execSettleExpiry_effect h
  | lingerExpiry _ => exact execLingerExpiry_effect h
  | drainLimitExpiry _ => exact execDrainLimitExpiry_effect h
  | deadlineExpiry _ _ => exact execDeadlineExpiry_effect h
  | accountingExpiry => exact execAccountingExpiry_effect h
  | chatterWindowExpiry _ => exact execChatterWindowExpiry_effect h
  | isolationTimerExpiry _ => exact execIsolationTimerExpiry_effect h
  | suspectTimerExpiry _ => exact execSuspectTimerExpiry_effect h
  | quarantineTimerExpiry _ => exact execQuarantineTimerExpiry_effect h
  | scheduleExpiry _ => exact execScheduleExpiry_effect h
  | emptyRequest => exact execEmptyRequest_effect h
  | unknownCommand => exact execUnknownCommand_effect h
  | readIdentity => exact execReadIdentity_effect h
  | readStatus => exact execReadStatus_effect h
  | clearConditions => exact execClearConditions_effect h
  | setReportMasks => exact execSetReportMasks_effect h
  | warmReset => exact execWarmReset_effect h
  | writeRule => exact execWriteRule_effect h
  | readRule => exact execReadRule_effect h
  | setRuleEnable => exact execSetRuleEnable_effect h
  | releaseQuarantine => exact execReleaseQuarantine_effect h
  | writeMonitor => exact execWriteMonitor_effect h
  | writeDomain => exact execWriteDomain_effect h
  | readDomain => exact execReadDomain_effect h
  | forceDomainOn => exact execForceDomainOn_effect h
  | forceDomainOff => exact execForceDomainOff_effect h
  | clearFault => exact execClearFault_effect h
  | setInrushLimit => exact execSetInrushLimit_effect h
  | writePort => exact execWritePort_effect h
  | readPort => exact execReadPort_effect h
  | releasePort => exact execReleasePort_effect h
  | writeBudget => exact execWriteBudget_effect h
  | writeSchedule => exact execWriteSchedule_effect h
  | readSchedule => exact execReadSchedule_effect h
  | park => exact execPark_effect h
  | depart => exact execDepart_effect h
  | parkClockAdvance => exact execParkClockAdvance_effect h

/-- A step is a command's effect, with the command queue perhaps shortened, or a millisecond of the time base. -/
theorem step_effect {s t : State} (h : step s = .next t) :
    (∃ c rest, Effect { s with pending := rest } c t) ∨ t = s.advance := by
  unfold step at h
  split at h
  · exact .inl ⟨_, _, exec_effect h⟩
  split at h
  · exact .inl ⟨_, s.pending, exec_effect h⟩
  · cases h; exact .inr rfl

/-- A law that does not read the command queue, and that every command and every millisecond keeps, is kept by every
step. -/
theorem step_keeps {P : State → Prop} (hqueue : ∀ s rest, P s → P { s with pending := rest })
    (hexec : ∀ c s t, P s → Effect s c t → P t) (hadvance : ∀ s, P s → P s.advance) {s t : State} (hs : P s)
    (h : step s = .next t) : P t := by
  rcases step_effect h with ⟨c, rest, he⟩ | rfl
  · exact hexec c _ t (hqueue s rest hs) he
  · exact hadvance s hs

end Sys2Proof.Machine
end

section
/-! The ranges of the parameters that the requests' arguments decode to (section 11.4). -/

namespace Sys2Proof.Machine

theorem arg8_le (a : List Byte) (i : Nat) : arg8 a i ≤ 255 := Nat.le_of_lt_succ (a.getD i 0).isLt

theorem arg16_le (a : List Byte) (i : Nat) : arg16 a i ≤ 65535 := by
  have h1 := arg8_le a i
  have h2 := arg8_le a (i + 1)
  unfold arg16
  omega

theorem arg32_le (a : List Byte) (i : Nat) : arg32 a i ≤ 4294967295 := by
  have h1 := arg16_le a i
  have h2 := arg16_le a (i + 2)
  unfold arg32
  omega

@[simp] theorem check_eq_some_iff (b : Bool) (u : Unit) : check b = some u ↔ b = true := by
  cases b <;> simp [check]

theorem budgetOf_inRange {a : List Byte} {x : Budget} (h : budgetOf a = some x) : x.inRange := by
  simp only [budgetOf, bind, Option.bind_eq_some_iff, check_eq_some_iff, decide_eq_true_eq, pure,
    Option.some.injEq] at h
  obtain ⟨-, hbase, -, hshift, -, hvcrit, -, hlcap, -, hthresholds, rfl⟩ := h
  exact ⟨arg32_le a 0, arg32_le a 4, hthresholds, hbase, hshift, arg8_le a 15, hvcrit, hlcap, arg16_le a 18⟩

theorem scheduleOf_inRange {a : List Byte} {e : ScheduleEntry} (h : scheduleOf a = some e) : e.inRange := by
  simp only [scheduleOf, bind, Option.bind_eq_some_iff, check_eq_some_iff, Bool.and_eq_true, decide_eq_true_eq, pure,
    Option.some.injEq] at h
  obtain ⟨_, -, _, -, -, hfirst, -, hperiod, _, -, rfl⟩ := h
  exact ⟨hfirst, hperiod, arg16_le a 14, hfirst.2⟩

theorem domainOf_inRange {a : List Byte} {x : DomainParams} (h : domainOf a = some x) (d : Domain) :
    (d.withParams x).inRange := by
  simp only [domainOf, bind, Option.bind_eq_some_iff, check_eq_some_iff, decide_eq_true_eq, pure,
    Option.some.injEq] at h
  obtain ⟨_, -, -, hia, -, hsettle, -, hlinger, rfl⟩ := h
  exact ⟨hia, ⟨hsettle, arg8_le a 4⟩, hlinger, arg16_le a 5⟩

theorem portParamsOf_inRange {a : List Byte} {p : Port} {x : PortParams} (h : portParamsOf p a = some x) :
    x.inRange p := by
  simp only [portParamsOf, bind, Option.bind_eq_some_iff, check_eq_some_iff, decide_eq_true_eq, pure,
    Option.some.injEq, Bool.or_eq_true, beq_iff_eq, Bool.not_eq_true'] at h
  obtain ⟨-, hpayload, -, hcap, -, hage, _, -, _, -, -, hself, rfl⟩ := h
  exact ⟨hpayload, hcap, hage, arg16_le a 5, hself⟩

theorem branchParamsOf_inRange {a : List Byte} {y : BranchParams} (h : branchParamsOf a = some y) : y.inRange := by
  simp only [branchParamsOf, bind, Option.bind_eq_some_iff, check_eq_some_iff, decide_eq_true_eq, pure,
    Option.some.injEq] at h
  obtain ⟨_, -, -, hlimit, -, hwindow, -, htime, -, hdrain, rfl⟩ := h
  exact ⟨arg8_le a 3, ⟨hlimit, arg8_le a 9⟩, ⟨hwindow, arg8_le a 10⟩, ⟨htime, arg16_le a 11⟩, hdrain, arg8_le a 13⟩

theorem silenceOf_inRange {a : List Byte} {t : Nat} (h : silenceOf a = some t) : 1 ≤ t ∧ t ≤ 255 := by
  simp only [silenceOf, bind, Option.bind_eq_some_iff, check_eq_some_iff, decide_eq_true_eq, pure,
    Option.some.injEq] at h
  obtain ⟨-, htime, rfl⟩ := h
  exact ⟨htime, arg8_le a 14⟩

theorem laneOf_offset_le {a : List Byte} {i : Nat} {t : LaneTest} (h : laneOf a i = some t) : t.offset ≤ 63 := by
  simp only [laneOf, bind, Option.bind_eq_some_iff, check_eq_some_iff, decide_eq_true_eq, pure,
    Option.some.injEq] at h
  obtain ⟨-, hoffset, _, -, rfl⟩ := h
  exact hoffset

theorem lanesOf_inRange {a : List Byte} {n : Nat} : ∀ {i : Nat} {l : List LaneTest}, lanesOf a n i = some l →
    l.length = n ∧ ∀ t ∈ l, t.offset ≤ 63 := by
  induction n with
  | zero =>
    intro i l h
    obtain rfl : [] = l := Option.some.inj h
    simp
  | succ n ih =>
    intro i l h
    simp only [lanesOf, bind, Option.bind_eq_some_iff, pure, Option.some.injEq] at h
    obtain ⟨t, ht, rest, hrest, rfl⟩ := h
    obtain ⟨hlength, hoffsets⟩ := ih hrest
    refine ⟨by simp [hlength], fun u hu => ?_⟩
    rcases List.mem_cons.1 hu with rfl | hu
    · exact laneOf_offset_le ht
    · exact hoffsets u hu

theorem wordTestOf_offset_le {a : List Byte} {w : Option WordTest} (h : wordTestOf a = some w) :
    ∀ t ∈ w, t.offset ≤ 62 := by
  unfold wordTestOf at h
  split at h
  · simp only [bind, Option.bind_eq_some_iff, check_eq_some_iff, decide_eq_true_eq, pure, Option.some.injEq] at h
    obtain ⟨_, -, -, hoffset, rfl⟩ := h
    rintro t ⟨⟩
    exact hoffset
  · obtain rfl : none = w := Option.some.inj h
    simp

theorem ruleOf_inRange {a : List Byte} {x : RuleRecord} (h : ruleOf a = some x) : x.inRange := by
  simp only [ruleOf, bind, Option.bind_eq_some_iff, check_eq_some_iff, decide_eq_true_eq, pure, Option.some.injEq,
    Bool.or_eq_true, Bool.not_eq_true'] at h
  obtain ⟨_, -, _, -, _, -, _, -, -, -, -, -, -, hlength, -, hcount, lanes, hlanes, word, hword, _, -, -, hbattery,
    rfl⟩ := h
  obtain ⟨hlanesLength, hoffsets⟩ := lanesOf_inRange hlanes
  refine ⟨hlength, hlanesLength.trans_le hcount, hoffsets, wordTestOf_offset_le hword, fun hb => ?_, arg16_le a 41⟩
  exact hbattery.resolve_left fun e => Bool.noConfusion (e.symm.trans hb)

end Sys2Proof.Machine
end

section
/-! What every command leaves of what the body controller has loaded (section 11.2): O1, O3 and O14. `State.loaded`
holds it, with the straps, the park clock, the consumed charge and the command queue; each effect but the writes'
own leaves it as it is. -/

namespace Sys2Proof.Machine

/-! ## The loaded part -/

/-- The parameters that the body controller loads, the straps, the park clock, the consumed charge and the command
queue, everything else blanked. -/
def State.loaded (s : State) : State :=
  { State.cold with
    strapPins := s.strapPins, strap := s.strap, parkClock := s.parkClock, reportMask := s.reportMask
    urgentMask := s.urgentMask, silenceTime := s.silenceTime, ports := s.ports.map PortState.bare
    branches := s.branches.map BranchState.bare
    rules := s.rules.map fun r => { Rule.reset with record := r.record }
    domains := s.domains.map Domain.bare, inrushLimit := s.inrushLimit, budget := s.budget
    account := { Account.reset with consumed := s.account.consumed }, suspectWindow := s.suspectWindow
    quarantineTime := s.quarantineTime, schedule := s.schedule, pending := s.pending }

theorem map_map_same {α : Type} {n : Nat} (v : Vector α n) (f g : α → α) (h : ∀ x, f (g x) = f x) :
    (v.map g).map f = v.map f := by
  ext i hi
  simp [h]

theorem State.held_loaded (s : State) : s.held.loaded = s.loaded := by
  have hports := map_map_same s.ports PortState.bare PortState.bare fun _ => rfl
  have hbranches := map_map_same s.branches BranchState.bare BranchState.bare fun _ => rfl
  have hdomains := map_map_same s.domains Domain.bare Domain.bare fun _ => rfl
  simp only [State.loaded, State.held, hports, hbranches, hdomains]

theorem State.loaded_of_held {s t : State} (h : t.held = s.held) : t.loaded = s.loaded := by
  rw [← State.held_loaded t, h, State.held_loaded]

theorem State.loaded_of_heldByMonitor {s t : State} (h : t.heldByMonitor = s.heldByMonitor) :
    t.loaded = s.loaded := by
  have out : ∀ u : State, u.heldByMonitor.loaded = u.loaded := fun u => by
    have hrules : (u.rules.map Rule.cleared).map (fun r => ({ Rule.reset with record := r.record } : Rule)) =
        u.rules.map fun r => { Rule.reset with record := r.record } := by
      ext i hi
      all_goals simp [Rule.cleared]
    rw [← State.held_loaded u]
    simp only [State.loaded, State.heldByMonitor, hrules]
    rfl
  rw [← out t, h, out]

theorem State.loaded_of_heldByTransmitters {s t : State} (h : t.heldByTransmitters = s.heldByTransmitters) :
    t.loaded = s.loaded := by
  have out : ∀ u : State, u.heldByTransmitters.loaded = u.loaded := fun u => (State.held_loaded u).symm ▸ rfl
  rw [← out t, h, out]

/-- A battery figure and an admission change the account, but not the consumed charge. -/
theorem State.loaded_of_heldByAdmission {s t : State} (h : t.heldByAdmission = s.heldByAdmission)
    (hconsumed : t.account.consumed = s.account.consumed) : t.loaded = s.loaded := by
  have out : ∀ u : State, u.loaded =
      { u.heldByAdmission.loaded with account := { Account.reset with consumed := u.account.consumed } } :=
    fun u => (State.held_loaded u).symm ▸ rfl
  rw [out t, out s, h, hconsumed]

/-! ## Operations on the account -/

theorem State.raise_account (s : State) (c : Condition) (x : Option Nat) (y z : Nat) :
    (s.raise c x y z).account = s.account :=
  show (s.raise c x y z).held.account = s.held.account by rw [State.raise_held]

theorem State.recompute_account (s : State) : s.recompute.account = s.account.recomputed s.budget := by
  unfold State.recompute
  dsimp only
  repeat' split
  all_goals
    simp only [State.capOrder, State.mapDomains_account, State.raise_account]

theorem State.recompute_loaded (s : State) : s.recompute.loaded = s.loaded :=
  State.loaded_of_heldByAdmission s.recompute_heldByAdmission (by rw [State.recompute_account]; rfl)

theorem State.takeBattery_loaded (s : State) (v : BitVec 16) : (s.takeBattery v).loaded = s.loaded := by
  rw [State.takeBattery, State.recompute_loaded]
  rfl

theorem State.issueBattery_loaded (s : State) (v : Option (BitVec 16)) : (s.issueBattery v).loaded = s.loaded := by
  unfold State.issueBattery
  split
  · rfl
  · exact s.takeBattery_loaded _

/-! ## Commands -/

section
variable (s : State)

theorem State.dispatch_loaded (c : Classification) : (s.dispatch c).loaded = s.loaded := by
  unfold State.dispatch
  split
  · unfold State.queueRequest
    split <;> rfl
  · exact State.loaded_of_held (s.offerCopies_held _ _ _ _)
  · unfold State.dispatchMatch
    split
    · exact (State.loaded_of_held (State.issueChatter_held _ _ _)).trans
        ((State.issueBattery_loaded _ _).trans
          (State.loaded_of_held (by rw [State.offerCopies_held, State.issueReloads_held, State.issueWakes_held])))
    · exact (State.loaded_of_held (State.issueChatter_held _ _ _)).trans
        ((State.issueBattery_loaded _ _).trans
          (State.loaded_of_held (by rw [State.offerCopies_held, State.issueReloads_held])))
    · exact (State.loaded_of_held (State.issueChatter_held _ _ _)).trans (State.issueBattery_loaded _ _)
  · exact State.loaded_of_held (by rw [State.issueChatter_held, State.offerCopies_held])
  · exact State.loaded_of_held (State.issueChatter_held _ _ _)

theorem State.heardAt_loaded (p : Port) : (s.heardAt p).loaded = s.loaded := by
  unfold State.heardAt
  split <;> rfl

theorem State.chatterAt_held (p : Port) : (s.chatterAt p).held = s.held := by
  unfold State.chatterAt
  split
  · rfl
  · exact s.chatter_held _

theorem State.packetBabble_loaded (p : Port) : (s.packetBabble p).loaded = s.loaded :=
  (State.loaded_of_held (State.chatterAt_held _ p)).trans (s.heardAt_loaded p)

theorem State.reportOverrun_held (p : Port) : (s.reportOverrun p).held = s.held := by
  unfold State.reportOverrun
  split
  · rfl
  · rw [State.raise_held, State.modPort_held _ rfl]

theorem State.dropAtLanding_loaded (p : Port) : (s.dropAtLanding p).loaded = s.loaded :=
  (State.loaded_of_held (State.chatterAt_held _ p)).trans
    ((State.loaded_of_held (State.reportOverrun_held _ p)).trans (s.heardAt_loaded p))

theorem State.enterUnconfigured_loaded : s.enterUnconfigured.loaded = s.loaded := by
  rw [← State.held_loaded, State.enterUnconfigured_held, ← State.held_loaded s]
  rfl

theorem State.land_loaded (p : Port) (f : Frame) : (s.land p f).loaded = s.loaded := by
  have hland : ((s.modPort p fun ps => { ps with landing := ps.landing ++ [f] }).heardAt p).loaded = s.loaded :=
    (State.heardAt_loaded _ p).trans (State.loaded_of_held (s.modPort_held rfl))
  unfold State.land
  dsimp only
  split
  · rw [State.enterUnconfigured_loaded]
    split
    · exact hland
    · exact (State.loaded_of_heldByMonitor (State.receptionNotice_heldByMonitor _ _)).trans hland
  · split
    · exact hland
    · exact (State.loaded_of_heldByMonitor (State.receptionNotice_heldByMonitor _ _)).trans hland

theorem State.take_loaded (p : Port) (f : Frame) (rest : List Frame) : (s.take p f rest).loaded = s.loaded :=
  State.loaded_of_held (t := s.modPort p fun ps => { ps with landing := rest, overrun := ps.overrun && !rest.isEmpty })
    (s.modPort_held rfl)

theorem State.beginBranch_held (b : Branch) : (s.beginBranch b).held = s.held := by
  unfold State.beginBranch
  split
  · exact s.beginEntry_held _
  · rfl

theorem State.enterFallback_loaded : s.enterFallback.loaded = s.loaded := by
  rw [← State.held_loaded, State.enterFallback_held, ← State.held_loaded s]
  rfl

theorem State.setFaultInput_loaded (d : DomainIx) (k : Bool) : (s.setFaultInput d k).loaded = s.loaded := rfl

theorem State.judge_loaded (d : DomainIx) : (s.judge d).loaded = s.loaded := by
  unfold State.judge
  dsimp only
  rw [State.loaded_of_held (State.modDomain_held _ rfl)]
  split
  · exact State.loaded_of_heldByMonitor (s.charge_heldByMonitor _ _)
  · rfl

theorem State.lingerOut_held (d : DomainIx) : (s.lingerOut d).held = s.held := by
  unfold State.lingerOut
  split
  · exact s.modDomain_held rfl
  split
  · exact s.modDomain_held rfl
  · rw [State.placeMarker_held, State.modDomain_held _ rfl]

theorem State.clearMarks_held : s.clearMarks.held = s.held := by
  rw [State.clearMarks, State.mapBranches_held _ fun _ => rfl, State.mapDomains_held _ fun _ => rfl]

/-- An accounting expiry changes the loaded part by the charge alone. -/
theorem State.accountNow_loaded : s.accountNow.loaded =
    { s with account := s.account.charged s.budget s.drawSum }.loaded := by
  unfold State.accountNow
  dsimp only
  rw [State.recompute_loaded, State.loaded_of_held (State.clearMarks_held _)]
  split
  · exact State.loaded_of_held (State.raise_held _ _ _ _ _)
  · rfl

theorem State.modRule_loaded {r : RuleIx} {f : Rule → Rule} (h : (f s.rules[r]).cleared = s.rules[r].cleared) :
    (s.modRule r f).loaded = s.loaded :=
  State.loaded_of_heldByMonitor (s.modRule_heldByMonitor h)

theorem State.modEntry_loaded {s t : State} (h : t.loaded = s.loaded) (i : EntryIx)
    (f : ScheduleEntry → ScheduleEntry) :
    (t.modEntry i f).loaded = { s.loaded with schedule := s.schedule.set i (f s.schedule[i]) } := by
  have hschedule : t.schedule = s.schedule := show t.loaded.schedule = s.loaded.schedule by rw [h]
  rw [← h, ← hschedule]
  rfl

theorem State.mapSchedule_loaded {s t : State} (h : t.loaded = s.loaded)
    (f : EntryIx → ScheduleEntry → ScheduleEntry) :
    (t.mapSchedule f).loaded = { s.loaded with schedule := Vector.ofFn fun e => f e s.schedule[e] } := by
  have hschedule : t.schedule = s.schedule := show t.loaded.schedule = s.loaded.schedule by rw [h]
  rw [← h, ← hschedule]
  rfl

theorem State.secondStep_loaded : s.secondStep.loaded =
    { s.loaded with
      parkClock := min Config.max32 (s.parkClock + 1)
      schedule := if s.mode = .parked then Vector.ofFn fun e => s.schedule[e].counted else s.schedule } := by
  have hports : (Vector.ofFn fun p : Port =>
      ({ s.ports[p] with queue := s.ports[p].queue.map QueueItem.aged } : PortState)).map PortState.bare =
        s.ports.map PortState.bare :=
    map_ofFn_same s.ports PortState.bare (fun _ ps => { ps with queue := ps.queue.map QueueItem.aged }) fun _ => rfl
  have hbranches : (Vector.ofFn fun b : Branch =>
      ({ s.branches[b] with
          isolationTimer := tickDown s.branches[b].isolationTimer
          windowTimer := tickDown s.branches[b].windowTimer } : BranchState)).map BranchState.bare =
        s.branches.map BranchState.bare :=
    map_ofFn_same s.branches BranchState.bare (fun _ bs =>
      { bs with isolationTimer := tickDown bs.isolationTimer, windowTimer := tickDown bs.windowTimer }) fun _ => rfl
  have hrules : (Vector.ofFn fun r : RuleIx =>
      ({ s.rules[r] with
          suspect := tickDown s.rules[r].suspect, quarantine := tickDown s.rules[r].quarantine } : Rule)).map
            (fun r => ({ Rule.reset with record := r.record } : Rule)) =
        s.rules.map fun r => { Rule.reset with record := r.record } :=
    map_ofFn_same s.rules (fun r => ({ Rule.reset with record := r.record } : Rule)) (fun _ r =>
      { r with suspect := tickDown r.suspect, quarantine := tickDown r.quarantine }) fun _ => rfl
  unfold State.secondStep
  dsimp only
  split
  all_goals
    simp only [State.loaded, State.mapRules, State.mapBranches, State.mapPorts, State.mapSchedule, hports, hbranches,
      hrules]

theorem BranchState.warmed_params (bs : BranchState) : bs.warmed.params = bs.params := rfl

theorem Domain.warmed_bare (d : Domain) : d.warmed.bare = d.bare := by
  unfold Domain.warmed
  dsimp only
  split <;> rfl

/-- A warm reset reads the straps and reloads the countdowns. -/
theorem State.warmReset_loaded (straps : Fin 4) : (s.warmReset straps).loaded =
    { s.loaded with
      strapPins := straps, strap := straps
      schedule := Vector.ofFn fun e => { s.schedule[e] with countdown := s.schedule[e].period } } := by
  have hports : (Vector.ofFn fun p : Port => s.ports[p].warmed).map PortState.bare = s.ports.map PortState.bare :=
    map_ofFn_same s.ports PortState.bare (fun _ ps => ps.warmed) fun _ => rfl
  have hbranches : (Vector.ofFn fun b : Branch => s.branches[b].warmed).map BranchState.bare =
      s.branches.map BranchState.bare :=
    map_ofFn_same s.branches BranchState.bare (fun _ bs => bs.warmed) fun _ => rfl
  have hrules : (Vector.ofFn fun r : RuleIx => s.rules[r].cleared).map
        (fun r => ({ Rule.reset with record := r.record } : Rule)) =
      s.rules.map fun r => { Rule.reset with record := r.record } :=
    map_ofFn_same s.rules (fun r => ({ Rule.reset with record := r.record } : Rule)) (fun _ r => r.cleared) fun _ => rfl
  have hdomains : (Vector.ofFn fun d : DomainIx => s.domains[d].warmed).map Domain.bare =
      s.domains.map Domain.bare :=
    map_ofFn_same s.domains Domain.bare (fun _ d => d.warmed) fun _ => Domain.warmed_bare _
  unfold State.warmReset
  dsimp only
  rw [State.loaded_of_held (State.runArbiter_held _)]
  simp only [State.recomputeSilently, State.loaded, State.mapRules, State.mapBranches, State.mapPorts,
    State.mapSchedule, State.mapDomains, hports, hbranches, hrules, hdomains, Account.recomputed]

theorem Domain.parked_bare (d : Domain) (n : Nat) : (d.parked n).bare = d.bare := by
  unfold Domain.parked
  split <;> rfl

/-- Park restarts the account and the park clock and loads the enabled countdowns. -/
theorem State.parkNow_loaded : s.parkNow.loaded =
    { s.loaded with
      parkClock := 0, account := Account.reset
      schedule := Vector.ofFn fun e =>
        if s.schedule[e].enabled then { s.schedule[e] with countdown := s.schedule[e].firstDelay }
        else s.schedule[e] } := by
  have hcompute : ({ s with account := s.account.restarted s.budget, parkClock := 0 } : State).recompute.loaded =
      { s with account := Account.reset, parkClock := 0 }.loaded := State.recompute_loaded _
  unfold State.parkNow
  dsimp only
  rw [State.loaded_of_held (foldl_held _ State.parkBranch_held _ _),
    State.loaded_of_held (State.mapDomains_held _ fun _ => Domain.parked_bare _ _)]
  exact State.mapSchedule_loaded (t := { State.recompute _ with mode := .parked }) hcompute _

theorem State.departNow_loaded : s.departNow.loaded = s.loaded := by
  rw [← State.held_loaded, State.departNow_held, ← State.held_loaded s]
  rfl

theorem State.clearWakers_loaded (r : RuleIx) : (s.clearWakers r).loaded = s.loaded :=
  State.loaded_of_held (s.clearWakers_held r)

theorem State.dropConfirm_loaded (r : RuleIx) : (s.dropConfirm r).loaded = s.loaded := rfl

theorem State.setEnable_loaded (r : RuleIx) (on : Bool) : (s.setEnable r on).loaded =
    (s.modRule r fun x => { x with record := { x.record with enabled := on } }).loaded := by
  unfold State.setEnable
  dsimp only
  split
  · rfl
  · rw [State.dropConfirm_loaded, State.clearWakers_loaded]

theorem State.putRule_loaded (r : RuleIx) (x : RuleRecord) : (s.putRule r x).loaded =
    (s.modRule r fun _ => { record := x, suspect := none, quarantine := none }).loaded := by
  rw [State.putRule, State.dropConfirm_loaded, State.clearWakers_loaded]

end

/-! ## What a command loads -/

/-- A schedule entry with another countdown, a lower one or one loaded from its own delays. -/
def ScheduleEntry.recounted (e x : ScheduleEntry) : Prop :=
  x = { e with countdown := x.countdown }
    ∧ (x.countdown ≤ e.countdown ∨ x.countdown = e.period ∨ x.countdown = e.firstDelay)

theorem ScheduleEntry.recounted_refl (e : ScheduleEntry) : e.recounted e := ⟨rfl, .inl le_rfl⟩

/-- An expiry may also disable its entry. -/
theorem ScheduleEntry.fired_recounted (e : ScheduleEntry) :
    { e with enabled := e.fired.enabled }.recounted e.fired := by
  unfold ScheduleEntry.fired
  split
  · exact ⟨rfl, .inr (.inl rfl)⟩
  · exact ⟨rfl, .inl (Nat.zero_le _)⟩

theorem ScheduleEntry.counted_recounted (e : ScheduleEntry) : e.recounted e.counted := by
  unfold ScheduleEntry.counted
  split
  · exact ⟨rfl, .inl (Nat.sub_le _ _)⟩
  · exact e.recounted_refl

/-- How a command changes the loaded part: each field by the commands that may write it. -/
inductive Loads (s : State) : Instr → State → Prop where
  | same {c : Instr} : Loads s c s
  | rules {c : Instr} (r : RuleIx) (x : RuleRecord) (hc : c = .writeRule ∨ c = .setRuleEnable)
      (hx : s.rules[r].record.inRange → x.inRange) :
      Loads s c (s.modRule r fun _ => { Rule.reset with record := x })
  | domain (d : DomainIx) (x : DomainParams) (hx : ∀ y : Domain, (y.withParams x).inRange) :
      Loads s .writeDomain (s.modDomain d fun y => (y.withParams x).bare)
  | trunk (x : PortParams) (n : Nat) (hx : x.inRange trunkPort) (hn : 1 ≤ n ∧ n ≤ 255) :
      Loads s .writePort { s.modPort trunkPort (fun ps => { ps with params := x }) with silenceTime := n }
  | branch (b : Branch) (x : PortParams) (y : BranchParams) (hx : x.inRange (portOf b)) (hy : y.inRange) :
      Loads s .writePort
        ((s.modPort (portOf b) fun ps => { ps with params := x }).modBranch b fun bs => { bs with params := y })
  | entry (i : EntryIx) (e : ScheduleEntry) (he : e.inRange) : Loads s .writeSchedule (s.modEntry i fun _ => e)
  | budget (x : Budget) (hx : x.inRange) : Loads s .writeBudget { s with budget := x }
  | limit (n : Nat) (hn : 1 ≤ n ∧ n ≤ 4) : Loads s .setInrushLimit { s with inrushLimit := n }
  | masks (x y : KindSet) : Loads s .setReportMasks { s with reportMask := x, urgentMask := y }
  | monitor (m n : Nat) (hm : 1 ≤ m ∧ m ≤ 65535) (hn : 1 ≤ n ∧ n ≤ 65535) :
      Loads s .writeMonitor { s with suspectWindow := m, quarantineTime := n }
  | straps {c : Instr} (straps : Fin 4) (v : Vector ScheduleEntry 8)
      (hc : c = .resetInput straps ∨ c = .warmResetTakesPlace straps)
      (hv : ∀ e : EntryIx, s.schedule[e].recounted v[e]) :
      Loads s c { s with strapPins := straps, strap := straps, schedule := v }
  | fired (i : EntryIx) :
      Loads s (.scheduleExpiry i) { s with schedule := s.schedule.set i s.schedule[i].fired }
  | charged (n : Nat) :
      Loads s .accountingExpiry
        { s with account := { s.account with consumed := min (s.account.consumed + n) Config.max32 } }
  | second (v : Vector ScheduleEntry 8) (hv : ∀ e : EntryIx, s.schedule[e].recounted v[e]) :
      Loads s .parkClockAdvance { s with parkClock := min Config.max32 (s.parkClock + 1), schedule := v }
  | park (v : Vector ScheduleEntry 8) (hv : ∀ e : EntryIx, s.schedule[e].recounted v[e]) :
      Loads s .park { s with parkClock := 0, account := Account.reset, schedule := v }

theorem Loads.of_eq {c : Instr} {s t : State} (h : t = s) : Loads s c t := h ▸ .same

section
variable (s : State) (e : EntryIx)

theorem State.schedule_reloaded : s.schedule[e].recounted
    (Vector.ofFn fun i : EntryIx => ({ s.schedule[i] with countdown := s.schedule[i].period } : ScheduleEntry))[e] := by
  simpa using show s.schedule[e].recounted { s.schedule[e] with countdown := s.schedule[e].period } from
    ⟨rfl, .inr (.inl rfl)⟩

theorem State.schedule_counted : s.schedule[e].recounted
    (if s.mode = .parked then Vector.ofFn fun i : EntryIx => s.schedule[i].counted else s.schedule)[e] := by
  split
  · simpa using s.schedule[e].counted_recounted
  · exact s.schedule[e].recounted_refl

theorem State.schedule_parked : s.schedule[e].recounted
    (Vector.ofFn fun i : EntryIx =>
      if s.schedule[i].enabled then ({ s.schedule[i] with countdown := s.schedule[i].firstDelay } : ScheduleEntry)
      else s.schedule[i])[e] := by
  have h : s.schedule[e].recounted
      (if s.schedule[e].enabled then { s.schedule[e] with countdown := s.schedule[e].firstDelay }
        else s.schedule[e]) := by
    split
    · exact ⟨rfl, .inr (.inr rfl)⟩
    · exact s.schedule[e].recounted_refl
  simpa using h

end

section
variable (s : State)

/-- A record written into a table that keeps only what `g` keeps of each. -/
theorem map_set_as {α : Type} {n : Nat} (v : Vector α n) (g f : α → α) (i : Fin n) (x : α) (h : g x = f (g v[i])) :
    (v.set i x).map g = (v.map g).set i (f (v.map g)[i]) := by
  rw [Vector.map_set, h]
  simp

theorem State.modRule_loaded_as (r : RuleIx) (f : Rule → Rule) : (s.modRule r f).loaded =
    s.loaded.modRule r fun _ => { Rule.reset with record := (f s.rules[r]).record } := by
  have h := map_set_as s.rules (fun x => { Rule.reset with record := x.record })
    (fun _ => { Rule.reset with record := (f s.rules[r]).record }) r (f s.rules[r]) rfl
  simp only [State.loaded, State.modRule, h]

theorem State.modDomain_loaded_as (d : DomainIx) (f g : Domain → Domain) (h : ∀ x, (f x).bare = g x.bare) :
    (s.modDomain d f).loaded = s.loaded.modDomain d g := by
  have h := map_set_as s.domains Domain.bare g d (f s.domains[d]) (h _)
  simp only [State.loaded, State.modDomain, h]

theorem State.modPort_loaded_as (p : Port) (x : PortParams) :
    (s.modPort p fun ps => { ps with params := x }).loaded = s.loaded.modPort p fun ps => { ps with params := x } := by
  have h := map_set_as s.ports PortState.bare (fun ps => { ps with params := x }) p { s.ports[p] with params := x } rfl
  simp only [State.loaded, State.modPort, h]

theorem State.modBranch_loaded_as (b : Branch) (x : BranchParams) :
    (s.modBranch b fun bs => { bs with params := x }).loaded =
      s.loaded.modBranch b fun bs => { bs with params := x } := by
  have h := map_set_as s.branches BranchState.bare (fun bs => { bs with params := x }) b
    { s.branches[b] with params := x } rfl
  simp only [State.loaded, State.modBranch, h]

theorem State.loaded_record (r : RuleIx) : s.loaded.rules[r].record = s.rules[r].record := by simp [State.loaded]

end

theorem Acted.loads {c : Instr} {s t : State} (h : Acted s c t) : Loads s.loaded c t.loaded := by
  cases h with
  | same => exact .same
  | overrunRead => exact .same
  | flagsCleared => exact .same
  | masksSet x y => exact .masks x y
  | resetAwaited => exact .same
  | ruleWritten r a x hx =>
    rw [State.putRule_loaded, State.modRule_loaded_as]
    exact .rules r x (.inl rfl) fun _ => ruleOf_inRange hx
  | enableSet r on =>
    rw [State.setEnable_loaded, State.modRule_loaded_as]
    exact .rules r _ (.inr rfl) fun h => s.loaded_record r ▸ h
  | quarantineReleased r => exact .of_eq (State.modRule_loaded _ rfl)
  | monitorWritten a hx hy => exact .monitor _ _ ⟨Nat.pos_of_ne_zero hx, arg16_le a 0⟩ ⟨Nat.pos_of_ne_zero hy, arg16_le a 2⟩
  | domainWritten d a x hx hbranch =>
    rw [s.modDomain_loaded_as d (fun y => y.withParams x) (fun y => (y.withParams x).bare) fun _ => rfl]
    exact .domain d x (domainOf_inRange hx)
  | forcedOn d => exact .of_eq (State.loaded_of_held (State.wake_held _ _ _ _ _))
  | forcedOff d => exact .of_eq (State.loaded_of_held (State.switchOff_held _ _))
  | faultCleared d hfault =>
    exact .of_eq (State.loaded_of_held (by rw [State.followDomain_held, State.modDomain_held _ rfl]))
  | limitSet k hlow hhigh hnone =>
    rw [State.loaded_of_held (State.runArbiter_held _)]
    exact .limit k ⟨hlow, hhigh⟩
  | trunkWritten a x t hx ht =>
    have h := Loads.trunk (s := s.loaded) x t (portParamsOf_inRange hx) (silenceOf_inRange ht)
    rwa [← s.modPort_loaded_as] at h
  | branchWritten b a x y hx hy =>
    rw [State.modBranch_loaded_as, State.modPort_loaded_as]
    exact .branch b x y (portParamsOf_inRange hx) (branchParamsOf_inRange hy)
  | portReleased b hisolated => exact .of_eq (State.loaded_of_held (State.leaveIsolated_held _ _))
  | budgetWritten a x hx =>
    rw [State.recompute_loaded]
    exact .budget x (budgetOf_inRange hx)
  | entryWritten i a e he => exact .entry i e (scheduleOf_inRange he)
  | parked hmode =>
    rw [State.parkNow_loaded]
    exact .park _ fun e => s.schedule_parked e
  | departed hmode => exact .of_eq (State.departNow_loaded s)

/-- Every command but a full reset changes the loaded part as listed. -/
theorem Effect.loads {c : Instr} {s t : State} (h : Effect s c t) (hreset : ∀ straps, c ≠ .fullReset straps) :
    Loads s.loaded c t.loaded := by
  cases h with
  | same => exact .same
  | requestDiscarded => exact .same
  | answered u code tag r data h => exact h.loads
  | fullReset straps => exact absurd rfl (hreset straps)
  | resetByInput straps =>
    rw [State.warmReset_loaded]
    exact .straps straps _ (.inl rfl) fun e => s.schedule_reloaded e
  | resetByRequest straps =>
    rw [State.warmReset_loaded]
    exact .straps straps _ (.inr rfl) fun e => s.schedule_reloaded e
  | babbled p f => exact .of_eq (State.packetBabble_loaded s p)
  | landed p f hreceives hroom => exact .of_eq (State.land_loaded s p f)
  | overran p f => exact .of_eq (State.dropAtLanding_loaded s p)
  | took p f rest hmode hlanding => exact .of_eq (State.take_loaded s p f rest)
  | dispatched c hc => exact .of_eq (State.dispatch_loaded _ c)
  | beganTrunk hidle => exact .of_eq (State.loaded_of_heldByTransmitters s.beginTrunk_heldByTransmitters)
  | beganBranch b hidle => exact .of_eq (State.loaded_of_held (s.beginBranch_held b))
  | attemptEnded p f o hf => exact .of_eq (State.loaded_of_heldByTransmitters (s.endAttempt_heldByTransmitters p f o))
  | trunkSilenced => exact .same
  | fellBack hmode => exact .of_eq s.enterFallback_loaded
  | pinSet d level => exact .same
  | faulted d level hpowered => exact .of_eq ((State.loaded_of_held (State.enterFault_held _ d)).trans rfl)
  | settled d hstate =>
    exact .of_eq (State.loaded_of_held
      (by rw [State.runArbiter_held, State.followDomain_held, State.modDomain_held _ rfl]))
  | lingered d hmode hstate hcount =>
    exact .of_eq ((State.loaded_of_held (State.lingerOut_held _ d)).trans (s.judge_loaded d))
  | drainLimited b hmode =>
    exact .of_eq (State.loaded_of_held (by rw [State.settleDrain_held, State.modBranch_held _ rfl]))
  | entryExpired p place e he hidle =>
    exact .of_eq (State.loaded_of_held (by rw [State.settlePort_held, State.dropAt_held]))
  | accountReloaded => exact .same
  | accounted =>
    rw [State.accountNow_loaded]
    exact .charged _
  | windowOpened b hdue => exact .of_eq (State.loaded_of_held (s.modBranch_held rfl))
  | isolationEnded b hisolated => exact .of_eq (State.loaded_of_held (s.leaveIsolated_held b))
  | suspicionEnded r => exact .of_eq (State.modRule_loaded s rfl)
  | quarantineEnded r => exact .of_eq (State.modRule_loaded s rfl)
  | scheduleFired i hmode =>
    rw [State.modEntry_loaded (State.loaded_of_held (s.scheduledWake_held i))]
    exact .fired i
  | secondPassed =>
    rw [State.secondStep_loaded]
    exact .second _ fun e => s.schedule_counted e

/-! ## The obligations -/

theorem rule_record_of_loaded {s t : State} (h : t.loaded.rules = s.loaded.rules) (r : RuleIx) :
    t.rules[r].record = s.rules[r].record := by
  simpa [State.loaded] using congrArg (fun v : Vector Rule 128 => v[r].record) h

theorem domain_bare_of_loaded {s t : State} (h : t.loaded.domains = s.loaded.domains) (d : DomainIx) :
    t.domains[d].bare = s.domains[d].bare := by
  simpa [State.loaded] using congrArg (fun v : Vector Domain 16 => v[d]) h

theorem port_params_of_loaded {s t : State} (h : t.loaded.ports = s.loaded.ports) (p : Port) :
    t.ports[p].params = s.ports[p].params := by
  simpa [State.loaded, PortState.bare] using congrArg (fun v : Vector PortState 7 => v[p].params) h

theorem branch_params_of_loaded {s t : State} (h : t.loaded.branches = s.loaded.branches) (b : Branch) :
    t.branches[b].params = s.branches[b].params := by
  simpa [State.loaded, BranchState.bare] using congrArg (fun v : Vector BranchState 6 => v[b].params) h

/-- But for its own write an entry has its countdown changed alone, and by its expiry perhaps its enabled flag. -/
theorem Loads.recounted {c : Instr} {s t : State} (h : Loads s c t) (hc : c ≠ .writeSchedule) (e : EntryIx) :
    { s.schedule[e] with enabled := t.schedule[e].enabled }.recounted t.schedule[e]
      ∧ (c ≠ .scheduleExpiry e → t.schedule[e].enabled = s.schedule[e].enabled) := by
  have changed : ∀ x : ScheduleEntry, s.schedule[e].recounted x →
      { s.schedule[e] with enabled := x.enabled }.recounted x ∧ x.enabled = s.schedule[e].enabled := by
    rintro x ⟨hx, hn⟩
    have hen : x.enabled = s.schedule[e].enabled := by rw [hx]
    refine ⟨?_, hen⟩
    rw [hen]
    exact ⟨hx, hn⟩
  cases h with
  | entry => exact absurd rfl hc
  | straps _ v _ hv => exact ⟨(changed _ (hv e)).1, fun _ => (changed _ (hv e)).2⟩
  | second v hv => exact ⟨(changed _ (hv e)).1, fun _ => (changed _ (hv e)).2⟩
  | park v hv => exact ⟨(changed _ (hv e)).1, fun _ => (changed _ (hv e)).2⟩
  | fired i =>
    rcases eq_or_ne i e with rfl | hne
    · exact ⟨by simpa using s.schedule[i].fired_recounted, fun h => absurd rfl h⟩
    · have hval : i.val ≠ e.val := fun h => hne (Fin.ext h)
      have hsame : (s.schedule.set i s.schedule[i].fired)[e] = s.schedule[e] := by simp [hval]
      rw [hsame]
      exact ⟨s.schedule[e].recounted_refl, fun _ => rfl⟩
  | _ => exact ⟨s.schedule[e].recounted_refl, fun _ => rfl⟩

/-- Settles O1: the front of the queue is the command that `step` runs. -/
theorem stepRunsFrontCommand : Obligations.StepRunsFrontCommand := by
  intro s c rest hpending
  simp only [step, hpending]

theorem execFrameReception_completes (s : State) (p : Port) {f : Frame} (h : f.wf = true) :
    ∃ t, execFrameReception p f s = .next t := by
  unfold execFrameReception
  rw [if_pos h]
  split <;> exact ⟨_, rfl⟩

theorem execWarmResetTakesPlace_completes (s : State) (straps : Fin 4) :
    ∃ t, execWarmResetTakesPlace straps s = .next t := by
  unfold execWarmResetTakesPlace
  split <;> exact ⟨_, rfl⟩

theorem execClassifierTakesFrame_completes (s : State) : ∃ t, execClassifierTakesFrame s = .next t := by
  unfold execClassifierTakesFrame
  split
  · exact ⟨_, rfl⟩
  split
  · exact ⟨_, rfl⟩
  split <;> exact ⟨_, rfl⟩

theorem execClassificationDispatch_completes (s : State) : ∃ t, execClassificationDispatch s = .next t := by
  unfold execClassificationDispatch
  split <;> exact ⟨_, rfl⟩

theorem execTransmissionAttempt_completes (s : State) (p : Port) : ∃ t, execTransmissionAttempt p s = .next t := by
  unfold execTransmissionAttempt
  split
  · exact ⟨_, rfl⟩
  split <;> exact ⟨_, rfl⟩

theorem execAttemptEnd_completes (s : State) (p : Port) (o : AttemptOutcome) :
    ∃ t, execAttemptEnd p o s = .next t := by
  unfold execAttemptEnd
  split <;> exact ⟨_, rfl⟩

theorem execFaultInputAsserts_completes (s : State) (d : DomainIx) (level : Bool) :
    ∃ t, execFaultInputAsserts d level s = .next t := by
  unfold execFaultInputAsserts
  dsimp only
  split <;> exact ⟨_, rfl⟩

theorem execEmptyRequest_completes (s : State) : ∃ t, execEmptyRequest s = .next t := by
  unfold execEmptyRequest
  split <;> exact ⟨_, rfl⟩

theorem execUnknownCommand_completes (s : State) : ∃ t, execUnknownCommand s = .next t := by
  unfold execUnknownCommand
  split
  · exact ⟨_, rfl⟩
  split <;> exact ⟨_, rfl⟩

/-- Every data frame that a bus can bring, and every other command, has a next state (R16). -/
theorem exec_completes {c : Instr} (s : State) (h : c.wf = true) : ∃ t, exec c s = .next t := by
  cases c with
  | frameReception p f =>
    obtain ⟨t, ht⟩ := execFrameReception_completes s p (f := f) h
    exact ⟨t, ht⟩
  | warmResetTakesPlace straps => exact execWarmResetTakesPlace_completes s straps
  | classifierTakesFrame => exact execClassifierTakesFrame_completes s
  | classificationDispatch => exact execClassificationDispatch_completes s
  | transmissionAttempt p => exact execTransmissionAttempt_completes s p
  | attemptEnd p o => exact execAttemptEnd_completes s p o
  | faultInputAsserts d level => exact execFaultInputAsserts_completes s d level
  | emptyRequest => exact execEmptyRequest_completes s
  | unknownCommand => exact execUnknownCommand_completes s
  | _ => exact ⟨_, rfl⟩

theorem State.loaded_pending (s : State) : s.loaded.pending = s.pending := rfl

theorem State.fullReset_pending (s : State) (straps : Fin 4) : (s.fullReset straps).pending = s.pending := by
  rw [← State.loaded_pending, State.fullReset, State.enterUnconfigured_loaded, State.loaded_pending]

theorem Effect.pending {c : Instr} {s t : State} (h : Effect s c t) : t.pending = s.pending := by
  by_cases hreset : ∃ straps, c = .fullReset straps
  · obtain ⟨straps, rfl⟩ := hreset
    cases h with
    | fullReset => exact s.fullReset_pending straps
    | same => rfl
    | answered u code tag r data h =>
      have hloads := h.loads
      generalize hu : u.loaded = v at hloads
      have hpending : v.pending = s.pending := by cases hloads <;> rfl
      exact (congrArg State.pending hu).trans hpending
  · have hloads := h.loads fun straps e => hreset ⟨straps, e⟩
    show t.loaded.pending = s.loaded.pending
    generalize t.loaded = v at hloads
    cases hloads <;> rfl

/-- Settles O3: completion by the arms of `exec`, and the command queue by the inversion of the effects. -/
theorem commandsComplete : Obligations.CommandsComplete := by
  intro c s
  refine ⟨fun hwf => ?_, fun hwf => ?_⟩
  · obtain ⟨t, ht⟩ := exec_completes s hwf
    exact ⟨t, ht, (exec_effect ht).pending⟩
  · cases c with
    | frameReception p f =>
      have hf : f.wf = false := hwf
      show execFrameReception p f s = _
      rw [execFrameReception, if_neg (by simp [hf])]
    | _ => cases hwf

/-- The consumed charge never falls but by Park, as long as it is within its width (R138). -/
theorem Loads.consumed_le {c : Instr} {s t : State} (h : Loads s c t) (hc : c ≠ .park)
    (hmax : s.account.consumed ≤ 4294967295) : s.account.consumed ≤ t.account.consumed := by
  cases h with
  | park => exact absurd rfl hc
  | charged n => exact le_min (Nat.le_add_right _ _) hmax
  | _ => exact le_rfl

/-- The park clock never falls but by Park, as long as it is within its width (R15). -/
theorem Loads.parkClock_le {c : Instr} {s t : State} (h : Loads s c t) (hc : c ≠ .park)
    (hmax : s.parkClock ≤ 4294967295) : s.parkClock ≤ t.parkClock := by
  cases h with
  | park => exact absurd rfl hc
  | second => exact le_min hmax (Nat.le_succ _)
  | _ => exact le_rfl

/-- Settles O14: each clause from the changes of the loaded part, `Loads`. -/
theorem heldValuesChangeByTheirCommands : Obligations.HeldValuesChangeByTheirCommands := by
  intro c s t hexec hreset
  have hloads := (exec_effect hexec).loads hreset
  refine ⟨fun hwrite henable => rule_record_of_loaded ?rules, fun hc d => ?domains,
    fun hc => ⟨port_params_of_loaded ?ports, branch_params_of_loaded ?branches, ?silenceTime⟩, fun hc e => ?schedule,
    fun hc => ?budget, fun hc => ?limit, fun hc => ?masks, fun hc => ?monitor, fun hc => ?straps,
    hloads.consumed_le, hloads.parkClock_le⟩
  case domains =>
    have hsame : t.loaded.domains = s.loaded.domains := by
      generalize t.loaded = v at hloads
      cases hloads <;> first | rfl | contradiction
    have hbare := domain_bare_of_loaded hsame d
    simp only [Domain.bare, Domain.mk.injEq] at hbare
    obtain ⟨hbranch, hia, hsettle, hlinger, -⟩ := hbare
    exact ⟨hbranch, hia, hsettle, hlinger⟩
  case schedule =>
    obtain ⟨⟨hentry, -⟩, hen⟩ := hloads.recounted hc e
    have hmode := congrArg ScheduleEntry.mode hentry
    have hfirst := congrArg ScheduleEntry.firstDelay hentry
    have hperiod := congrArg ScheduleEntry.period hentry
    have hwake := congrArg ScheduleEntry.wake hentry
    have hcls := congrArg ScheduleEntry.cls hentry
    have hlinger := congrArg ScheduleEntry.linger hentry
    exact ⟨hmode, hfirst, hperiod, hwake, hcls, hlinger, hen⟩
  case straps =>
    show t.loaded.strap = s.loaded.strap ∧ t.loaded.strapPins = s.loaded.strapPins
    generalize t.loaded = v at hloads
    cases hloads with
    | straps straps v hstraps => exact absurd hstraps (not_or.2 (hc straps))
    | _ => exact ⟨rfl, rfl⟩
  case rules =>
    generalize t.loaded = v at hloads
    cases hloads with
    | rules r x hrules => exact absurd hrules (not_or.2 ⟨hwrite, henable⟩)
    | _ => rfl
  case ports =>
    generalize t.loaded = v at hloads
    cases hloads <;> first | rfl | contradiction
  case branches =>
    generalize t.loaded = v at hloads
    cases hloads <;> first | rfl | contradiction
  case silenceTime =>
    show t.loaded.silenceTime = s.loaded.silenceTime
    generalize t.loaded = v at hloads
    cases hloads <;> first | rfl | contradiction
  case budget =>
    show t.loaded.budget = s.loaded.budget
    generalize t.loaded = v at hloads
    cases hloads <;> first | rfl | contradiction
  case limit =>
    show t.loaded.inrushLimit = s.loaded.inrushLimit
    generalize t.loaded = v at hloads
    cases hloads <;> first | rfl | contradiction
  case masks =>
    show t.loaded.reportMask = s.loaded.reportMask ∧ t.loaded.urgentMask = s.loaded.urgentMask
    generalize t.loaded = v at hloads
    cases hloads <;> first | exact ⟨rfl, rfl⟩ | contradiction
  case monitor =>
    show t.loaded.suspectWindow = s.loaded.suspectWindow ∧ t.loaded.quarantineTime = s.loaded.quarantineTime
    generalize t.loaded = v at hloads
    cases hloads <;> first | exact ⟨rfl, rfl⟩ | contradiction

end Sys2Proof.Machine
end

section
/-! That every step keeps every parameter in its range: O4. The law reads the loaded part alone, and each of the
changes that `Loads` lists keeps it. -/

namespace Sys2Proof.Machine

theorem parameterLaw_loaded_iff (s : State) : ParameterLaw s.loaded ↔ ParameterLaw s := by
  have hrule : ∀ r : RuleIx, s.loaded.rules[r].record = s.rules[r].record := s.loaded_record
  have hport : ∀ p : Port, s.loaded.ports[p].params = s.ports[p].params := fun p => by
    simp [State.loaded, PortState.bare]
  have hbranch : ∀ b : Branch, s.loaded.branches[b].params = s.branches[b].params := fun b => by
    simp [State.loaded, BranchState.bare]
  have hdomain : ∀ d : DomainIx, s.loaded.domains[d].inRange ↔ s.domains[d].inRange := fun d => by
    simp [State.loaded, Domain.bare, Domain.inRange]
  simp only [ParameterLaw, hrule, hport, hbranch, hdomain]
  exact Iff.rfl

/-- A countdown comes from an entry's own delays, so it stays in their range. -/
theorem ScheduleEntry.recounted.inRange {e x : ScheduleEntry} (h : e.recounted x) (he : e.inRange) : x.inRange := by
  obtain ⟨hx, hn⟩ := h
  obtain ⟨hfirst, hperiod, hlinger, hcount⟩ := he
  rw [hx]
  exact ⟨hfirst, hperiod, hlinger, by dsimp only; omega⟩

theorem Loads.keeps_parameters {c : Instr} {s t : State} (h : Loads s c t) (hs : ParameterLaw s) :
    ParameterLaw t := by
  obtain ⟨hrules, hports, hbranches, hdomains, hschedule, hbudget, hsilence, hlimit, hsuspect, hquarantine⟩ := hs
  cases h with
  | same => exact ⟨hrules, hports, hbranches, hdomains, hschedule, hbudget, hsilence, hlimit, hsuspect, hquarantine⟩
  | rules r x hc hx =>
    refine ⟨fun i => ?_, hports, hbranches, hdomains, hschedule, hbudget, hsilence, hlimit, hsuspect, hquarantine⟩
    rw [State.modRule_get]
    split
    · exact hx (hrules r)
    · exact hrules i
  | domain d x hx =>
    refine ⟨hrules, hports, hbranches, fun i => ?_, hschedule, hbudget, hsilence, hlimit, hsuspect, hquarantine⟩
    rw [State.modDomain_get]
    split
    · exact hx s.domains[d]
    · exact hdomains i
  | trunk x n hx hn =>
    refine ⟨hrules, fun i => ?_, hbranches, hdomains, hschedule, hbudget, hn, hlimit, hsuspect, hquarantine⟩
    dsimp only
    rw [State.modPort_get]
    split
    · subst i
      exact hx
    · exact hports i
  | branch b x y hx hy =>
    refine ⟨hrules, fun i => ?_, fun i => ?_, hdomains, hschedule, hbudget, hsilence, hlimit, hsuspect, hquarantine⟩
    · rw [State.modBranch_ports, State.modPort_get]
      split
      · subst i
        exact hx
      · exact hports i
    · rw [State.modBranch_get]
      split
      · exact hy
      · exact hbranches i
  | entry i e he =>
    refine ⟨hrules, hports, hbranches, hdomains, fun j => ?_, hbudget, hsilence, hlimit, hsuspect, hquarantine⟩
    rw [State.modEntry_get]
    split
    · exact he
    · exact hschedule j
  | budget x hx =>
    exact ⟨hrules, hports, hbranches, hdomains, hschedule, hx, hsilence, hlimit, hsuspect, hquarantine⟩
  | limit n hn =>
    exact ⟨hrules, hports, hbranches, hdomains, hschedule, hbudget, hsilence, hn, hsuspect, hquarantine⟩
  | masks x y =>
    exact ⟨hrules, hports, hbranches, hdomains, hschedule, hbudget, hsilence, hlimit, hsuspect, hquarantine⟩
  | monitor m n hm hn =>
    exact ⟨hrules, hports, hbranches, hdomains, hschedule, hbudget, hsilence, hlimit, hm, hn⟩
  | straps _ v hc hv =>
    exact ⟨hrules, hports, hbranches, hdomains, fun e => (hv e).inRange (hschedule e), hbudget, hsilence, hlimit,
      hsuspect, hquarantine⟩
  | fired i =>
    have hcount := (Loads.fired (s := s) i).recounted (by simp)
    exact ⟨hrules, hports, hbranches, hdomains, fun e => (hcount e).1.inRange (hschedule e), hbudget, hsilence,
      hlimit, hsuspect, hquarantine⟩
  | charged n =>
    exact ⟨hrules, hports, hbranches, hdomains, hschedule, hbudget, hsilence, hlimit, hsuspect, hquarantine⟩
  | second v hv =>
    exact ⟨hrules, hports, hbranches, hdomains, fun e => (hv e).inRange (hschedule e), hbudget, hsilence, hlimit,
      hsuspect, hquarantine⟩
  | park v hv =>
    exact ⟨hrules, hports, hbranches, hdomains, fun e => (hv e).inRange (hschedule e), hbudget, hsilence, hlimit,
      hsuspect, hquarantine⟩

theorem cold_parameterLaw : ParameterLaw State.cold := by
  have hrules : ∀ r : RuleIx, State.cold.rules[r] = Rule.reset := fun r => by simp [State.cold]
  have hports : ∀ p : Port, State.cold.ports[p] = PortState.reset p := fun p => by simp [State.cold]
  have hbranches : ∀ b : Branch, State.cold.branches[b] = BranchState.cold := fun b => by simp [State.cold]
  have hdomains : ∀ d : DomainIx, State.cold.domains[d] = Domain.cold := fun d => by simp [State.cold]
  have hschedule : ∀ e : EntryIx, State.cold.schedule[e] = ScheduleEntry.reset := fun e => by simp [State.cold]
  simp only [ParameterLaw, hrules, hports, hbranches, hdomains, hschedule, forall_const]
  unfold RuleRecord.inRange PortParams.inRange BranchParams.inRange Domain.inRange ScheduleEntry.inRange
    Budget.inRange
  decide

theorem State.fullReset_parameterLaw (s : State) (straps : Fin 4) : ParameterLaw (s.fullReset straps) := by
  rw [← parameterLaw_loaded_iff, State.fullReset, State.enterUnconfigured_loaded, parameterLaw_loaded_iff]
  exact cold_parameterLaw

theorem Effect.keeps_parameters {c : Instr} {s t : State} (h : Effect s c t) (hs : ParameterLaw s) :
    ParameterLaw t := by
  by_cases hreset : ∃ straps, c = .fullReset straps
  · obtain ⟨straps, rfl⟩ := hreset
    cases h with
    | fullReset => exact s.fullReset_parameterLaw straps
    | same => exact hs
    | answered u code tag r data h =>
      exact (parameterLaw_loaded_iff u).1 (h.loads.keeps_parameters ((parameterLaw_loaded_iff s).2 hs))
  · have hloads := h.loads fun straps e => hreset ⟨straps, e⟩
    exact (parameterLaw_loaded_iff t).1 (hloads.keeps_parameters ((parameterLaw_loaded_iff s).2 hs))

/-! ## The time base -/

theorem State.msStep_loaded (s : State) : s.msStep.loaded = s.loaded := by
  have h := s.mapDomains_held (f := fun _ d => if d.state = .powerUp then { d with settle := d.settle - 1 } else d)
    fun d => by split <;> rfl
  rw [← State.loaded_of_held h]
  rfl

theorem State.tenMsStep_loaded (s : State) : s.tenMsStep.loaded = s.loaded :=
  State.loaded_of_held (s.mapBranches_held fun _ => rfl)

theorem State.hundredMsStep_loaded (s : State) : s.hundredMsStep.loaded = s.loaded := by
  unfold State.hundredMsStep
  dsimp only
  split
  · rw [State.loaded_of_held (State.mapDomains_held _ fun d => by split <;> rfl)]
    rfl
  · rfl

/-- A millisecond of the time base but for its one-second step and its phase. -/
def State.belowSecond (s : State) : State :=
  let s1 := s.msStep
  let s2 := if (s.phase + 1) % 10 = 0 then s1.tenMsStep else s1
  if (s.phase + 1) % 100 = 0 then s2.hundredMsStep else s2

theorem State.advance_eq (s : State) : s.advance =
    if (s.phase + 1) % 1000 = 0 then { s.belowSecond.secondStep with phase := 0 }
    else { s.belowSecond with phase := s.phase + 1 } := rfl

/-- A property of the state that each of the shorter steps keeps. -/
theorem State.belowSecond_keeps {P : State → Prop} (hms : ∀ s, P s → P s.msStep) (hten : ∀ s, P s → P s.tenMsStep)
    (hhundred : ∀ s, P s → P s.hundredMsStep) {s : State} (hs : P s) : P s.belowSecond := by
  unfold State.belowSecond
  dsimp only
  split <;> split
  · exact hhundred _ (hten _ (hms _ hs))
  · exact hhundred _ (hms _ hs)
  · exact hten _ (hms _ hs)
  · exact hms _ hs

/-- A property of the state that does not read the phase and that each step of the time base keeps. -/
theorem State.advance_keeps {P : State → Prop} (hphase : ∀ s n, P s → P { s with phase := n })
    (hms : ∀ s, P s → P s.msStep) (hten : ∀ s, P s → P s.tenMsStep) (hhundred : ∀ s, P s → P s.hundredMsStep)
    (hsecond : ∀ s, P s → P s.secondStep) {s : State} (hs : P s) : P s.advance := by
  have hbelow := State.belowSecond_keeps hms hten hhundred hs
  rw [State.advance_eq]
  split
  · exact hphase _ _ (hsecond _ hbelow)
  · exact hphase _ _ hbelow

/-- Settles O4: the effects and the time base keep the law. -/
theorem parametersStayInRange : Obligations.ParametersStayInRange := by
  intro s t hs hstep
  have loaded : ∀ u v : State, v.loaded = u.loaded → ParameterLaw u → ParameterLaw v := fun u v e h =>
    (parameterLaw_loaded_iff v).1 (e ▸ (parameterLaw_loaded_iff u).2 h)
  have advance : ∀ u, ParameterLaw u → ParameterLaw u.advance := fun u h =>
    State.advance_keeps (P := ParameterLaw) (fun _ _ h => h) (fun u => loaded _ _ u.msStep_loaded) (fun u => loaded _ _ u.tenMsStep_loaded)
      (fun u => loaded _ _ u.hundredMsStep_loaded) (fun _ h => Effect.secondPassed.keeps_parameters h) h
  exact step_keeps (P := ParameterLaw) (fun _ _ h => h) (fun _ _ _ h he => he.keeps_parameters h) advance hs hstep

end Sys2Proof.Machine
end

section
/-! The laws of the charge account (chapter 8), kept by every step: O11. The law splits into the account's own bounds
and its being recomputed, so that it is read off the held part, or holds after a recomputation. -/

namespace Sys2Proof.Machine

/-! ## Fields of the held part -/

section
variable (s : State)

@[simp] theorem State.held_mode : s.held.mode = s.mode := rfl
@[simp] theorem State.held_account : s.held.account = s.account := rfl
@[simp] theorem State.held_budget : s.held.budget = s.budget := rfl
@[simp] theorem State.held_rules : s.held.rules = s.rules := rfl
@[simp] theorem State.held_classification : s.held.classification = s.classification := rfl
@[simp] theorem State.held_requests : s.held.requests = s.requests := rfl
@[simp] theorem State.held_response : s.held.response = s.response := rfl
@[simp] theorem State.held_faultInputs : s.held.faultInputs = s.faultInputs := rfl
@[simp] theorem State.held_inrushLimit : s.held.inrushLimit = s.inrushLimit := rfl

end

/-! ## The account's own laws -/

/-- The account within its bounds, whatever it recomputes. -/
def Account.sound (a : Account) : Prop :=
  a.carry < 4 ∧ a.consumed ≤ 4294967295 ∧ a.davg ≤ 4234896 ∧ (a.saturated = true → a.consumed = 4294967295)

theorem effective_eq_iff (o : Bool) (l x : Level) :
    (x = if o = true ∧ (l = .green ∨ l = .amber) then .red else l) ↔ x = if o then l.worse .red else l := by
  cases o <;> cases l <;> simp [Level.worse, Level.code]

/-- The account's law: its bounds, and what it recomputes up to date. -/
theorem accountLaw_iff (s : State) :
    AccountLaw s ↔ s.account.sound ∧ s.account.recomputed s.budget = s.account := by
  rcases hs : s.account with ⟨consumed, carry, remaining, davg, saturated, vb, override, level, effective, timer⟩
  have hoverride : (override = true ↔ vb < s.budget.vcrit) ↔ override = decide (vb < s.budget.vcrit) := by
    cases override <;> simp
  simp only [AccountLaw, Account.sound, Account.recomputed, chargeLevel, hs, Account.mk.injEq, effective_eq_iff,
    hoverride, true_and, and_true]
  clear hs hoverride
  generalize s.budget = b
  constructor
  · rintro ⟨hcarry, hconsumed, hdavg, hremaining, ho, hlevel, heffective, hsaturated⟩
    subst hremaining ho hlevel heffective
    exact ⟨⟨hcarry, hconsumed, hdavg, hsaturated⟩, rfl, rfl, rfl, rfl⟩
  · rintro ⟨⟨hcarry, hconsumed, hdavg, hsaturated⟩, hremaining, ho, hlevel, heffective⟩
    refine ⟨hcarry, hconsumed, hdavg, hremaining.symm, ho.symm, ?_, ?_, hsaturated⟩
    · rw [← hremaining]
      exact hlevel.symm
    · simp only [hlevel, ho] at heffective
      exact heffective.symm

theorem Account.recomputed_sound {a : Account} {b : Budget} (h : a.sound) : (a.recomputed b).sound := h

theorem Account.recomputed_recomputed (a : Account) (b : Budget) :
    (a.recomputed b).recomputed b = a.recomputed b := rfl

section
variable {s t : State}

theorem accountLaw_of_eq (ha : t.account = s.account) (hb : t.budget = s.budget) (h : AccountLaw s) :
    AccountLaw t := by
  rw [accountLaw_iff] at h ⊢
  rwa [ha, hb]

theorem accountLaw_of_held (e : t.held = s.held) (h : AccountLaw s) : AccountLaw t := by
  have ha := congrArg State.account e
  have hb := congrArg State.budget e
  exact accountLaw_of_eq ha hb h

theorem accountLaw_of_heldByMonitor (e : t.heldByMonitor = s.heldByMonitor) (h : AccountLaw s) : AccountLaw t := by
  have ha := congrArg State.account e
  have hb := congrArg State.budget e
  exact accountLaw_of_eq ha hb h

theorem accountLaw_of_heldByTransmitters (e : t.heldByTransmitters = s.heldByTransmitters) (h : AccountLaw s) :
    AccountLaw t := by
  have ha := congrArg State.account e
  have hb := congrArg State.budget e
  exact accountLaw_of_eq ha hb h

end

theorem State.recompute_budget (s : State) : s.recompute.budget = s.budget := by
  have h := congrArg State.budget s.recompute_heldByAdmission
  exact h

theorem recompute_accountLaw {s : State} (h : s.account.sound) : AccountLaw s.recompute := by
  rw [accountLaw_iff, State.recompute_account, State.recompute_budget]
  exact ⟨h, rfl⟩

theorem issueBattery_accountLaw {s : State} (h : AccountLaw s) (v : Option (BitVec 16)) :
    AccountLaw (s.issueBattery v) := by
  unfold State.issueBattery
  split
  · exact h
  · exact recompute_accountLaw (s := { s with account := _ }) ((accountLaw_iff s).1 h).1

theorem dispatch_accountLaw {s : State} (h : AccountLaw s) (c : Classification) : AccountLaw (s.dispatch c) := by
  have chatter : ∀ (u : State) (due : Bool) (p : Port), AccountLaw u → AccountLaw (u.issueChatter due p) :=
    fun u due p => accountLaw_of_held (u.issueChatter_held due p)
  unfold State.dispatch
  split
  · unfold State.queueRequest
    split <;> exact h
  · exact accountLaw_of_held (s.offerCopies_held _ _ _ _) h
  · unfold State.dispatchMatch
    split
    · refine chatter _ _ _ (issueBattery_accountLaw (accountLaw_of_held ?_ h) _)
      rw [State.offerCopies_held, State.issueReloads_held, State.issueWakes_held]
    · refine chatter _ _ _ (issueBattery_accountLaw (accountLaw_of_held ?_ h) _)
      rw [State.offerCopies_held, State.issueReloads_held]
    · exact chatter _ _ _ (issueBattery_accountLaw h _)
  · exact chatter _ _ _ (accountLaw_of_held (s.offerCopies_held _ _ _ _) h)
  · exact chatter _ _ _ h

/-! ## The accounting expiry -/

theorem sum_map_le {α : Type} (l : List α) (f : α → Nat) (n : Nat) (h : ∀ x ∈ l, f x ≤ n) :
    (l.map f).sum ≤ l.length * n := by
  have hsum := List.sum_le_card_nsmul (l.map f) n fun y hy => by
    obtain ⟨x, hx, rfl⟩ := List.mem_map.1 hy
    exact h x hx
  simpa using hsum

/-- A part of the draw sum counts what is marked. -/
theorem ite_le_of_le {k : Bool} {m n : Nat} (h : m ≤ n) : (if k then m else 0) ≤ n := by
  split
  · exact h
  · exact Nat.zero_le n

/-- The greatest draw sum of parameters in their ranges (R97, R134, R137). -/
theorem drawSum_le {s : State} (h : ParameterLaw s) : s.drawSum ≤ 264681 := by
  obtain ⟨-, -, hbranches, hdomains, -, hbudget, -⟩ := h
  exact Nat.add_le_add
    (Nat.add_le_add hbudget.2.2.2.1 (sum_map_le allDomains _ 16383 fun d _ => ite_le_of_le (hdomains d).1))
    (sum_map_le allBranches _ 255 fun b _ => ite_le_of_le (hbranches b).1)

/-- An average moves towards its target without passing it (R140). -/
theorem average_step_le (davg target : Int) (k : Nat) :
    davg + (target - davg).fdiv (2 ^ k) ≤ max davg target := by
  have hpos : (0 : Int) < 2 ^ k := by positivity
  rw [Int.fdiv_eq_ediv_of_nonneg _ hpos.le]
  rcases le_total target davg with h | h
  · have hle : (target - davg) / 2 ^ k ≤ 0 := Int.ediv_nonpos_of_nonpos_of_neg (by omega) hpos
    omega
  · have hle : (target - davg) / 2 ^ k ≤ target - davg := Int.ediv_le_self _ (by omega)
    omega

theorem Account.charged_sound {a : Account} {b : Budget} {sum : Nat} (h : a.sound) (hsum : sum ≤ 264681) :
    (a.charged b sum).sound := by
  obtain ⟨-, hconsumed, hdavg, hsaturated⟩ := h
  have haverage := average_step_le a.davg (16 * sum) b.shift
  refine ⟨Nat.mod_lt _ (by decide), Nat.min_le_right _ _, ?_, fun hsat => ?_⟩
  · simp only [Account.charged]
    omega
  · simp only [Account.charged, Bool.or_eq_true, decide_eq_true_eq] at hsat ⊢
    have hmax : Config.max32 = 4294967295 := rfl
    rcases hsat with hold | hnew
    · rw [hsaturated hold]
      omega
    · omega

theorem State.clearMarks_accountNow_account (s : State) :
    s.accountNow.account = (s.account.charged s.budget s.drawSum).recomputed s.budget ∧ s.accountNow.budget = s.budget := by
  have marks : ∀ u : State, u.clearMarks.account = u.account ∧ u.clearMarks.budget = u.budget := fun u => by
    have ha := congrArg State.account u.clearMarks_held
    have hb := congrArg State.budget u.clearMarks_held
    exact ⟨ha, hb⟩
  have raised : ∀ (u : State) c x y z, (u.raise c x y z).budget = u.budget := fun u c x y z => by
    have hb := congrArg State.budget (u.raise_held c x y z)
    exact hb
  unfold State.accountNow
  dsimp only
  rw [State.recompute_account, State.recompute_budget, (marks _).1, (marks _).2]
  split
  · rw [State.raise_account, raised]
    exact ⟨rfl, rfl⟩
  · exact ⟨rfl, rfl⟩

/-! ## Commands -/

theorem State.warmReset_account (s : State) (straps : Fin 4) :
    (s.warmReset straps).account =
        { s.account with carry := 0, timer := Config.accountingInterval }.recomputed s.budget
      ∧ (s.warmReset straps).budget = s.budget := by
  have ran : ∀ u : State, u.runArbiter.account = u.account ∧ u.runArbiter.budget = u.budget := fun u => by
    have ha := congrArg State.account u.runArbiter_held
    have hb := congrArg State.budget u.runArbiter_held
    exact ⟨ha, hb⟩
  unfold State.warmReset
  dsimp only
  rw [(ran _).1, (ran _).2]
  simp only [State.recomputeSilently, State.mapDomains_account, State.mapDomains_budget, State.mapSchedule_account,
    State.mapSchedule_budget, State.mapRules_account, State.mapRules_budget, State.mapBranches_account,
    State.mapBranches_budget, State.mapPorts_account, State.mapPorts_budget]
  exact ⟨trivial, trivial⟩

theorem enterUnconfigured_accountLaw {s : State} (h : AccountLaw s) : AccountLaw s.enterUnconfigured := by
  refine accountLaw_of_eq (s := s) ?_ ?_ h
  · rw [← State.held_account, State.enterUnconfigured_held]
    rfl
  · rw [← State.held_budget, State.enterUnconfigured_held]
    rfl

theorem land_accountLaw {s : State} (h : AccountLaw s) (p : Port) (f : Frame) : AccountLaw (s.land p f) := by
  have hheard : AccountLaw ((s.modPort p fun ps => { ps with landing := ps.landing ++ [f] }).heardAt p) := by
    unfold State.heardAt
    split <;> exact h
  unfold State.land
  dsimp only
  split
  · refine enterUnconfigured_accountLaw ?_
    split
    · exact hheard
    · exact accountLaw_of_heldByMonitor (State.receptionNotice_heldByMonitor _ _) hheard
  · split
    · exact hheard
    · exact accountLaw_of_heldByMonitor (State.receptionNotice_heldByMonitor _ _) hheard

theorem heardAt_accountLaw {s : State} (h : AccountLaw s) (p : Port) : AccountLaw (s.heardAt p) := by
  unfold State.heardAt
  split <;> exact h

theorem parkNow_accountLaw {s : State} (hp : ParameterLaw s) : AccountLaw s.parkNow := by
  have hbase : s.budget.ibase ≤ 1023 := hp.2.2.2.2.2.1.2.2.2.1
  have hsound : (s.account.restarted s.budget).sound :=
    ⟨by simp [Account.restarted], by simp [Account.restarted], by simp only [Account.restarted]; omega,
      by simp [Account.restarted]⟩
  have hcompute : AccountLaw ({ s with account := s.account.restarted s.budget, parkClock := 0 } : State).recompute :=
    recompute_accountLaw hsound
  unfold State.parkNow
  dsimp only
  refine accountLaw_of_held (foldl_held _ State.parkBranch_held _ _) ?_
  exact accountLaw_of_eq rfl rfl hcompute

theorem departNow_accountLaw {s : State} (h : AccountLaw s) : AccountLaw s.departNow := by
  refine accountLaw_of_eq (s := s) ?_ ?_ h
  · rw [← State.held_account, State.departNow_held]
    rfl
  · rw [← State.held_budget, State.departNow_held]
    rfl

theorem enterFallback_accountLaw {s : State} (h : AccountLaw s) : AccountLaw s.enterFallback := by
  refine accountLaw_of_eq (s := s) ?_ ?_ h
  · rw [← State.held_account, State.enterFallback_held]
    rfl
  · rw [← State.held_budget, State.enterFallback_held]
    rfl

theorem cold_accountLaw : AccountLaw State.cold := by
  unfold AccountLaw
  decide

theorem Acted.keeps_account {c : Instr} {s t : State} (h : Acted s c t) (hp : ParameterLaw s) (hs : AccountLaw s) :
    AccountLaw t := by
  cases h with
  | forcedOn d => exact accountLaw_of_held (s.wake_held _ _ _ _) hs
  | forcedOff d => exact accountLaw_of_held (s.switchOff_held _) hs
  | faultCleared d hfault =>
    exact accountLaw_of_held (by rw [State.followDomain_held, State.modDomain_held _ rfl]) hs
  | limitSet k hlow hhigh hnone =>
    exact accountLaw_of_held (s := { s with inrushLimit := k }) (State.runArbiter_held _) hs
  | portReleased b hisolated => exact accountLaw_of_held (s.leaveIsolated_held b) hs
  | budgetWritten a x hx => exact recompute_accountLaw (s := { s with budget := x }) ((accountLaw_iff s).1 hs).1
  | parked hmode => exact parkNow_accountLaw hp
  | departed hmode => exact departNow_accountLaw hs
  | enableSet r on =>
    unfold State.setEnable
    dsimp only
    split <;> exact hs
  | _ => exact hs

theorem Effect.keeps_account {c : Instr} {s t : State} (h : Effect s c t) (hp : ParameterLaw s)
    (hs : AccountLaw s) : AccountLaw t := by
  cases h with
  | same => exact hs
  | requestDiscarded => exact hs
  | answered u code tag r data h => exact h.keeps_account hp hs
  | fullReset straps => exact enterUnconfigured_accountLaw (accountLaw_of_eq rfl rfl cold_accountLaw)
  | resetByInput straps =>
    obtain ⟨ha, hb⟩ := s.warmReset_account straps
    obtain ⟨⟨-, hconsumed, hdavg, hsaturated⟩, -⟩ := (accountLaw_iff s).1 hs
    rw [accountLaw_iff, ha, hb]
    exact ⟨⟨Nat.zero_lt_succ 3, hconsumed, hdavg, hsaturated⟩, rfl⟩
  | resetByRequest straps =>
    obtain ⟨ha, hb⟩ := s.warmReset_account straps
    obtain ⟨⟨-, hconsumed, hdavg, hsaturated⟩, -⟩ := (accountLaw_iff s).1 hs
    rw [accountLaw_iff, ha, hb]
    exact ⟨⟨Nat.zero_lt_succ 3, hconsumed, hdavg, hsaturated⟩, rfl⟩
  | babbled p f => exact accountLaw_of_held (State.chatterAt_held _ p) (heardAt_accountLaw hs p)
  | landed p f hreceives hroom => exact land_accountLaw hs p f
  | overran p f =>
    exact accountLaw_of_held (State.chatterAt_held _ p)
      (accountLaw_of_held (State.reportOverrun_held _ p) (heardAt_accountLaw hs p))
  | took p f rest hmode hlanding => exact hs
  | dispatched c hc => exact dispatch_accountLaw (s := { s with classification := none }) hs c
  | beganTrunk hidle => exact accountLaw_of_heldByTransmitters s.beginTrunk_heldByTransmitters hs
  | beganBranch b hidle => exact accountLaw_of_held (s.beginBranch_held b) hs
  | attemptEnded p f o hf => exact accountLaw_of_heldByTransmitters (s.endAttempt_heldByTransmitters p f o) hs
  | trunkSilenced => exact hs
  | fellBack hmode => exact enterFallback_accountLaw hs
  | pinSet d level => exact hs
  | faulted d level hpowered =>
    exact accountLaw_of_held (s := s.setFaultInput d level) (State.enterFault_held _ d) hs
  | settled d hstate =>
    exact accountLaw_of_held (by rw [State.runArbiter_held, State.followDomain_held, State.modDomain_held _ rfl]) hs
  | lingered d hmode hstate hcount =>
    refine accountLaw_of_held (State.lingerOut_held _ d) ?_
    unfold State.judge
    dsimp only
    refine accountLaw_of_held (State.modDomain_held _ rfl) ?_
    split
    · exact accountLaw_of_heldByMonitor (s.charge_heldByMonitor _ _) hs
    · exact hs
  | drainLimited b hmode =>
    exact accountLaw_of_held (by rw [State.settleDrain_held, State.modBranch_held _ rfl]) hs
  | entryExpired p place e he hidle =>
    exact accountLaw_of_held (by rw [State.settlePort_held, State.dropAt_held]) hs
  | accountReloaded => exact hs
  | accounted =>
    obtain ⟨ha, hb⟩ := s.reloadAccounting.clearMarks_accountNow_account
    have hsound : s.reloadAccounting.account.sound := ((accountLaw_iff s).1 hs).1
    rw [accountLaw_iff, ha, hb]
    exact ⟨Account.charged_sound (sum := s.reloadAccounting.drawSum) hsound (drawSum_le (s := s) hp), rfl⟩
  | windowOpened b hdue => exact hs
  | isolationEnded b hisolated => exact accountLaw_of_held (s.leaveIsolated_held b) hs
  | suspicionEnded r => exact hs
  | quarantineEnded r => exact hs
  | scheduleFired i hmode => exact accountLaw_of_held (t := s.scheduledWake i) (s.scheduledWake_held i) hs
  | secondPassed =>
    unfold State.secondStep
    dsimp only
    split <;> exact hs

theorem State.msStep_account (s : State) : s.msStep.account = { s.account with timer := s.account.timer - 1 } := rfl

theorem State.msStep_budget (s : State) : s.msStep.budget = s.budget := by
  simp only [State.msStep, State.mapDomains_budget]

/-- The law does not read the accounting timer. -/
theorem msStep_accountLaw {s : State} (h : AccountLaw s) : AccountLaw s.msStep := by
  rw [accountLaw_iff] at h ⊢
  rw [State.msStep_account, State.msStep_budget]
  obtain ⟨hsound, hcurrent⟩ := h
  have htimer := congrArg (fun a : Account => { a with timer := s.account.timer - 1 }) hcurrent
  exact ⟨hsound, htimer⟩

theorem hundredMsStep_accountLaw {s : State} (h : AccountLaw s) : AccountLaw s.hundredMsStep := by
  unfold State.hundredMsStep
  dsimp only
  split <;> exact h

theorem secondStep_accountLaw {s : State} (h : AccountLaw s) : AccountLaw s.secondStep := by
  unfold State.secondStep
  dsimp only
  split <;> exact h

theorem advance_accountLaw {s : State} (h : AccountLaw s) : AccountLaw s.advance :=
  State.advance_keeps (P := AccountLaw) (fun _ _ h => h) (fun _ h => msStep_accountLaw h)
    (fun _ h => accountLaw_of_eq (by simp [State.tenMsStep]) (by simp [State.tenMsStep]) h)
    (fun _ h => hundredMsStep_accountLaw h) (fun _ h => secondStep_accountLaw h) h

/-- Settles O11: the law and the ranges of the parameters are kept together. -/
theorem accountStaysLawful : Obligations.AccountStaysLawful := by
  intro s t hp hs hstep
  rcases step_effect hstep with ⟨c, rest, he⟩ | rfl
  · exact he.keeps_account hp hs
  · exact advance_accountLaw hs

end Sys2Proof.Machine
end

section
/-! What becomes of a domain. Every operation moves each domain record by a chain of the moves listed here: the quiet
ones leave the arbiter's count and pending set alone, the others are made by requests, grants, cuts and faults.
The laws that speak of one domain at a time (O10, O12) follow from the moves alone. -/

namespace Sys2Proof.Machine

/-! ## Moves -/

/-- A move that neither begins nor ends a wait for power. -/
inductive Domain.QuietMove : Domain → Domain → Prop where
  | switchedOff (d : Domain) (h : d.state.waiting = false) : QuietMove d d.switchedOff
  | unarmed (d : Domain) : QuietMove d d.unarmed
  | asked (d : Domain) (n : Nat) (k : WakeClass) (h : d.state.waiting = true) :
      QuietMove d { d with pending := n, pendingClass := k }
  | reloaded (d : Domain) (n : Nat) (h : d.state = .on) : QuietMove d { d with remaining := n }
  | revived (d : Domain) (n : Nat) (h : d.state = .releasing) : QuietMove d { d with state := .on, remaining := n }
  | released (d : Domain) (h : d.state = .on) (hwaker : d.waker = none) (hawaiting : d.awaiting = false) :
      QuietMove d { d with state := .releasing, remaining := 0 }
  | cleared (d : Domain) (h : d.state = .fault) : QuietMove d { d with state := .off }
  | unseen (d : Domain) : QuietMove d { d with seen := d.seen && d.state.enabled }
  | loaded (d : Domain) (x : DomainParams) (h : d.state.active = true → x.branch = d.branch) :
      QuietMove d (d.withParams x)
  | settling (d : Domain) (n : Nat) (h : d.state = .powerUp) : QuietMove d { d with settle := n }

/-- Any move; a wake request arms a domain only where `arming` holds. -/
inductive Domain.Move (arming : Prop) : Domain → Domain → Prop where
  | quiet {d e : Domain} (h : d.QuietMove e) : Move arming d e
  | switchedOff (d : Domain) : Move arming d d.switchedOff
  | faulted (d : Domain) : Move arming d d.faulted
  | queued (d : Domain) (k : WakeClass) (n : Nat) (r : Option RuleIx) (h : d.state = .off)
      (hr : r.isSome = true → arming) : Move arming d (d.queuedFor k n r)
  | granted (d : Domain) (h : d.state = .queued) :
      Move arming d { d with state := .powerUp, seen := true, settle := d.settleTime }
  | settled (d : Domain) (h : d.state = .powerUp) : Move arming d d.settled
  | warmed (d : Domain) : Move arming d d.warmed

/-- Every domain goes from its record in one state to that in the other by quiet moves. -/
def State.Quietly (s t : State) : Prop := ∀ d : DomainIx, Relation.ReflTransGen Domain.QuietMove s.domains[d] t.domains[d]

/-- Every domain goes from its record in one state to that in the other by moves. -/
def State.Moves (arming : Prop) (s t : State) : Prop :=
  ∀ d : DomainIx, Relation.ReflTransGen (Domain.Move arming) s.domains[d] t.domains[d]

section
variable {arming : Prop} {s t u : State}

theorem State.Quietly.of_eq (h : t.domains = s.domains) : s.Quietly t := fun d => by rw [h]

theorem State.Quietly.refl (s : State) : s.Quietly s := .of_eq rfl

theorem State.Quietly.trans (h : s.Quietly t) (h' : t.Quietly u) : s.Quietly u := fun d => (h d).trans (h' d)

/-- Quiet moves from a state with the same domains. -/
theorem State.Quietly.since (h : u.Quietly t) (e : u.domains = s.domains) : s.Quietly t := fun d => by
  rw [← e]
  exact h d

theorem State.Quietly.moves (h : s.Quietly t) : s.Moves arming t := fun d => (h d).lift id fun _ _ => .quiet

theorem State.Moves.of_eq (h : t.domains = s.domains) : s.Moves arming t := fun d => by rw [h]

theorem State.Moves.refl (s : State) : s.Moves arming s := .of_eq rfl

theorem State.Moves.trans (h : s.Moves arming t) (h' : t.Moves arming u) : s.Moves arming u :=
  fun d => (h d).trans (h' d)

/-- Moves from a state with the same domains. -/
theorem State.Moves.since (h : u.Moves arming t) (e : u.domains = s.domains) : s.Moves arming t := fun d => by
  rw [← e]
  exact h d

theorem State.Moves.mono {arming' : Prop} (h : s.Moves arming t) (ha : arming → arming') : s.Moves arming' t :=
  fun d => (h d).lift id fun _ _ m => by
    cases m with
    | quiet m => exact .quiet m
    | switchedOff => exact .switchedOff _
    | faulted => exact .faulted _
    | queued k n r h hr => exact .queued _ k n r h fun e => ha (hr e)
    | granted h => exact .granted _ h
    | settled h => exact .settled _ h
    | warmed => exact .warmed _

/-- One record replaced by a quiet move. -/
theorem State.Quietly.modDomain (s : State) (d : DomainIx) {f : Domain → Domain}
    (h : s.domains[d].QuietMove (f s.domains[d])) : s.Quietly (s.modDomain d f) := fun i => by
  rw [State.modDomain_get]
  split
  · subst i
    exact .single h
  · exact .refl

/-- One record replaced by a move. -/
theorem State.Moves.modDomain (s : State) (d : DomainIx) {f : Domain → Domain}
    (h : s.domains[d].Move arming (f s.domains[d])) : s.Moves arming (s.modDomain d f) := fun i => by
  rw [State.modDomain_get]
  split
  · subst i
    exact .single h
  · exact .refl

/-- Records moved quietly or left alone, each by itself. -/
theorem State.Quietly.mapDomains (s : State) {f : DomainIx → Domain → Domain}
    (h : ∀ d, f d s.domains[d] = s.domains[d] ∨ s.domains[d].QuietMove (f d s.domains[d])) :
    s.Quietly (s.mapDomains f) := fun d => by
  rw [State.mapDomains_get]
  rcases h d with e | m
  · rw [e]
  · exact .single m

/-- Records moved or left alone, each by itself. -/
theorem State.Moves.mapDomains (s : State) {f : DomainIx → Domain → Domain}
    (h : ∀ d, f d s.domains[d] = s.domains[d] ∨ s.domains[d].Move arming (f d s.domains[d])) :
    s.Moves arming (s.mapDomains f) := fun d => by
  rw [State.mapDomains_get]
  rcases h d with e | m
  · rw [e]
  · exact .single m

theorem State.Quietly.foldl {α : Type} {f : State → α → State} (h : ∀ (s : State) (x : α), s.Quietly (f s x)) (l : List α) (s : State) :
    s.Quietly (l.foldl f s) := by
  induction l generalizing s with
  | nil => exact .refl s
  | cons x l ih => exact (h s x).trans (ih _)

theorem State.Moves.foldl {α : Type} {f : State → α → State} (h : ∀ (s : State) (x : α), s.Moves arming (f s x)) (l : List α)
    (s : State) : s.Moves arming (l.foldl f s) := by
  induction l generalizing s with
  | nil => exact .refl s
  | cons x l ih => exact (h s x).trans (ih _)

end

/-! ## Branches, queues and drains -/

section
variable (s : State)

theorem State.switchOffReleasing_quietly (b : Branch) : s.Quietly (s.switchOffReleasing b) :=
  .mapDomains s fun d => by
    split
    · rename_i h
      exact .inr (.switchedOff _ (by rw [h.2]; rfl))
    · exact .inl rfl

theorem State.reviveReleasing_quietly (b : Branch) : s.Quietly (s.reviveReleasing b) :=
  .mapDomains s fun d => by
    split
    · rename_i h
      exact .inr (.revived _ _ h.2)
    · exact .inl rfl

theorem State.completeDrain_quietly (b : Branch) : s.Quietly (s.completeDrain b) :=
  (State.Quietly.of_eq (t := (s.purge (portOf b) QueueItem.held).stopDrain b) rfl).trans
    ((State.switchOffReleasing_quietly _ b).trans (.of_eq (State.goRest_domains _ b)))

theorem State.settleDrain_quietly (b : Branch) : s.Quietly (s.settleDrain b) := by
  unfold State.settleDrain
  split
  · exact s.completeDrain_quietly b
  · exact .refl s

theorem State.settlePort_quietly (p : Port) : s.Quietly (s.settlePort p) := by
  unfold State.settlePort
  split
  · exact .refl s
  · exact s.settleDrain_quietly _

theorem State.placeMarker_quietly (b : Branch) : s.Quietly (s.placeMarker b) := by
  unfold State.placeMarker
  split
  · dsimp only
    exact State.Quietly.since (State.settleDrain_quietly _ b) rfl
  · exact .refl s

theorem State.withdrawMarker_quietly (b : Branch) : s.Quietly (s.withdrawMarker b) := by
  unfold State.withdrawMarker
  split
  · exact State.Quietly.since (State.reviveReleasing_quietly _ b) rfl
  · exact .refl s

theorem State.branchJoined_quietly (b : Branch) : s.Quietly (s.branchJoined b) := by
  unfold State.branchJoined
  repeat' split
  all_goals first | exact .refl s | exact .of_eq rfl | exact s.withdrawMarker_quietly _

/-! ## The arbiter, wake requests and cuts -/

/-- One round of grants: the arbiter rests, or it grants the chosen domain, which an asserted input puts in Fault. -/
theorem State.grantRounds_succ (n : Nat) (s : State) :
    s.grantRounds (n + 1) = s ∨ ∃ g, s.domains[g].state = .queued ∧
      (s.faultInputs.getLsbD g.val = true ∧ s.grantRounds (n + 1) =
          (((s.grant g).modDomain g Domain.faulted).grantRounds n).reportFault g .powerUp ∨
        s.faultInputs.getLsbD g.val = false ∧ s.grantRounds (n + 1) = (s.grant g).grantRounds n) := by
  rw [State.grantRounds]
  by_cases hfew : s.powerUpCount < s.inrushLimit
  · rw [if_pos hfew]
    cases hchoose : s.chooseGrant with
    | none => exact .inl rfl
    | some g =>
      refine .inr ⟨g, beq_iff_eq.1 (s.chooseGrant_some hchoose), ?_⟩
      cases hpin : s.faultInputs.getLsbD g.val with
      | true => exact .inl ⟨rfl, if_pos hpin⟩
      | false => exact .inr ⟨rfl, if_neg (by rw [hpin]; exact Bool.false_ne_true)⟩
  · exact .inl (if_neg hfew)

/-- What the arbiter may do to one domain: nothing, a grant, or a grant that an asserted input ends in Fault. -/
theorem State.grantRounds_domain (n : Nat) (s : State) (d : DomainIx) :
    (s.grantRounds n).domains[d] = s.domains[d] ∨ s.domains[d].state = .queued ∧ (s.grantRounds n).domains[d] =
      if s.faultInputs.getLsbD d.val then s.domains[d].grantedInFault
      else { s.domains[d] with state := .powerUp, seen := true, settle := s.domains[d].settleTime } := by
  induction n generalizing s with
  | zero => exact .inl rfl
  | succ n ih =>
    rcases s.grantRounds_succ n with h | ⟨g, hqueued, ⟨hpin, h⟩ | ⟨hpin, h⟩⟩
    · exact .inl (by rw [h])
    · have ih := ih ((s.grant g).modDomain g Domain.faulted)
      rw [h, State.reportFault_domains]
      rw [State.grant_faulted] at ih ⊢
      rcases eq_or_ne d g with rfl | hne
      · have hself : ({ s.modDomain d Domain.grantedInFault with lastGranted := d } : State).domains[d] =
            s.domains[d].grantedInFault := by
          show (s.modDomain d _).domains[d] = _
          rw [State.modDomain_get, if_pos rfl]
        rw [hself] at ih
        rcases ih with h | ⟨h, -⟩
        · exact .inr ⟨hqueued, by rw [h, if_pos hpin]⟩
        · cases h
      · have hother : ({ s.modDomain g Domain.grantedInFault with lastGranted := g } : State).domains[d] =
            s.domains[d] := by
          show (s.modDomain g _).domains[d] = _
          rw [State.modDomain_get, if_neg hne]
        rwa [hother] at ih
    · have ih := ih (s.grant g)
      rw [h]
      rcases eq_or_ne d g with rfl | hne
      · have hself : (s.grant d).domains[d] =
            { s.domains[d] with state := .powerUp, seen := true, settle := s.domains[d].settleTime } := by
          rw [State.grant, State.modDomain_get, if_pos rfl]
        rw [hself] at ih
        rcases ih with h | ⟨h, -⟩
        · exact .inr ⟨hqueued, by rw [h, hpin]; rfl⟩
        · cases h
      · have hother : (s.grant g).domains[d] = s.domains[d] := by
          rw [State.grant, State.modDomain_get, if_neg hne]
        rwa [hother] at ih

theorem State.runArbiter_domain (d : DomainIx) :
    s.runArbiter.domains[d] = s.domains[d] ∨ s.domains[d].state = .queued ∧ s.runArbiter.domains[d] =
      if s.faultInputs.getLsbD d.val then s.domains[d].grantedInFault
      else { s.domains[d] with state := .powerUp, seen := true, settle := s.domains[d].settleTime } :=
  s.grantRounds_domain 16 d

variable {arming : Prop}

theorem State.runArbiter_moves : s.Moves arming s.runArbiter := fun d => by
  rcases s.runArbiter_domain d with h | ⟨hqueued, h⟩
  · rw [h]
  · rw [h]
    split
    · exact .trans (.single (.granted _ hqueued)) (.single (.faulted _))
    · exact .single (.granted _ hqueued)

theorem State.enterFault_moves (d : DomainIx) : s.Moves arming (s.enterFault d) :=
  (State.Moves.modDomain s d (f := Domain.faulted) (.faulted _)).trans
    ((State.runArbiter_moves _).trans (.of_eq (State.reportFault_domains _ _ _)))

theorem State.requestWake_moves (d : DomainIx) (k : WakeClass) (n : Nat) (r : Option RuleIx)
    (hr : r.isSome = true → arming) : s.Moves arming (s.requestWake d k n r) := by
  unfold State.requestWake
  dsimp only
  split
  · rename_i hstate
    have hqueue := State.Moves.modDomain s d (f := fun x => x.queuedFor k n r) (.queued _ k n r hstate hr)
    split
    · exact hqueue
    · split
      · exact .refl s
      · exact hqueue.trans (State.branchJoined_quietly _ _).moves
  · rename_i hstate
    exact (State.Quietly.modDomain s d (.asked _ _ _ (by rw [hstate]; rfl))).moves
  · rename_i hstate
    exact (State.Quietly.modDomain s d (.asked _ _ _ (by rw [hstate]; rfl))).moves
  · rename_i hstate
    exact (State.Quietly.modDomain s d (.reloaded _ _ hstate)).moves
  · rename_i hstate
    have hrevive := State.Quietly.modDomain s d (f := fun x => { x with state := .on, remaining := n })
      (.revived _ _ hstate)
    split
    · exact hrevive.moves
    · exact (hrevive.trans (State.withdrawMarker_quietly _ _)).moves
  · exact .refl s

theorem State.wake_moves (d : DomainIx) (k : WakeClass) (n : Nat) (r : Option RuleIx)
    (hr : r.isSome = true → arming) : s.Moves arming (s.wake d k n r) :=
  (s.requestWake_moves d k n r hr).trans (State.runArbiter_moves _)

theorem State.wakeGroup_moves (ds : List DomainIx) : s.Moves arming (s.wakeGroup ds) :=
  (State.Moves.foldl (fun t d => t.requestWake_moves d _ _ none nofun) ds s).trans (State.runArbiter_moves _)

theorem State.reloadActivity_quietly (d : DomainIx) (n : Nat) : s.Quietly (s.reloadActivity d n) := by
  unfold State.reloadActivity
  dsimp only
  split
  · rename_i hstate
    exact .modDomain s d (.reloaded _ _ hstate)
  · rename_i hstate
    have hrevive := State.Quietly.modDomain s d
      (f := fun x => { x with state := .on, remaining := max x.remaining n }) (.revived _ _ hstate)
    split
    · exact hrevive
    · exact hrevive.trans (State.withdrawMarker_quietly _ _)
  all_goals exact .refl s

theorem State.switchOff_moves (d : DomainIx) : s.Moves arming (s.switchOff d) := by
  unfold State.switchOff
  split
  · exact (State.Moves.modDomain s d (f := Domain.switchedOff) (.switchedOff _)).trans
      ((State.Moves.of_eq (State.followDomain_domains _ d)).trans (State.runArbiter_moves _))
  · exact .refl s

theorem State.cut_moves (g : Domain → Bool) : s.Moves arming (s.cut g) :=
  (State.Moves.mapDomains s fun d => by
    split
    · exact .inr (.switchedOff _)
    · exact .inl rfl).trans (State.runArbiter_moves _)

/-- A branch at its isolation before its domains are cut: its queue and slots emptied, its drain over. -/
def State.isolating (s : State) (b : Branch) : State :=
  (((s.enterBranch b .isolated).modPort (portOf b) PortState.emptied).purge (portOf b) fun _ => false).stopDrain b

/-- An isolation: the branch emptied, its domains cut, its timer and cause set, and PORT_ISOLATED. -/
theorem State.isolate_eq {b : Branch} (h : s.branches[b].mode ≠ .isolated) (c : IsolationCause) :
    s.isolate b c = (((s.isolating b).cut fun d => d.branch = some b).modBranch b fun bs =>
      { bs with windowTimer := none, cause := c, isolationTimer := some s.branches[b].params.isolationTime }).raise
        .portIsolated (some (portOf b).val) c.code s.branches[b].params.isolationTime := if_neg h

theorem State.isolate_eq_self {b : Branch} (h : s.branches[b].mode = .isolated) (c : IsolationCause) :
    s.isolate b c = s := if_pos h

theorem State.purge_domains (p : Port) (keep : QueueItem → Bool) : (s.purge p keep).domains = s.domains := rfl

theorem State.isolating_domains (b : Branch) : (s.isolating b).domains = s.domains := by
  rw [State.isolating, State.stopDrain, State.modBranch_domains, State.purge_domains, State.modPort_domains,
    State.enterBranch, State.modBranch_domains]

theorem State.isolate_moves (b : Branch) (c : IsolationCause) : s.Moves arming (s.isolate b c) := by
  by_cases h : s.branches[b].mode = .isolated
  · rw [s.isolate_eq_self h]
    exact .refl s
  · rw [s.isolate_eq h]
    refine State.Moves.trans ((State.cut_moves (s.isolating b) fun d => d.branch = some b).since
      (s.isolating_domains b)) (.of_eq ?_)
    rw [State.raise_domains, State.modBranch_domains]

theorem State.chatter_moves (b : Branch) : s.Moves arming (s.chatter b) := by
  unfold State.chatter
  split
  · have hcount : s.Moves arming (s.modBranch b fun bs => { bs with chatterCount := bs.chatterCount + 1 }) :=
      .of_eq rfl
    dsimp only
    split
    · exact hcount.trans (State.isolate_moves _ b _)
    · exact hcount
  · exact .refl s

theorem State.leaveIsolated_moves (b : Branch) : s.Moves arming (s.leaveIsolated b) := by
  unfold State.leaveIsolated
  dsimp only
  split
  · exact .of_eq (State.goRest_domains _ b)
  · exact .of_eq rfl
  all_goals exact State.Moves.since (State.wakeGroup_moves _ _) rfl

/-! ## The confirmation monitor -/

theorem State.confirm_quietly (b : Branch) : s.Quietly (s.confirm b) := by
  unfold State.confirm
  refine State.Quietly.since (.mapDomains _ fun d => ?_) (State.mapRules_domains s _)
  dsimp only
  split
  · exact .inr (.unarmed _)
  · exact .inl rfl

theorem State.receptionNotice_quietly (b : Branch) : s.Quietly (s.receptionNotice b) :=
  (s.confirm_quietly b).trans (State.withdrawMarker_quietly _ b)

theorem State.clearWakers_quietly (r : RuleIx) : s.Quietly (s.clearWakers r) :=
  .mapDomains s fun d => by
    split
    · exact .inr (.unarmed _)
    · exact .inl rfl

theorem State.charge_domains (r : RuleIx) (d : DomainIx) : (s.charge r d).domains = s.domains := by
  unfold State.charge
  dsimp only
  repeat' split
  · rfl
  · rw [State.raise_domains]
    rfl
  · rfl

theorem State.judge_domains (d i : DomainIx) :
    (s.judge d).domains[i] = if i = d then s.domains[d].unarmed else s.domains[i] := by
  unfold State.judge
  dsimp only
  split
  · rw [State.modDomain_get, State.charge_domains]
  · rw [State.modDomain_get]

theorem State.judge_quietly (d : DomainIx) : s.Quietly (s.judge d) := fun i => by
  rw [State.judge_domains]
  split
  · subst i
    exact .single (.unarmed _)
  · exact .refl

/-- At its linger expiry an On domain, judged, goes Off or is Releasing. -/
theorem State.lingerOut_quietly (d : DomainIx) (hstate : s.domains[d].state = .on)
    (hwaker : s.domains[d].waker = none) (hawaiting : s.domains[d].awaiting = false) :
    s.Quietly (s.lingerOut d) := by
  have hoff := State.Quietly.modDomain s d (f := Domain.switchedOff) (.switchedOff _ (by rw [hstate]; rfl))
  unfold State.lingerOut
  split
  · exact hoff
  split
  · exact hoff
  · exact (State.Quietly.modDomain s d (.released _ hstate hwaker hawaiting)).trans (State.placeMarker_quietly _ _)

/-! ## The account -/

theorem State.capOrder_quietly : s.Quietly s.capOrder :=
  .mapDomains s fun d => by
    unfold Domain.capped
    split
    · rename_i hstate
      exact .inr (.reloaded _ _ hstate)
    · rename_i hstate
      exact .inr (.asked _ _ s.domains[d].pendingClass (by rw [hstate]; rfl))
    · rename_i hstate
      exact .inr (.asked _ _ s.domains[d].pendingClass (by rw [hstate]; rfl))
    all_goals exact .inl rfl

theorem State.recompute_quietly : s.Quietly s.recompute := by
  unfold State.recompute
  dsimp only
  repeat' split
  all_goals
    first
    | exact .of_eq (by simp only [State.raise_domains])
    | exact State.Quietly.since (State.capOrder_quietly _) (by simp only [State.raise_domains])

theorem State.issueBattery_quietly (v : Option (BitVec 16)) : s.Quietly (s.issueBattery v) := by
  unfold State.issueBattery
  split
  · exact .refl s
  · exact State.Quietly.since (State.recompute_quietly _) rfl

theorem State.clearMarks_quietly : s.Quietly s.clearMarks :=
  (State.Quietly.mapDomains s fun _ => .inr (.unseen _)).trans (.of_eq (State.mapBranches_domains _ _))

theorem State.accountNow_quietly : s.Quietly s.accountNow := by
  unfold State.accountNow
  dsimp only
  split
  · exact State.Quietly.since ((State.clearMarks_quietly _).trans (State.recompute_quietly _)) (State.raise_domains _ _ _ _ _)
  · exact State.Quietly.since ((State.clearMarks_quietly _).trans (State.recompute_quietly _)) rfl

/-! ## Copies and admission -/

theorem State.evictFor_quietly (p : Port) (f : Frame) (hold : Bool) : s.Quietly (s.evictFor p f hold) := by
  unfold State.evictFor State.holdOverflow
  split
  · exact .of_eq (State.raise_domains _ _ _ _ _)
  · split
    · exact State.Quietly.since (State.settlePort_quietly _ p) (State.raise_domains _ _ _ _ _)
    · exact .of_eq (State.raise_domains _ _ _ _ _)

theorem State.offerCopy_quietly (p : Port) (f : Frame) (k : WakeClass) (hold : Bool) :
    s.Quietly (s.offerCopy p f k hold) := by
  unfold State.offerCopy State.holdOverflow
  repeat' split
  all_goals
    first
    | exact .refl s
    | exact .of_eq rfl
    | exact s.evictFor_quietly p f hold
    | exact .of_eq (State.raise_domains _ _ _ _ _)

theorem State.offerCopies_quietly (x : PortSet) (f : Frame) (k : WakeClass) (hold : Bool) :
    s.Quietly (s.offerCopies x f k hold) :=
  .foldl (fun t p => t.offerCopy_quietly p f k hold) _ s

theorem State.issueWakes_moves (l : Level) (x : DomainSet) (k : WakeClass) (n : Nat) (r : Option RuleIx)
    (hr : r.isSome = true → arming) : s.Moves arming (s.issueWakes l x k n r) :=
  .foldl (fun t d => t.wake_moves d k _ r hr) _ s

theorem State.issueReloads_quietly (l : Level) (x : DomainSet) : s.Quietly (s.issueReloads l x) :=
  .foldl (fun t d => t.reloadActivity_quietly d _) _ s

theorem State.issueChatter_moves (due : Bool) (p : Port) : s.Moves arming (s.issueChatter due p) := by
  unfold State.issueChatter
  repeat' split
  all_goals first | exact .refl s | exact s.chatter_moves _

theorem State.armedBy_isSome (m : Match) : (s.armedBy m).isSome = true → s.mode = .parked := by
  unfold State.armedBy
  split
  · rename_i h
    exact fun _ => h.1
  · exact nofun

theorem State.dispatchMatch_moves (p : Port) (f : Frame) (m : Match) :
    s.Moves (s.mode = .parked) (s.dispatchMatch p f m) := by
  unfold State.dispatchMatch
  split
  · exact (s.issueWakes_moves _ _ _ _ _ (s.armedBy_isSome m)).trans
      (((State.issueReloads_quietly _ _ _).trans ((State.offerCopies_quietly _ _ _ _ _).trans
        (State.issueBattery_quietly _ _))).moves.trans (State.issueChatter_moves _ _ _))
  · exact ((s.issueReloads_quietly _ _).trans ((State.offerCopies_quietly _ _ _ _ _).trans
      (State.issueBattery_quietly _ _))).moves.trans (State.issueChatter_moves _ _ _)
  · exact (s.issueBattery_quietly _).moves.trans (State.issueChatter_moves _ _ _)

theorem State.dispatch_moves (c : Classification) : s.Moves (s.mode = .parked) (s.dispatch c) := by
  unfold State.dispatch
  split
  · unfold State.queueRequest
    split <;> exact .of_eq rfl
  · exact (s.offerCopies_quietly _ _ _ _).moves
  · exact s.dispatchMatch_moves _ _ _
  · exact (s.offerCopies_quietly _ _ _ _).moves.trans (State.issueChatter_moves _ _ _)
  · exact s.issueChatter_moves _ _

theorem State.scheduledWake_moves (i : EntryIx) : s.Moves arming (s.scheduledWake i) := by
  unfold State.scheduledWake
  dsimp only
  split
  · exact s.issueWakes_moves _ _ _ _ none nofun
  all_goals exact .of_eq (State.raise_domains _ _ _ _ _)

/-! ## Transmitters -/

theorem State.beginEntry_domains (p : Port) : (s.beginEntry p).domains = s.domains := by
  unfold State.beginEntry
  repeat' split
  all_goals rfl

theorem State.beginTrunk_domains : s.beginTrunk.domains = s.domains := by
  unfold State.beginTrunk State.beginResponse State.beginReport
  dsimp only
  repeat' split
  all_goals first | rfl | exact s.beginEntry_domains _

theorem State.beginBranch_domains (b : Branch) : (s.beginBranch b).domains = s.domains := by
  unfold State.beginBranch
  split
  · exact s.beginEntry_domains _
  · rfl

theorem State.delivered_domains (p : Port) : (s.delivered p).domains = s.domains := by
  unfold State.delivered State.trunkDelivered
  dsimp only
  repeat' split
  all_goals rfl

theorem State.trunkGivesUp_domains : s.trunkGivesUp.domains = s.domains := by
  rfl

theorem State.countDiscard_moves (p : Port) : s.Moves arming (s.countDiscard p) := by
  have hcount : s.Moves arming (s.modPort p fun ps =>
      { ps with discards := min Config.attemptLimit (ps.discards + 1) }) := .of_eq rfl
  unfold State.countDiscard
  dsimp only
  split
  · exact hcount
  split
  · exact hcount.trans (.of_eq (State.trunkGivesUp_domains _))
  split
  · exact hcount
  · exact hcount.trans (State.isolate_moves _ _ _)

theorem State.endEntry_moves (p : Port) (o : AttemptOutcome) : s.Moves arming (s.endEntry p o) := by
  unfold State.endEntry
  repeat' split
  · exact State.Quietly.moves (.since (State.settlePort_quietly _ p) (State.delivered_domains _ p))
  · exact (State.Moves.since (State.countDiscard_moves (s.dropAt p 0) p) rfl).trans (State.settlePort_quietly _ p).moves
  · exact State.Quietly.moves (.since (State.settlePort_quietly _ p) rfl)
  · exact State.Quietly.moves (.since (State.settlePort_quietly _ p) rfl)
  · exact .refl s

theorem State.endAttempt_moves (p : Port) (f : Flight) (o : AttemptOutcome) :
    s.Moves arming (s.endAttempt p f o) := by
  unfold State.endAttempt State.endRemoved State.endResponse State.endReport
  dsimp only
  repeat' split
  all_goals
    first
    | exact State.Moves.since (State.endEntry_moves _ p o) rfl
    | exact State.Quietly.moves (.since (State.settlePort_quietly _ p) (State.delivered_domains _ p))
    | exact State.Quietly.moves (.since (State.settlePort_quietly _ p) rfl)
    | exact .of_eq rfl
    | exact .of_eq (State.delivered_domains _ _)
    | exact State.Moves.since (State.countDiscard_moves _ _) rfl

/-! ## Part modes, receptions and resets -/

theorem State.rouseBranches_domains : s.rouseBranches.domains = s.domains := by
  simp only [State.rouseBranches, State.mapBranches_domains, State.mapPorts_domains]

theorem State.enterUnconfigured_moves : s.Moves arming s.enterUnconfigured :=
  State.Moves.since (State.wakeGroup_moves _ _) (State.rouseBranches_domains _)

theorem State.flushQueues_domains : s.flushQueues.domains = s.domains := by
  have purges : ∀ (l : List Port) (t : State), (l.foldl (fun t p => t.purge p fun _ => false) t).domains = t.domains := by
    intro l
    induction l with
    | nil => exact fun _ => rfl
    | cons p l ih => exact fun t => ih (t.purge p fun _ => false)
  exact purges allPorts s

theorem State.enterFallback_moves : s.Moves arming s.enterFallback := by
  unfold State.enterFallback
  dsimp only
  refine State.Moves.trans (.since (State.cut_moves
    { s with mode := .fallback, deadline := 0, requests := [], classification := none } fun _ => true) rfl)
    (.of_eq ?_)
  rw [State.raise_domains, State.mapPorts_domains, State.flushQueues_domains, State.mapBranches_domains]

theorem State.parkBranch_quietly (b : Branch) : s.Quietly (s.parkBranch b) := by
  unfold State.parkBranch State.returnToRest
  repeat' split
  all_goals
    first
    | exact .refl s
    | exact (s.withdrawMarker_quietly b).trans (.of_eq rfl)
    | exact .of_eq (State.goRest_domains _ b)

/-- Park before domains and branches: the account restarted and recomputed, the mode and the countdowns. -/
def State.parkStarted (s : State) : State :=
  let s1 := { s with account := s.account.restarted s.budget, parkClock := 0 }.recompute
  { s1 with mode := .parked }.mapSchedule fun _ e => if e.enabled then { e with countdown := e.firstDelay } else e

/-- Park with its lingers loaded, before the branches. -/
def State.parkLoaded (s : State) : State :=
  s.parkStarted.mapDomains fun d x => x.parked (s.parkStarted.cappedDefault d)

theorem State.parkNow_eq : s.parkNow = allBranches.foldl State.parkBranch s.parkLoaded := rfl

theorem State.parkStarted_quietly : s.Quietly s.parkStarted := by
  have restarted : s.Quietly { s with account := s.account.restarted s.budget, parkClock := 0 }.recompute :=
    (State.recompute_quietly _).since rfl
  refine restarted.trans (.of_eq ?_)
  rw [State.parkStarted, State.mapSchedule_domains]

theorem State.parkLoaded_quietly : s.Quietly s.parkLoaded :=
  s.parkStarted_quietly.trans (.mapDomains _ fun d => by
    unfold Domain.parked
    split
    · rename_i hstate
      exact .inr (.reloaded _ _ hstate)
    · rename_i hstate
      exact .inr (.asked _ _ s.parkStarted.domains[d].pendingClass (by rw [hstate]; rfl))
    · rename_i hstate
      exact .inr (.asked _ _ s.parkStarted.domains[d].pendingClass (by rw [hstate]; rfl))
    all_goals exact .inl rfl)

theorem State.parkNow_quietly : s.Quietly s.parkNow :=
  s.parkLoaded_quietly.trans (.foldl State.parkBranch_quietly allBranches _)

/-- Depart before its wake requests. -/
def State.departStarted (s : State) : State :=
  ({ s with mode := .drive }.rouseBranches.mapBranches fun _ bs => { bs with chatterCount := 0 }).mapDomains fun _ d =>
    d.unarmed

theorem State.departNow_eq : s.departNow = s.departStarted.wakeGroup allDomains := rfl

/-- Depart disarms every domain before it requests them. -/
theorem State.departStarted_domains (d : DomainIx) : s.departStarted.domains[d] = s.domains[d].unarmed := by
  rw [State.departStarted, State.mapDomains_get, State.mapBranches_domains, State.rouseBranches_domains]

theorem State.departStarted_quietly : s.Quietly s.departStarted := fun d => by
  rw [State.departStarted_domains]
  exact .single (.unarmed _)

theorem State.departNow_moves : s.departStarted.Moves arming s.departNow := State.wakeGroup_moves _ _

theorem State.land_moves (p : Port) (f : Frame) : s.Moves arming (s.land p f) := by
  have heard : ((s.modPort p fun ps => { ps with landing := ps.landing ++ [f] }).heardAt p).domains = s.domains := by
    unfold State.heardAt
    split <;> rfl
  unfold State.land
  dsimp only
  split <;> split
  · exact State.Moves.since (State.enterUnconfigured_moves _) heard
  · exact State.Moves.since ((State.receptionNotice_quietly _ _).moves.trans (State.enterUnconfigured_moves _)) heard
  · exact .of_eq heard
  · exact State.Quietly.moves (.since (State.receptionNotice_quietly _ _) heard)

theorem State.heardAt_domains (p : Port) : (s.heardAt p).domains = s.domains := by
  unfold State.heardAt
  split <;> rfl

theorem State.chatterAt_moves (p : Port) : s.Moves arming (s.chatterAt p) := by
  unfold State.chatterAt
  split
  · exact .refl s
  · exact s.chatter_moves _

theorem State.reportOverrun_domains (p : Port) : (s.reportOverrun p).domains = s.domains := by
  unfold State.reportOverrun
  split
  · rfl
  · rw [State.raise_domains]
    rfl

/-- A warm reset restarts every domain before the arbiter runs. -/
theorem State.warmReset_moves (straps : Fin 4) :
    ∃ u : State, (∀ d : DomainIx, u.domains[d] = s.domains[d].warmed) ∧ u.Moves False (s.warmReset straps) := by
  refine ⟨State.recomputeSilently _, fun d => ?_, State.runArbiter_moves _⟩
  simp only [State.recomputeSilently]
  rw [State.mapDomains_get, State.mapSchedule_domains, State.mapRules_domains, State.mapBranches_domains,
    State.mapPorts_domains]

end

end Sys2Proof.Machine
end

section
/-! What an operation keeps of ports, branches and the frame pool. A lane is a branch with its port front end, or TP's
front end alone; the laws of queues, drains, rest, sizes and marks (O5, O6, O7, O10) speak of one lane at a time, and
the pool's account of their sum. `State.Keeps` says that an operation keeps each of these laws by itself. -/

namespace Sys2Proof.Machine

/-! ## Lanes -/

/-- A port front end with the record of its branch, which TP does not have. -/
structure Lane where
  branch : Option BranchState
  port : PortState

/-- The lane of a port. -/
def State.lane (s : State) (p : Port) : Lane := ⟨(branchOf p).map fun b => s.branches[b], s.ports[p]⟩

theorem State.lane_portOf (s : State) (b : Branch) : s.lane (portOf b) = ⟨some s.branches[b], s.ports[portOf b]⟩ := by
  rw [State.lane, branchOf_portOf]
  rfl

theorem State.lane_trunkPort (s : State) : s.lane trunkPort = ⟨none, s.ports[trunkPort]⟩ := rfl

/-- A port is TP or a branch's. -/
theorem forall_port {P : Port → Prop} : (∀ p, P p) ↔ P trunkPort ∧ ∀ b, P (portOf b) := by
  constructor
  · exact fun h => ⟨h _, fun b => h _⟩
  · rintro ⟨htrunk, hbranch⟩ p
    cases h : branchOf p with
    | none => rw [(branchOf_eq_none_iff p).1 h]; exact htrunk
    | some b => rw [(branchOf_eq_some_iff p b).1 h]; exact hbranch b

/-- What a lane holds of its drain, whether or not it is settled. -/
def Lane.loose (l : Lane) : Prop :=
  match l.branch with
  | none => QueueItem.marker ∉ l.port.queue
  | some bs =>
    (l.port.flight.all fun f => f.source == .entry || f.source == .removed) = true ∧
      if bs.mode = .draining then l.port.queue.count .marker = 1 ∧ bs.drainTimer.isSome = !bs.closing
      else QueueItem.marker ∉ l.port.queue ∧ bs.drainTimer = none ∧ bs.closing = false

/-- A drain that is settled: its marker is not at the head, and it waits for an attempt where it is closing. -/
def Lane.tight (l : Lane) : Prop :=
  ∀ bs ∈ l.branch, bs.mode = .draining →
    l.port.queue.head? ≠ some .marker ∧ (bs.closing = true → l.port.flight.isSome = true)

/-- What a lane at rest or isolated holds. -/
def Lane.rests (l : Lane) : Prop :=
  ∀ bs ∈ l.branch, (bs.mode.atRest = true → ∀ i ∈ l.port.queue, i.held = true)
    ∧ (bs.mode = .off → l.port.landing = []) ∧ (bs.mode = .isolated → l.port.queue = [] ∧ l.port.landing = [])

/-- An isolation timer runs and a cause stands exactly while the branch is Isolated. -/
def Lane.sealed (l : Lane) : Prop :=
  ∀ bs ∈ l.branch, bs.isolationTimer.isSome = (bs.mode == .isolated) ∧ (bs.cause = .none ↔ bs.mode ≠ .isolated)

/-- Landing buffer, discard count and attempt counts are within their sizes. -/
def Lane.fits (l : Lane) : Prop :=
  l.port.landing.length ≤ 2 ∧ l.port.discards ≤ 3 ∧ (∀ i ∈ l.port.queue, i.attemptsBounded)
    ∧ (l.branch = none → l.port.discards < 3)

/-- A working branch has its seen-powered mark set. -/
def Lane.seen (l : Lane) : Prop :=
  ∀ bs ∈ l.branch, bs.mode = .waking ∨ bs.mode = .awake ∨ bs.mode = .draining → bs.seen = true

/-- The sizes of the queues of requests and reports and of the response's attempts. -/
def State.slotsFit (s : State) : Prop :=
  s.requests.length ≤ 4 ∧ s.reports.length ≤ 16 ∧ (∀ r ∈ s.response, r.attempts ≤ 3) ∧ ∀ r ∈ s.reports, r.attempts ≤ 3

/-- How many entries of a port's queue are not of class A. -/
def PortState.belowA (ps : PortState) : Nat := ps.queue.countP QueueItem.belowA

theorem markerLaw_iff (s : State) : MarkerLaw s ↔ (∀ p, (s.lane p).loose) ∧ ∀ p, (s.lane p).tight := by
  rw [forall_port, forall_port]
  simp only [State.lane_trunkPort, State.lane_portOf]
  constructor
  · rintro ⟨htrunk, hbranch⟩
    refine ⟨⟨htrunk, fun b => ?_⟩, by rintro _ ⟨⟩, fun b => ?_⟩
    · obtain ⟨hflight, h⟩ := hbranch b
      refine ⟨hflight, ?_⟩
      dsimp only
      split at h
      · rename_i hmode
        obtain ⟨hcount, -, htimer, -⟩ := h
        exact (if_pos hmode).mpr ⟨hcount, htimer⟩
      · rename_i hmode
        exact (if_neg hmode).mpr h
    · obtain ⟨-, h⟩ := hbranch b
      rintro _ ⟨⟩ hmode
      obtain ⟨-, hhead, -, hclosing⟩ := (if_pos hmode).mp h
      exact ⟨hhead, hclosing⟩
  · rintro ⟨⟨htrunk, hloose⟩, -, htight⟩
    refine ⟨htrunk, fun b => ?_⟩
    obtain ⟨hflight, h⟩ := hloose b
    refine ⟨hflight, ?_⟩
    dsimp only at h
    split
    · rename_i hmode
      obtain ⟨hcount, htimer⟩ := (if_pos hmode).mp h
      obtain ⟨hhead, hclosing⟩ := htight b _ rfl hmode
      exact ⟨hcount, hhead, htimer, hclosing⟩
    · rename_i hmode
      exact (if_neg hmode).mp h

theorem restLaw_iff (s : State) : RestLaw s ↔ (∀ p, (s.lane p).rests) ∧ ∀ p, (s.lane p).sealed := by
  rw [forall_port, forall_port]
  simp only [State.lane_trunkPort, State.lane_portOf]
  constructor
  · intro h
    refine ⟨⟨by rintro _ ⟨⟩, fun b => ?_⟩, by rintro _ ⟨⟩, fun b => ?_⟩
    · obtain ⟨hqueue, hlanding, hempty, -, -⟩ := h b
      rintro _ ⟨⟩
      exact ⟨hqueue, hlanding, hempty⟩
    · obtain ⟨-, -, -, htimer, hcause⟩ := h b
      rintro _ ⟨⟩
      exact ⟨htimer, hcause⟩
  · rintro ⟨⟨-, hrests⟩, -, hsealed⟩ b
    obtain ⟨hqueue, hlanding, hempty⟩ := hrests b _ rfl
    obtain ⟨htimer, hcause⟩ := hsealed b _ rfl
    exact ⟨hqueue, hlanding, hempty, htimer, hcause⟩

theorem capacityLaw_iff (s : State) : CapacityLaw s ↔ s.slotsFit ∧ ∀ p, (s.lane p).fits := by
  constructor
  · rintro ⟨hrequests, hreports, htrunk, hports, hresponse, hattempts⟩
    refine ⟨⟨hrequests, hreports, hresponse, hattempts⟩, fun p => ?_⟩
    obtain ⟨hlanding, hdiscards, hqueue⟩ := hports p
    refine ⟨hlanding, hdiscards, hqueue, fun h => ?_⟩
    obtain rfl := (branchOf_eq_none_iff p).1 (Option.map_eq_none_iff.1 h)
    exact htrunk
  · rintro ⟨⟨hrequests, hreports, hresponse, hattempts⟩, hlanes⟩
    refine ⟨hrequests, hreports, (hlanes trunkPort).2.2.2 rfl, fun p => ?_, hresponse, hattempts⟩
    obtain ⟨hlanding, hdiscards, hqueue, -⟩ := hlanes p
    exact ⟨hlanding, hdiscards, hqueue⟩

theorem seenLaw_iff (s : State) : SeenLaw s ↔
    (∀ d : DomainIx, s.domains[d].state.enabled = true → s.domains[d].seen = true) ∧ ∀ p, (s.lane p).seen := by
  rw [forall_port]
  simp only [State.lane_trunkPort, State.lane_portOf]
  constructor
  · rintro ⟨hdomain, hbranch⟩
    refine ⟨hdomain, by rintro _ ⟨⟩, fun b => ?_⟩
    rintro _ ⟨⟩
    exact hbranch b
  · rintro ⟨hdomain, -, hbranch⟩
    exact ⟨hdomain, fun b => hbranch b _ rfl⟩

theorem State.queued_countP_belowA (s : State) : s.queued.countP QueueItem.belowA = s.portSum PortState.belowA := by
  simp only [State.portSum, State.queued, allPorts, PortState.belowA, List.map_cons, List.map_nil, List.sum_cons,
    List.sum_nil, List.flatMap_cons, List.flatMap_nil, List.countP_append, List.countP_nil]

theorem poolLaw_iff (s : State) : PoolLaw s ↔
    s.buffers = 96 ∧ s.portSum PortState.belowA ≤ 88 ∧ ∀ p, (s.lane p).port.transmissionCoherent := by
  rw [PoolLaw, s.buffers_eq, s.queued_countP_belowA]
  rfl

/-- Every entry that is not of class A holds a buffer. -/
theorem PortState.belowA_le_load (ps : PortState) : ps.belowA ≤ ps.load :=
  le_trans (List.countP_mono_left fun i _ h => by cases i with
    | frame e => rfl
    | marker => exact absurd h Bool.false_ne_true) (Nat.le_add_right _ _)

/-! ## What an operation keeps -/

/-- One lane keeps its part of every law, from a count of free buffers to another; where `unsettled` it need not keep
its drain settled, where `unsealed` not its isolation sealed. -/
structure LaneKeeps (unsettled unsealed : Prop) (l : Lane) (n : Nat) (l' : Lane) (n' : Nat) : Prop where
  loose : l.loose → l'.loose
  tight : ¬ unsettled → l.loose → l.tight → l'.tight
  rests : l.rests → l'.rests
  sealed : ¬ unsealed → l.rests → l.sealed → l'.sealed
  coherent : l.port.transmissionCoherent → l'.port.transmissionCoherent
  load : l.port.transmissionCoherent → n' + l'.port.load = n + l.port.load
  below : l'.port.belowA ≤ l.port.belowA ∨ l'.port.belowA ≤ l.port.belowA + 1 ∧ 9 ≤ n
  fits : l.fits → l'.fits
  seen : l.seen → l'.seen

/-- An operation keeps each law by itself, with the drain of port `x` unsettled meanwhile, and the isolation of port
`y` unsealed. -/
structure State.Keeps (x y : Option Port) (s t : State) : Prop where
  loose : (∀ p, (s.lane p).loose) → ∀ p, (t.lane p).loose
  tight : (∀ p, (s.lane p).loose) → (∀ p, x ≠ some p → (s.lane p).tight) → ∀ p, x ≠ some p → (t.lane p).tight
  rests : (∀ p, (s.lane p).rests) → ∀ p, (t.lane p).rests
  sealed : (∀ p, (s.lane p).rests) → (∀ p, y ≠ some p → (s.lane p).sealed) → ∀ p, y ≠ some p → (t.lane p).sealed
  pool : PoolLaw s → PoolLaw t
  slots : s.slotsFit → t.slotsFit
  fits : (∀ p, (s.lane p).fits) → ∀ p, (t.lane p).fits
  seen : (∀ p, (s.lane p).seen) → ∀ p, (t.lane p).seen

section
variable {x y : Option Port} {s t u : State}

theorem State.Keeps.refl (s : State) : s.Keeps x y s :=
  ⟨id, fun _ => id, id, fun _ => id, id, id, id, id⟩

theorem State.Keeps.trans (h : s.Keeps x y t) (h' : t.Keeps x y u) : s.Keeps x y u where
  loose := h'.loose ∘ h.loose
  tight hl ht := h'.tight (h.loose hl) (h.tight hl ht)
  rests := h'.rests ∘ h.rests
  sealed hr hs := h'.sealed (h.rests hr) (h.sealed hr hs)
  pool := h'.pool ∘ h.pool
  slots := h'.slots ∘ h.slots
  fits := h'.fits ∘ h.fits
  seen := h'.seen ∘ h.seen

theorem State.Keeps.foldl {α : Type} {f : State → α → State} (h : ∀ (s : State) (a : α), s.Keeps x y (f s a))
    (l : List α) (s : State) : s.Keeps x y (l.foldl f s) := by
  induction l generalizing s with
  | nil => exact .refl s
  | cons a l ih => exact (h s a).trans (ih _)

/-- Each law by itself. -/
theorem State.Keeps.markerLaw (h : s.Keeps none y t) (hs : MarkerLaw s) : MarkerLaw t := by
  rw [markerLaw_iff] at hs ⊢
  exact ⟨h.loose hs.1, fun p => h.tight hs.1 (fun p _ => hs.2 p) p nofun⟩

theorem State.Keeps.restLaw (h : s.Keeps x none t) (hs : RestLaw s) : RestLaw t := by
  rw [restLaw_iff] at hs ⊢
  exact ⟨h.rests hs.1, fun p => h.sealed hs.1 (fun p _ => hs.2 p) p nofun⟩

theorem State.Keeps.capacityLaw (h : s.Keeps x y t) (hs : CapacityLaw s) : CapacityLaw t := by
  rw [capacityLaw_iff] at hs ⊢
  exact ⟨h.slots hs.1, h.fits hs.2⟩

end

/-! ## One lane changed, and lanes changed alike -/

section
variable {a b : Prop}

theorem LaneKeeps.refl (l : Lane) (n : Nat) : LaneKeeps a b l n l n :=
  ⟨id, fun _ _ => id, id, fun _ _ => id, id, fun _ => rfl, .inl le_rfl, id, id⟩

variable {x y : Option Port} {s t : State}

theorem State.portSum_of_lanes (g : PortState → Nat) (h : ∀ p, g (t.lane p).port = g (s.lane p).port) :
    t.portSum g = s.portSum g := congrArg List.sum (List.map_congr_left fun p _ => h p)

/-- A change of one lane and of the count of free buffers. -/
theorem State.Keeps.of_lane (p : Port) (hothers : ∀ q, q ≠ p → t.lane q = s.lane q)
    (hslots : s.slotsFit → t.slotsFit)
    (h : LaneKeeps (x = some p) (y = some p) (s.lane p) s.freeBuffers (t.lane p) t.freeBuffers) : s.Keeps x y t := by
  have each : ∀ {P : Lane → Prop}, (P (s.lane p) → P (t.lane p)) → (∀ q, P (s.lane q)) → ∀ q, P (t.lane q) := by
    intro P hp hs q
    rcases eq_or_ne q p with rfl | hne
    · exact hp (hs q)
    · rw [hothers q hne]
      exact hs q
  refine ⟨each h.loose, fun hl ht q hq => ?_, each h.rests, fun hr hs q hq => ?_, fun hs => ?_, hslots, each h.fits,
    each h.seen⟩
  · rcases eq_or_ne q p with rfl | hne
    · exact h.tight hq (hl q) (ht q hq)
    · rw [hothers q hne]
      exact ht q hq
  · rcases eq_or_ne q p with rfl | hne
    · exact h.sealed hq (hr q) (hs q hq)
    · rw [hothers q hne]
      exact hs q hq
  · rw [poolLaw_iff] at hs ⊢
    obtain ⟨htotal, hbelow, hcoherent⟩ := hs
    have sums : ∀ g : PortState → Nat, t.portSum g + g (s.lane p).port = s.portSum g + g (t.lane p).port := fun g =>
      sum_of_changed (u := fun q => g s.ports[q]) (v := fun q => g t.ports[q]) allPorts_nodup (mem_allPorts p)
        fun q hq => congrArg (fun l : Lane => g l.port) (hothers q hq)
    have hload := h.load (hcoherent p)
    have hsum := sums PortState.load
    have hbelowSum := sums PortState.belowA
    have hbound : s.portSum PortState.belowA ≤ s.portSum PortState.load :=
      List.sum_le_sum fun q _ => PortState.belowA_le_load _
    rw [State.buffers] at htotal ⊢
    refine ⟨by omega, ?_, each (P := fun l => l.port.transmissionCoherent) h.coherent hcoherent⟩
    rcases h.below with hle | ⟨hle, hfree⟩ <;> omega

/-- Every lane changed by itself, with no buffer taken or freed. -/
theorem State.Keeps.of_lanes (hfree : t.freeBuffers = s.freeBuffers) (hslots : s.slotsFit → t.slotsFit)
    (h : ∀ p, LaneKeeps False False (s.lane p) 0 (t.lane p) 0) : s.Keeps x y t where
  loose hs p := (h p).loose (hs p)
  tight hl ht p hp := (h p).tight id (hl p) (ht p hp)
  rests hs p := (h p).rests (hs p)
  sealed hr hs p hp := (h p).sealed id (hr p) (hs p hp)
  pool hs := by
    rw [poolLaw_iff] at hs ⊢
    obtain ⟨htotal, hbelow, hcoherent⟩ := hs
    refine ⟨?_, le_trans (List.sum_le_sum fun p _ => ?_) hbelow, fun p => (h p).coherent (hcoherent p)⟩
    · rw [State.buffers, hfree, State.portSum_of_lanes (s := s) _ fun p => by
        have := (h p).load (hcoherent p)
        omega]
      exact htotal
    · rcases (h p).below with hle | ⟨-, hno⟩
      · exact hle
      · omega
  slots := hslots
  fits hs p := (h p).fits (hs p)
  seen hs p := (h p).seen (hs p)

/-- Ports, branches and free buffers are as before. -/
theorem State.Keeps.calm (hports : t.ports = s.ports) (hbranches : t.branches = s.branches)
    (hfree : t.freeBuffers = s.freeBuffers) (hslots : s.slotsFit → t.slotsFit) : s.Keeps x y t :=
  .of_lanes hfree hslots fun p => by
    have : t.lane p = s.lane p := by rw [State.lane, State.lane, hports, hbranches]
    rw [this]
    exact .refl _ _

end

/-! ## Changes that the laws do not read -/

/-- An item with another deadline. -/
def QueueItem.withDeadline (n : Entry → Nat) : QueueItem → QueueItem
  | .frame e => .frame { e with deadline := n e }
  | .marker => .marker

/-- A branch record that keeps its state, what it holds of a drain and of an isolation, and a working branch's mark. -/
structure BranchState.Soft (bs bs' : BranchState) : Prop where
  mode : bs'.mode = bs.mode
  cause : bs'.cause = bs.cause
  isolation : bs'.isolationTimer.isSome = bs.isolationTimer.isSome
  drain : bs'.drainTimer.isSome = bs.drainTimer.isSome
  closing : bs'.closing = bs.closing
  seen : bs.mode = .waking ∨ bs.mode = .awake ∨ bs.mode = .draining → bs.seen = true → bs'.seen = true

/-- A port front end that keeps its items but for their deadlines, its flight, and its sizes; `off` where nothing may
land. -/
structure PortState.Soft (off trunk : Prop) (ps ps' : PortState) : Prop where
  queue : ∃ n, ps'.queue = ps.queue.map (QueueItem.withDeadline n)
  flight : ps'.flight = ps.flight
  landing : ps.landing.length ≤ 2 → ps'.landing.length ≤ 2
  emptied : off → ps.landing = [] → ps'.landing = []
  discards : ps.discards ≤ 3 → ps'.discards ≤ 3
  trunk : trunk → ps.discards < 3 → ps'.discards < 3

theorem BranchState.Soft.refl (bs : BranchState) : bs.Soft bs := ⟨rfl, rfl, rfl, rfl, rfl, fun _ => id⟩

theorem QueueItem.map_withDeadline_self (q : List QueueItem) : q.map (QueueItem.withDeadline (·.deadline)) = q := by
  conv_rhs => rw [← List.map_id q]
  refine List.map_congr_left fun i _ => ?_
  cases i <;> rfl

section
variable {off trunk : Prop} (n : Entry → Nat) (i : QueueItem)

@[simp] theorem QueueItem.withDeadline_isFrame : (i.withDeadline n).isFrame = i.isFrame := by cases i <;> rfl
@[simp] theorem QueueItem.withDeadline_held : (i.withDeadline n).held = i.held := by cases i <;> rfl
@[simp] theorem QueueItem.withDeadline_sending : (i.withDeadline n).sending = i.sending := by cases i <;> rfl
@[simp] theorem QueueItem.withDeadline_belowA : (i.withDeadline n).belowA = i.belowA := by cases i <;> rfl

@[simp] theorem QueueItem.withDeadline_attemptsBounded : (i.withDeadline n).attemptsBounded ↔ i.attemptsBounded := by
  cases i <;> rfl

@[simp] theorem QueueItem.withDeadline_eq_marker : i.withDeadline n = .marker ↔ i = .marker := by
  cases i <;> simp [QueueItem.withDeadline]

theorem QueueItem.count_marker_map (q : List QueueItem) :
    (q.map (QueueItem.withDeadline n)).count .marker = q.count .marker := by
  induction q with
  | nil => rfl
  | cons i q ih => cases i <;> simp [QueueItem.withDeadline, ih]

theorem QueueItem.marker_mem_map (q : List QueueItem) :
    QueueItem.marker ∈ q.map (QueueItem.withDeadline n) ↔ QueueItem.marker ∈ q := by
  simp

end

/-- A front end with the same items and flight. -/
theorem PortState.Soft.of_items {off trunk : Prop} {ps ps' : PortState} (hqueue : ps'.queue = ps.queue)
    (hflight : ps'.flight = ps.flight) (hlanding : ps.landing.length ≤ 2 → ps'.landing.length ≤ 2)
    (hemptied : off → ps.landing = [] → ps'.landing = []) (hdiscards : ps.discards ≤ 3 → ps'.discards ≤ 3)
    (htrunk : trunk → ps.discards < 3 → ps'.discards < 3) : PortState.Soft off trunk ps ps' :=
  ⟨⟨_, hqueue.trans (QueueItem.map_withDeadline_self _).symm⟩, hflight, hlanding, hemptied, hdiscards, htrunk⟩

theorem PortState.Soft.refl {off trunk : Prop} (ps : PortState) : PortState.Soft off trunk ps ps :=
  .of_items rfl rfl id (fun _ => id) id fun _ => id

/-- The state of the lane's branch is one where nothing may land. -/
def Lane.away (l : Lane) : Prop := ∃ bs ∈ l.branch, bs.mode = .off ∨ bs.mode = .isolated

theorem transmissionCoherent_of_map {ps ps' : PortState} {n : Entry → Nat}
    (hqueue : ps'.queue = ps.queue.map (QueueItem.withDeadline n)) (hflight : ps'.flight = ps.flight)
    (h : ps.transmissionCoherent) : ps'.transmissionCoherent := by
  obtain ⟨htail, hhead⟩ := h
  refine ⟨?_, ?_⟩
  · rw [hqueue, ← List.map_tail]
    intro i hi
    obtain ⟨j, hj, rfl⟩ := List.mem_map.1 hi
    rw [QueueItem.withDeadline_sending]
    exact htail j hj
  · rw [hqueue, hflight, ← hhead, List.head?_map, Option.any_map]
    exact congrArg (Option.any · _) (funext fun i => QueueItem.withDeadline_sending n i)

theorem PortState.Soft.load_eq {off trunk : Prop} {ps ps' : PortState} (h : PortState.Soft off trunk ps ps') :
    ps'.load = ps.load := by
  obtain ⟨n, hqueue⟩ := h.queue
  rw [PortState.load, PortState.load, h.flight, hqueue, frameCount, frameCount, List.countP_map]
  exact congrArg (· + _) (congrArg (List.countP · _) (funext fun i => QueueItem.withDeadline_isFrame n i))

theorem PortState.Soft.belowA_eq {off trunk : Prop} {ps ps' : PortState} (h : PortState.Soft off trunk ps ps') :
    ps'.belowA = ps.belowA := by
  obtain ⟨n, hqueue⟩ := h.queue
  rw [PortState.belowA, PortState.belowA, hqueue, List.countP_map]
  exact congrArg (List.countP · _) (funext fun i => QueueItem.withDeadline_belowA n i)

/-- The part of soft changes for TP's front end, and for a branch. -/
theorem LaneKeeps.of_softPort {a b : Prop} {ps ps' : PortState} (n : Nat) (h : PortState.Soft False True ps ps') :
    LaneKeeps a b ⟨none, ps⟩ n ⟨none, ps'⟩ n := by
  obtain ⟨d, hqueue⟩ := h.queue
  refine ⟨fun hl => ?_, fun _ _ _ => by rintro _ ⟨⟩, fun _ => by rintro _ ⟨⟩, fun _ _ _ => by rintro _ ⟨⟩,
    transmissionCoherent_of_map hqueue h.flight, fun _ => congrArg (n + ·) h.load_eq, .inl h.belowA_eq.le, fun hf => ?_,
    fun _ => by rintro _ ⟨⟩⟩
  · show QueueItem.marker ∉ ps'.queue
    rw [hqueue, QueueItem.marker_mem_map]
    exact hl
  · obtain ⟨hlanding, hdiscards, hattempts, htrunk⟩ := hf
    refine ⟨h.landing hlanding, h.discards hdiscards, fun i hi => ?_, fun _ => h.trunk trivial (htrunk rfl)⟩
    change i ∈ ps'.queue at hi
    rw [hqueue] at hi
    obtain ⟨j, hj, rfl⟩ := List.mem_map.1 hi
    exact (QueueItem.withDeadline_attemptsBounded d j).2 (hattempts j hj)

theorem LaneKeeps.of_soft {a b : Prop} {bs bs' : BranchState} {ps ps' : PortState} (n : Nat) (hb : bs.Soft bs')
    (h : PortState.Soft (bs.mode = .off ∨ bs.mode = .isolated) False ps ps') :
    LaneKeeps a b ⟨some bs, ps⟩ n ⟨some bs', ps'⟩ n := by
  obtain ⟨d, hqueue⟩ := h.queue
  have hnone : bs'.drainTimer = none ↔ bs.drainTimer = none := by
    rw [← Option.isNone_iff_eq_none, ← Option.isNone_iff_eq_none, ← Option.not_isSome, ← Option.not_isSome, hb.drain]
  refine ⟨fun hl => ?_, fun _ _ ht => ?_, fun hr => ?_, fun _ _ hs => ?_,
    transmissionCoherent_of_map hqueue h.flight, fun _ => congrArg (n + ·) h.load_eq, .inl h.belowA_eq.le, fun hf => ?_,
    fun hs => ?_⟩
  · simp only [Lane.loose] at hl ⊢
    rw [h.flight, hqueue, QueueItem.count_marker_map, QueueItem.marker_mem_map, hb.mode, hb.drain, hb.closing, hnone]
    exact hl
  · rintro _ ⟨⟩ hmode
    obtain ⟨hhead, hclosing⟩ := ht bs rfl (hb.mode ▸ hmode)
    refine ⟨fun e => hhead ?_, fun e => ?_⟩
    · change ps'.queue.head? = _ at e
      rw [hqueue, List.head?_map, Option.map_eq_some_iff] at e
      obtain ⟨i, hi, e⟩ := e
      exact hi.trans (congrArg some ((QueueItem.withDeadline_eq_marker d i).1 e))
    · change ps'.flight.isSome = true
      rw [h.flight]
      exact hclosing (hb.closing ▸ e)
  · rintro _ ⟨⟩
    obtain ⟨hheld, hoff, hisolated⟩ := hr bs rfl
    rw [hb.mode]
    refine ⟨fun e i hi => ?_, fun e => h.emptied (.inl e) (hoff e), fun e => ⟨?_, h.emptied (.inr e) (hisolated e).2⟩⟩
    · change i ∈ ps'.queue at hi
      rw [hqueue] at hi
      obtain ⟨j, hj, rfl⟩ := List.mem_map.1 hi
      rw [QueueItem.withDeadline_held]
      exact hheld e j hj
    · exact hqueue.trans (congrArg (List.map _) (hisolated e).1)
  · rintro _ ⟨⟩
    rw [hb.mode, hb.isolation, hb.cause]
    exact hs bs rfl
  · obtain ⟨hlanding, hdiscards, hattempts, -⟩ := hf
    refine ⟨h.landing hlanding, h.discards hdiscards, fun i hi => ?_, nofun⟩
    change i ∈ ps'.queue at hi
    rw [hqueue] at hi
    obtain ⟨j, hj, rfl⟩ := List.mem_map.1 hi
    exact (QueueItem.withDeadline_attemptsBounded d j).2 (hattempts j hj)
  · rintro _ ⟨⟩ hmode
    rw [hb.mode] at hmode
    exact hb.seen hmode (hs bs rfl hmode)

end Sys2Proof.Machine
end

section
/-! The lane moves that the laws do read: a branch that begins work, goes to rest, is isolated or freed, a marker placed
or withdrawn, and entries and attempts that join, begin and end. -/

namespace Sys2Proof.Machine

section
variable {a c : Prop} {bs bs' : BranchState} {ps ps' : PortState} {n n' : Nat}

/-! ## Queues -/

/-- A queue in transmission at its head alone stays so when items leave it, or join it, that are idle. -/
theorem transmissionCoherent_of_idle {q : List QueueItem} (hq : ∀ i ∈ q, i.sending = false)
    (hflight : ps.flight.any (·.source == .entry) = false) (hqueue : ps.queue = q) : ps.transmissionCoherent := by
  subst hqueue
  refine ⟨fun i hi => hq i (List.mem_of_mem_tail hi), ?_⟩
  rw [hflight]
  cases h : ps.queue with
  | nil => rfl
  | cons i q => exact hq i (h ▸ List.mem_cons_self)

theorem any_entry_orphan (f : Option Flight) : (f.map Flight.orphan).any (·.source == .entry) = false := by
  cases f with
  | none => rfl
  | some f =>
    cases h : f.source <;> simp [Flight.orphan, h]

theorem all_sources_orphan {f : Option Flight} (h : (f.all fun f => f.source == .entry || f.source == .removed) = true) :
    ((f.map Flight.orphan).all fun f => f.source == .entry || f.source == .removed) = true := by
  cases f with
  | none => rfl
  | some f =>
    cases e : f.source <;> simp_all [Flight.orphan]

theorem PortState.purged_sources {keep : QueueItem → Bool}
    (h : (ps.flight.all fun f => f.source == .entry || f.source == .removed) = true) :
    ((ps.purged keep).flight.all fun f => f.source == .entry || f.source == .removed) = true := by
  simp only [PortState.purged]
  split
  · exact all_sources_orphan h
  · exact h

/-- No item of a coherent queue is in transmission behind its head. -/
theorem PortState.transmissionCoherent.idle_of_head {i : QueueItem} {q : List QueueItem}
    (h : ps.transmissionCoherent) (hqueue : ps.queue = i :: q) : ∀ j ∈ q, j.sending = false := fun j hj =>
  h.1 j (by rw [hqueue]; exact hj)

theorem PortState.purged_coherent (h : ps.transmissionCoherent) (keep : QueueItem → Bool) :
    (ps.purged keep).transmissionCoherent := by
  obtain ⟨htail, hhead⟩ := h
  cases hqueue : ps.queue with
  | nil =>
    rw [hqueue] at hhead
    refine transmissionCoherent_of_idle (q := []) nofun ?_ (by simp [PortState.purged, hqueue])
    simp [PortState.purged, hqueue, ← hhead]
  | cons i q =>
    rw [hqueue] at htail hhead
    have hidle : ∀ j ∈ q, j.sending = false := htail
    have hgone : (q.filter fun j => !keep j).any QueueItem.sending = false :=
      List.any_eq_false.2 fun j hj => by simp [hidle j (List.mem_filter.1 hj).1]
    have hrest : ∀ j ∈ q.filter keep, j.sending = false := fun j hj => hidle j (List.mem_filter.1 hj).1
    cases hkeep : keep i with
    | true =>
      refine ⟨by simpa [PortState.purged, hqueue, hkeep] using hrest, ?_⟩
      simp only [PortState.purged, hqueue, List.filter_cons, hkeep, if_true, Bool.not_true, Bool.false_eq_true,
        if_false, hgone]
      exact hhead
    | false =>
      refine transmissionCoherent_of_idle hrest ?_ (by simp [PortState.purged, hqueue, hkeep])
      simp only [PortState.purged, hqueue, List.filter_cons, hkeep, Bool.not_false, if_true, List.any_cons, hgone,
        Bool.or_false]
      split
      · exact any_entry_orphan _
      · rename_i hsending
        rw [← hhead]
        simpa using hsending

theorem PortState.purged_belowA_le (keep : QueueItem → Bool) : (ps.purged keep).belowA ≤ ps.belowA :=
  List.Sublist.countP_le List.filter_sublist

/-- The buffers that a purge frees. -/
def PortState.freed (ps : PortState) (keep : QueueItem → Bool) : Nat :=
  (ps.queue.filter fun i => !keep i).countP fun i => i.isFrame && !i.sending

/-- A branch that is Isolated neither before nor after keeps its isolation's fields. -/
theorem Lane.sealed.of_open (hs : Lane.sealed ⟨some bs, ps⟩) (hne : bs.mode ≠ .isolated) (hnot : bs'.mode ≠ .isolated)
    (hcause : bs'.cause = bs.cause) (htimer : bs'.isolationTimer = bs.isolationTimer) :
    Lane.sealed ⟨some bs', ps'⟩ := by
  rintro _ ⟨⟩
  obtain ⟨hrun, hcause'⟩ := hs bs rfl
  rw [hcause, htimer, hrun, hcause']
  exact ⟨by rw [beq_eq_false_iff_ne.2 hne, beq_eq_false_iff_ne.2 hnot], iff_of_true hne hnot⟩

/-- A branch's lane keeps its sizes where its items are old ones or bounded, and its other counts no greater. -/
theorem Lane.fits.of_branch (hf : Lane.fits ⟨some bs, ps⟩) (hqueue : ∀ i ∈ ps'.queue, i ∈ ps.queue ∨ i.attemptsBounded)
    (hlanding : ps'.landing = ps.landing ∨ ps'.landing = []) (hdiscards : ps'.discards ≤ ps.discards) :
    Lane.fits ⟨some bs', ps'⟩ := by
  obtain ⟨hland, hdis, hattempts, -⟩ := hf
  refine ⟨?_, le_trans hdiscards hdis, fun i hi => (hqueue i hi).elim (hattempts i) id, nofun⟩
  rcases hlanding with h | h
  · exact (congrArg List.length h).trans_le hland
  · exact (congrArg List.length h).trans_le (Nat.zero_le 2)

/-! ## Branches -/

/-- A branch begins to work, or goes on working. -/
theorem LaneKeeps.of_working (hmode : bs'.mode = .waking ∨ bs'.mode = .awake) (hisolated : bs.mode ≠ .isolated)
    (hdraining : bs.mode ≠ .draining) (hcause : bs'.cause = bs.cause) (htimer : bs'.isolationTimer = bs.isolationTimer)
    (hdrain : bs'.drainTimer = bs.drainTimer) (hclosing : bs'.closing = bs.closing)
    (hseen : (bs.mode = .waking ∨ bs.mode = .awake ∨ bs.mode = .draining → bs.seen = true) → bs'.seen = true) :
    LaneKeeps a c ⟨some bs, ps⟩ n ⟨some bs', ps⟩ n := by
  have hno : bs'.mode ≠ .draining := by rcases hmode with e | e <;> rw [e] <;> decide
  have hnot : bs'.mode ≠ .isolated := by rcases hmode with e | e <;> rw [e] <;> decide
  refine ⟨fun hl => ?_, fun _ _ _ => ?_, fun _ => ?_, fun _ _ hs => ?_, id, fun _ => rfl, .inl le_rfl,
    fun hf => hf.of_branch (fun _ => .inl) (.inl rfl) le_rfl, fun hs => ?_⟩
  · obtain ⟨hflight, h⟩ := hl
    obtain ⟨hmarker, htimer, hclose⟩ := (if_neg hdraining).mp h
    exact ⟨hflight, (if_neg hno).mpr ⟨hmarker, hdrain.trans htimer, hclosing.trans hclose⟩⟩
  · rintro _ ⟨⟩ e
    exact absurd e hno
  · rintro _ ⟨⟩
    rcases hmode with e | e <;> rw [e] <;> exact ⟨nofun, nofun, nofun⟩
  · exact hs.of_open hisolated hnot hcause htimer
  · rintro _ ⟨⟩ -
    exact hseen (hs bs rfl)

/-- A branch goes to rest, its unheld entries purged. -/
theorem LaneKeeps.of_resting (hmode : bs'.mode = .off ∨ bs'.mode = .listen) (hisolated : bs.mode ≠ .isolated)
    (hcause : bs'.cause = bs.cause) (htimer : bs'.isolationTimer = bs.isolationTimer)
    (hdrain : bs'.drainTimer = none) (hclosing : bs'.closing = false)
    (hqueue : ps'.queue = (ps.purged QueueItem.held).queue) (hflight : ps'.flight = (ps.purged QueueItem.held).flight)
    (hlanding : ps'.landing = ps.landing ∧ bs'.mode = .listen ∨ ps'.landing = []) (hdiscards : ps'.discards = ps.discards) :
    LaneKeeps a c ⟨some bs, ps⟩ n ⟨some bs', ps'⟩ (n + ps.freed QueueItem.held) := by
  have hno : bs'.mode ≠ .draining := by rcases hmode with e | e <;> rw [e] <;> decide
  have hnot : bs'.mode ≠ .isolated := by rcases hmode with e | e <;> rw [e] <;> decide
  refine ⟨fun hl => ?_, fun _ _ _ => ?_, fun _ => ?_, fun _ _ hs => ?_, fun hc => ?_, fun hc => ?_, .inl ?_, fun hf => ?_,
    fun _ => ?_⟩
  · obtain ⟨hsources, -⟩ := hl
    refine ⟨?_, (if_neg hno).mpr ⟨?_, hdrain, hclosing⟩⟩
    · show (ps'.flight.all _) = true
      rw [hflight]
      exact PortState.purged_sources hsources
    · show QueueItem.marker ∉ ps'.queue
      rw [hqueue]
      exact fun hm => Bool.false_ne_true (List.mem_filter.1 hm).2
  · rintro _ ⟨⟩ e
    exact absurd e hno
  · rintro _ ⟨⟩
    refine ⟨fun _ i hi => ?_, fun e => ?_, fun e => absurd e hnot⟩
    · change i ∈ ps'.queue at hi
      rw [hqueue] at hi
      exact (List.mem_filter.1 hi).2
    · rcases hlanding with ⟨-, e'⟩ | h
      · rw [e] at e'
        cases e'
      · exact h
  · exact hs.of_open hisolated hnot hcause htimer
  · have := PortState.purged_coherent hc QueueItem.held
    rw [PortState.transmissionCoherent] at this ⊢
    show (∀ i ∈ ps'.queue.tail, _) ∧ ps'.queue.head?.any _ = ps'.flight.any _
    rw [hqueue, hflight]
    exact this
  · have : (ps.purged QueueItem.held).load + ps.freed QueueItem.held = ps.load := PortState.purged_load hc _
    show n + ps.freed QueueItem.held + ps'.load = n + ps.load
    rw [show ps'.load = (ps.purged QueueItem.held).load by rw [PortState.load, PortState.load, hqueue, hflight]]
    omega
  · show ps'.belowA ≤ ps.belowA
    rw [show ps'.belowA = (ps.purged QueueItem.held).belowA by rw [PortState.belowA, PortState.belowA, hqueue]]
    exact PortState.purged_belowA_le _
  · exact hf.of_branch (fun i hi => .inl (List.mem_filter.1 (hqueue ▸ hi)).1) (hlanding.imp And.left id) hdiscards.le
  · rintro _ ⟨⟩ e
    rcases hmode with h | h <;> rw [h] at e <;> rcases e with e | e | e <;> cases e

/-- A branch leaves Isolated, to rest or to Awake. -/
theorem LaneKeeps.of_freed (hisolated : bs.mode = .isolated)
    (hmode : bs'.mode = .off ∨ bs'.mode = .listen ∨ bs'.mode = .awake ∧ bs'.seen = true)
    (hcause : bs'.cause = .none) (htimer : bs'.isolationTimer = none)
    (hdrain : bs'.drainTimer = bs.drainTimer) (hclosing : bs'.closing = bs.closing)
    (hqueue : ps'.queue = ps.queue) (hflight : ps'.flight = ps.flight)
    (hlanding : ps'.landing = ps.landing ∨ ps'.landing = []) (hdiscards : ps'.discards = 0) :
    LaneKeeps a c ⟨some bs, ps⟩ n ⟨some bs', ps'⟩ n := by
  have hno : bs'.mode ≠ .draining := by rcases hmode with e | e | ⟨e, -⟩ <;> rw [e] <;> decide
  have hnot : bs'.mode ≠ .isolated := by rcases hmode with e | e | ⟨e, -⟩ <;> rw [e] <;> decide
  have hdraining : bs.mode ≠ .draining := by rw [hisolated]; decide
  have same : ps'.load = ps.load := by rw [PortState.load, PortState.load, hqueue, hflight]
  refine ⟨fun hl => ?_, fun _ _ _ => ?_, fun hr => ?_, fun _ _ hs => ?_, fun hc => ?_, fun hc => ?_, .inl ?_, fun hf => ?_,
    fun _ => ?_⟩
  · obtain ⟨hsources, h⟩ := hl
    obtain ⟨hmarker, htimer, hclose⟩ := (if_neg hdraining).mp h
    refine ⟨?_, (if_neg hno).mpr ⟨?_, hdrain.trans htimer, hclosing.trans hclose⟩⟩
    · show (ps'.flight.all _) = true
      rw [hflight]
      exact hsources
    · show QueueItem.marker ∉ ps'.queue
      rw [hqueue]
      exact hmarker
  · rintro _ ⟨⟩ e
    exact absurd e hno
  · obtain ⟨-, -, hempty⟩ := hr bs rfl
    obtain ⟨hq, hl⟩ := hempty hisolated
    rintro _ ⟨⟩
    have hnil : ps'.queue = [] := hqueue.trans hq
    refine ⟨fun _ i hi => ?_, fun _ => ?_, fun e => absurd e hnot⟩
    · change i ∈ ps'.queue at hi
      rw [hnil] at hi
      cases hi
    · exact hlanding.elim (fun h => h.trans hl) id
  · rintro _ ⟨⟩
    rw [hcause, htimer]
    exact ⟨by rw [beq_eq_false_iff_ne.2 hnot]; rfl, iff_of_true rfl hnot⟩
  · show (∀ i ∈ ps'.queue.tail, _) ∧ ps'.queue.head?.any _ = ps'.flight.any _
    rw [hqueue, hflight]
    exact hc
  · exact congrArg (n + ·) same
  · show ps'.belowA ≤ ps.belowA
    rw [PortState.belowA, PortState.belowA, hqueue]
  · exact hf.of_branch (fun i hi => .inl (hqueue ▸ hi)) hlanding (hdiscards.trans_le (Nat.zero_le _))
  · rintro _ ⟨⟩ e
    rcases hmode with h | h | ⟨-, h⟩
    · rw [h] at e
      rcases e with e | e | e <;> cases e
    · rw [h] at e
      rcases e with e | e | e <;> cases e
    · exact h

/-! ## Markers -/

theorem count_filter_isFrame (q : List QueueItem) : QueueItem.marker ∉ q.filter QueueItem.isFrame := fun h =>
  Bool.false_ne_true (List.mem_filter.1 h).2

theorem frameCount_filter_isFrame (q : List QueueItem) : frameCount (q.filter QueueItem.isFrame) = frameCount q := by
  rw [frameCount, frameCount, List.countP_filter]
  exact congrArg (List.countP · q) (funext fun i => Bool.and_self _)

/-- The markers of a queue taken away: its entries keep their places. -/
theorem PortState.unmarked_coherent (h : ps.transmissionCoherent) (hqueue : ps'.queue = ps.queue.filter QueueItem.isFrame)
    (hflight : ps'.flight = ps.flight) : ps'.transmissionCoherent := by
  obtain ⟨htail, hhead⟩ := h
  cases e : ps.queue with
  | nil =>
    rw [e] at hqueue hhead
    exact transmissionCoherent_of_idle (q := []) nofun (by rw [hflight, ← hhead]; rfl) hqueue
  | cons i q =>
    rw [e] at hqueue hhead htail
    have hidle : ∀ j ∈ q.filter QueueItem.isFrame, j.sending = false := fun j hj => htail j (List.mem_filter.1 hj).1
    cases i with
    | frame e => exact ⟨by rw [hqueue]; exact hidle, by rw [hqueue, hflight]; exact hhead⟩
    | marker => exact transmissionCoherent_of_idle hidle (by rw [hflight, ← hhead]; rfl) hqueue

theorem PortState.unmarked_load (hqueue : ps'.queue = ps.queue.filter QueueItem.isFrame)
    (hflight : ps'.flight = ps.flight) : ps'.load = ps.load := by
  rw [PortState.load, PortState.load, hqueue, hflight, frameCount_filter_isFrame]

theorem PortState.unmarked_belowA_le (hqueue : ps'.queue = ps.queue.filter QueueItem.isFrame) :
    ps'.belowA ≤ ps.belowA := by
  rw [PortState.belowA, PortState.belowA, hqueue]
  exact List.Sublist.countP_le List.filter_sublist

/-- A branch goes to Awake, or stays Isolated, its marker withdrawn. -/
theorem LaneKeeps.of_roused (hmode : bs'.mode = .awake ∧ bs.mode ≠ .isolated ∧ bs'.drainTimer = none
        ∧ bs'.closing = false ∨ bs.mode = .isolated ∧ bs' = bs)
    (hcause : bs'.cause = bs.cause) (htimer : bs'.isolationTimer = bs.isolationTimer)
    (hseen : (bs.mode = .waking ∨ bs.mode = .awake ∨ bs.mode = .draining → bs.seen = true) → bs'.mode = .awake →
      bs'.seen = true)
    (hqueue : ps'.queue = ps.queue.filter QueueItem.isFrame) (hflight : ps'.flight = ps.flight)
    (hlanding : ps'.landing = ps.landing) (hdiscards : ps'.discards = ps.discards) :
    LaneKeeps a c ⟨some bs, ps⟩ n ⟨some bs', ps'⟩ n := by
  have hno : bs'.mode ≠ .draining := by
    rcases hmode with ⟨e, -⟩ | ⟨e, rfl⟩
    · rw [e]; decide
    · rw [e]; decide
  refine ⟨fun hl => ?_, fun _ _ _ => ?_, fun hr => ?_, fun _ _ hs => ?_, fun hc => ?_, fun _ => ?_, .inl ?_, fun hf => ?_,
    fun hs => ?_⟩
  · obtain ⟨hsources, h⟩ := hl
    have hstop : bs'.drainTimer = none ∧ bs'.closing = false := by
      rcases hmode with ⟨-, -, h⟩ | ⟨e, rfl⟩
      · exact h
      · exact ((if_neg (by show ¬ bs'.mode = _; rw [e]; decide)).mp h).2
    refine ⟨?_, (if_neg hno).mpr ⟨?_, hstop⟩⟩
    · show (ps'.flight.all _) = true
      rw [hflight]
      exact hsources
    · show QueueItem.marker ∉ ps'.queue
      rw [hqueue]
      exact count_filter_isFrame _
  · rintro _ ⟨⟩ e
    exact absurd e hno
  · rintro _ ⟨⟩
    rcases hmode with ⟨e, -⟩ | ⟨e, rfl⟩
    · rw [e]
      exact ⟨nofun, nofun, nofun⟩
    · obtain ⟨-, -, hempty⟩ := hr _ rfl
      obtain ⟨hq, hl⟩ := hempty e
      have hnil : ps'.queue = [] := by
        rw [hqueue]
        exact congrArg (List.filter _) hq
      have hnone : ps'.landing = [] := hlanding.trans hl
      rw [e]
      exact ⟨nofun, nofun, fun _ => ⟨hnil, hnone⟩⟩
  · rcases hmode with ⟨e, hne, -⟩ | ⟨e, rfl⟩
    · exact hs.of_open hne (by rw [e]; decide) hcause htimer
    · exact hs
  · exact PortState.unmarked_coherent hc hqueue hflight
  · exact congrArg (n + ·) (PortState.unmarked_load hqueue hflight)
  · exact PortState.unmarked_belowA_le hqueue
  · exact hf.of_branch (fun i hi => .inl (List.mem_filter.1 (hqueue ▸ hi)).1) (.inl hlanding) hdiscards.le
  · rintro _ ⟨⟩ e
    rcases hmode with ⟨hm, -⟩ | ⟨hm, rfl⟩
    · exact hseen (hs bs rfl) hm
    · exact hs _ rfl e

/-- A marker placed on an Awake branch, before its drain is settled. -/
theorem LaneKeeps.of_marked (ha : a) (hmode : bs.mode = .awake) (hmode' : bs'.mode = .draining)
    (hcause : bs'.cause = bs.cause) (htimer : bs'.isolationTimer = bs.isolationTimer)
    (hdrain : bs'.drainTimer.isSome = true) (hclosing : bs'.closing = false) (hseen : bs.seen = true → bs'.seen = true)
    (hqueue : ps'.queue = ps.queue ++ [.marker]) (hflight : ps'.flight = ps.flight)
    (hlanding : ps'.landing = ps.landing) (hdiscards : ps'.discards = ps.discards) :
    LaneKeeps a c ⟨some bs, ps⟩ n ⟨some bs', ps'⟩ n := by
  have hnot : bs'.mode ≠ .isolated := by rw [hmode']; decide
  have hne : bs.mode ≠ .isolated := by rw [hmode]; decide
  refine ⟨fun hl => ?_, fun h => absurd ha h, fun hr => ?_, fun _ _ hs => ?_, fun hc => ?_, fun _ => ?_, .inl ?_,
    fun hf => ?_, fun hs => ?_⟩
  · obtain ⟨hsources, h⟩ := hl
    obtain ⟨hmarker, -⟩ := (if_neg (by show ¬ bs.mode = _; rw [hmode]; decide)).mp h
    refine ⟨?_, (if_pos hmode').mpr ⟨?_, by rw [hdrain, hclosing]; rfl⟩⟩
    · show (ps'.flight.all _) = true
      rw [hflight]
      exact hsources
    · show ps'.queue.count .marker = 1
      rw [hqueue, List.count_append, List.count_eq_zero_of_not_mem hmarker]
      rfl
  · rintro _ ⟨⟩
    rw [hmode']
    exact ⟨nofun, nofun, nofun⟩
  · exact hs.of_open hne hnot hcause htimer
  · obtain ⟨htail, hhead⟩ := hc
    cases e : ps.queue with
    | nil =>
      rw [e] at hqueue
      refine transmissionCoherent_of_idle (q := [.marker]) (by simp) ?_ hqueue
      rw [hflight]
      exact hhead.symm.trans (congrArg (fun q : List QueueItem => q.head?.any QueueItem.sending) e)
    | cons i q =>
      rw [e] at hqueue
      refine ⟨fun j hj => ?_, ?_⟩
      · change j ∈ ps'.queue.tail at hj
        rw [hqueue] at hj
        rcases List.mem_append.1 hj with hj | hj
        · exact htail j (by show j ∈ ps.queue.tail; rw [e]; exact hj)
        · rw [List.mem_singleton.1 hj]
          rfl
      · show ps'.queue.head?.any _ = ps'.flight.any _
        rw [hqueue, hflight]
        exact (congrArg (fun q : List QueueItem => q.head?.any QueueItem.sending) e).symm.trans hhead
  · show n + ps'.load = n + ps.load
    rw [PortState.load, PortState.load, hqueue, hflight, frameCount, List.countP_append]
    rfl
  · show ps'.belowA ≤ ps.belowA
    rw [PortState.belowA, PortState.belowA, hqueue, List.countP_append]
    rfl
  · refine hf.of_branch (fun i hi => ?_) (.inl hlanding) hdiscards.le
    rw [hqueue] at hi
    rcases List.mem_append.1 hi with hi | hi
    · exact .inl hi
    · rw [List.mem_singleton.1 hi]
      exact .inr trivial
  · rintro _ ⟨⟩ -
    exact hseen (hs bs rfl (.inr (.inl hmode)))

end

end Sys2Proof.Machine
end

section
/-! The lane moves of isolations, of entries that join and leave a queue, and of attempts. -/

namespace Sys2Proof.Machine

section
variable {a c : Prop} {ob : Option BranchState} {bs bs' : BranchState} {ps ps' : PortState} {n : Nat}

/-! ## Isolation -/

/-- A branch is put into Isolated and emptied, before its timer and cause are set. -/
theorem LaneKeeps.of_isolating (hc : c) (hmode : bs'.mode = .isolated) (hdrain : bs'.drainTimer = none)
    (hclosing : bs'.closing = false) (hqueue : ps'.queue = (ps.purged fun _ => false).queue)
    (hflight : ps'.flight = (ps.purged fun _ => false).flight) (hlanding : ps'.landing = [])
    (hdiscards : ps'.discards = ps.discards) :
    LaneKeeps a c ⟨some bs, ps⟩ n ⟨some bs', ps'⟩ (n + ps.freed fun _ => false) := by
  have hno : bs'.mode ≠ .draining := by rw [hmode]; decide
  have hnil : ps'.queue = [] := by rw [hqueue]; exact List.filter_eq_nil_iff.2 fun _ _ => Bool.false_ne_true
  have same : ps'.load = (ps.purged fun _ => false).load := by rw [PortState.load, PortState.load, hqueue, hflight]
  refine ⟨fun hl => ?_, fun _ _ _ => ?_, fun hr => ?_, fun h _ => absurd hc h, fun hc => ?_, fun hc => ?_, .inl ?_,
    fun hf => ?_, fun _ => ?_⟩
  · obtain ⟨hsources, -⟩ := hl
    refine ⟨?_, (if_neg hno).mpr ⟨?_, hdrain, hclosing⟩⟩
    · show (ps'.flight.all _) = true
      rw [hflight]
      exact PortState.purged_sources hsources
    · show QueueItem.marker ∉ ps'.queue
      rw [hnil]
      exact List.not_mem_nil
  · rintro _ ⟨⟩ e
    exact absurd e hno
  · rintro _ ⟨⟩
    rw [hmode]
    exact ⟨nofun, nofun, fun _ => ⟨hnil, hlanding⟩⟩
  · have hp := PortState.purged_coherent hc fun _ => false
    rw [PortState.transmissionCoherent] at hp ⊢
    show (∀ i ∈ ps'.queue.tail, _) ∧ ps'.queue.head?.any _ = ps'.flight.any _
    rw [hqueue, hflight]
    exact hp
  · have : (ps.purged fun _ => false).load + (ps.freed fun _ => false) = ps.load := PortState.purged_load hc _
    show n + (ps.freed fun _ => false) + ps'.load = n + ps.load
    omega
  · show ps'.belowA ≤ ps.belowA
    rw [PortState.belowA, hnil]
    exact Nat.zero_le _
  · exact hf.of_branch (fun i hi => absurd (hnil ▸ hi) List.not_mem_nil) (.inr hlanding) hdiscards.le
  · rintro _ ⟨⟩ e
    rw [hmode] at e
    rcases e with e | e | e <;> cases e

/-- An isolation sealed: its timer started and its cause set. -/
theorem LaneKeeps.of_sealing (hmode : bs.mode = .isolated) (hmode' : bs'.mode = .isolated)
    (hdrain : bs'.drainTimer = bs.drainTimer) (hclosing : bs'.closing = bs.closing)
    (hseal : Lane.sealed ⟨some bs', ps⟩) : LaneKeeps a c ⟨some bs, ps⟩ n ⟨some bs', ps⟩ n := by
  have hno : bs'.mode ≠ .draining := by rw [hmode']; decide
  refine ⟨fun hl => ?_, fun _ _ _ => ?_, fun hr => ?_, fun _ _ _ => hseal, id, fun _ => rfl, .inl le_rfl,
    fun hf => hf.of_branch (fun _ => .inl) (.inl rfl) le_rfl, fun _ => ?_⟩
  · obtain ⟨hsources, h⟩ := hl
    obtain ⟨hmarker, htimer, hclose⟩ := (if_neg (by show ¬ bs.mode = _; rw [hmode]; decide)).mp h
    exact ⟨hsources, (if_neg hno).mpr ⟨hmarker, hdrain.trans htimer, hclosing.trans hclose⟩⟩
  · rintro _ ⟨⟩ e
    exact absurd e hno
  · obtain ⟨-, -, hempty⟩ := hr bs rfl
    rintro _ ⟨⟩
    rw [hmode']
    exact ⟨nofun, nofun, fun _ => hempty hmode⟩
  · rintro _ ⟨⟩ e
    rw [hmode'] at e
    rcases e with e | e | e <;> cases e

/-- The drain limit's closing mark, before the drain is settled. -/
theorem LaneKeeps.of_limited (ha : a) (hmode : bs.mode = .draining) (hmode' : bs'.mode = .draining)
    (hcause : bs'.cause = bs.cause) (htimer : bs'.isolationTimer = bs.isolationTimer)
    (hdrain : bs'.drainTimer = none) (hclosing : bs'.closing = true) (hseen : bs'.seen = bs.seen) :
    LaneKeeps a c ⟨some bs, ps⟩ n ⟨some bs', ps⟩ n := by
  refine ⟨fun hl => ?_, fun h => absurd ha h, fun _ => ?_,
    fun _ _ hs => hs.of_open (by rw [hmode]; decide) (by rw [hmode']; decide) hcause htimer, id, fun _ => rfl,
    .inl le_rfl, fun hf => hf.of_branch (fun _ => .inl) (.inl rfl) le_rfl, fun hs => ?_⟩
  · obtain ⟨hsources, h⟩ := hl
    obtain ⟨hcount, -⟩ := (if_pos hmode).mp h
    exact ⟨hsources, (if_pos hmode').mpr ⟨hcount, by rw [hdrain, hclosing]; rfl⟩⟩
  · rintro _ ⟨⟩
    rw [hmode']
    exact ⟨nofun, nofun, nofun⟩
  · rintro _ ⟨⟩ -
    rw [hseen]
    exact hs bs rfl (.inr (.inr hmode))

/-! ## Lanes with the same branch record -/

/-- The drain of a lane whose markers and flight's source are as before. -/
theorem Lane.loose.of_items (hl : Lane.loose ⟨ob, ps⟩) (hmarkers : ps'.queue.count .marker = ps.queue.count .marker)
    (hsources : (ps.flight.all fun f => f.source == .entry || f.source == .removed) = true →
      (ps'.flight.all fun f => f.source == .entry || f.source == .removed) = true) : Lane.loose ⟨ob, ps'⟩ := by
  have hmem : QueueItem.marker ∉ ps'.queue ↔ QueueItem.marker ∉ ps.queue := by
    rw [← List.count_eq_zero, ← List.count_eq_zero, hmarkers]
  cases ob with
  | none => exact hmem.2 hl
  | some bs =>
    obtain ⟨h, hdrain⟩ := hl
    refine ⟨hsources h, ?_⟩
    by_cases hmode : bs.mode = .draining
    · obtain ⟨hcount, htimer⟩ := (if_pos hmode).mp hdrain
      exact (if_pos hmode).mpr ⟨hmarkers.trans hcount, htimer⟩
    · obtain ⟨hmarker, htimer⟩ := (if_neg hmode).mp hdrain
      exact (if_neg hmode).mpr ⟨hmem.2 hmarker, htimer⟩

/-- A lane at rest or isolated whose items are old ones, or new ones that it may hold. -/
theorem Lane.rests.of_items (hr : Lane.rests ⟨ob, ps⟩)
    (hqueue : ∀ bs ∈ ob, (bs.mode.atRest = true → ∀ i ∈ ps'.queue, i ∈ ps.queue ∨ i.held = true) ∧
      (bs.mode = .isolated → ps.queue = [] → ps'.queue = []))
    (hlanding : ps'.landing = ps.landing) : Lane.rests ⟨ob, ps'⟩ := fun bs hbs => by
  obtain ⟨hheld, hoff, hisolated⟩ := hr bs hbs
  obtain ⟨hnew, hempty⟩ := hqueue bs hbs
  refine ⟨fun e i hi => (hnew e i hi).elim (hheld e i) id, fun e => hlanding.trans (hoff e), fun e => ?_⟩
  obtain ⟨hq, hl⟩ := hisolated e
  exact ⟨hempty e hq, hlanding.trans hl⟩

/-- Items that leave a queue at rest leave held ones, and none in Isolated. -/
theorem Lane.rests.of_subset (hr : Lane.rests ⟨ob, ps⟩) (hqueue : ∀ i ∈ ps'.queue, i ∈ ps.queue ∨ ∃ j ∈ ps.queue, i.held = j.held)
    (hlanding : ps'.landing = ps.landing) : Lane.rests ⟨ob, ps'⟩ := fun bs hbs => by
  obtain ⟨hheld, hoff, hisolated⟩ := hr bs hbs
  refine ⟨fun e i hi => ?_, fun e => hlanding.trans (hoff e), fun e => ?_⟩
  · rcases hqueue i hi with h | ⟨j, hj, h⟩
    · exact hheld e i h
    · exact h.trans (hheld e j hj)
  · obtain ⟨hq, hl⟩ := hisolated e
    refine ⟨List.eq_nil_iff_forall_not_mem.2 fun i hi => ?_, hlanding.trans hl⟩
    have hnone : ∀ j, j ∉ ps.queue := fun j hj => by
      rw [show ps.queue = [] from hq] at hj
      cases hj
    rcases hqueue i hi with h | ⟨j, hj, -⟩
    · exact hnone i h
    · exact hnone j hj

/-- A lane with the same branch record keeps its sizes. -/
theorem Lane.fits.of_items (hf : Lane.fits ⟨ob, ps⟩) (hqueue : ∀ i ∈ ps'.queue, i ∈ ps.queue ∨ i.attemptsBounded)
    (hlanding : ps'.landing = ps.landing) (hdiscards : ps'.discards = ps.discards) : Lane.fits ⟨ob, ps'⟩ := by
  obtain ⟨hland, hdis, hattempts, htrunk⟩ := hf
  exact ⟨(congrArg List.length hlanding).trans_le hland, hdiscards.trans_le hdis,
    fun i hi => (hqueue i hi).elim (hattempts i) id, fun h => hdiscards.trans_lt (htrunk h)⟩

/-- Soft changes of a lane's front end. -/
theorem LaneKeeps.of_softLane {l : Lane} (n : Nat)
    (h : PortState.Soft l.away (l.branch = none) l.port ps') : LaneKeeps a c l n ⟨l.branch, ps'⟩ n := by
  obtain ⟨ob, ps⟩ := l
  cases ob with
  | none => exact .of_softPort n ⟨h.queue, h.flight, h.landing, nofun, h.discards, fun _ => h.trunk rfl⟩
  | some bs =>
    exact .of_soft n (.refl bs) ⟨h.queue, h.flight, h.landing, fun e => h.emptied ⟨bs, rfl, e⟩, h.discards, nofun⟩

/-! ## Entries -/

/-- A copy joins the tail of a queue. -/
theorem LaneKeeps.of_enqueued {e : Entry} (hidle : e.sending = false) (hattempts : e.attempts = 0)
    (haccepts : ∀ bs ∈ ob, bs.mode ≠ .isolated ∧ (bs.mode.atRest = true → e.hold = true))
    (hroom : 1 ≤ n) (hclass : e.cls = .a ∨ 9 ≤ n) (hqueue : ps'.queue = ps.queue ++ [.frame e])
    (hflight : ps'.flight = ps.flight) (hlanding : ps'.landing = ps.landing) (hdiscards : ps'.discards = ps.discards) :
    LaneKeeps a c ⟨ob, ps⟩ n ⟨ob, ps'⟩ (n - 1) := by
  have hmarkers : ps'.queue.count .marker = ps.queue.count .marker := by
    rw [hqueue, List.count_append]
    rfl
  refine ⟨fun hl => hl.of_items hmarkers (hflight ▸ id), fun _ hl ht bs hbs hmode => ?_, fun hr => ?_, fun _ _ hs => hs,
    fun hc => ?_, fun _ => ?_, ?_, fun hf => ?_, fun hs => hs⟩
  · obtain rfl : ob = some bs := hbs
    obtain ⟨hhead, hclosing⟩ := ht bs rfl hmode
    refine ⟨?_, ?_⟩
    · show ps'.queue.head? ≠ _
      obtain ⟨hcount, -⟩ := (if_pos hmode).mp hl.2
      have hne : ps.queue ≠ [] := by
        intro h
        change ps.queue.count .marker = 1 at hcount
        rw [h] at hcount
        cases hcount
      rw [hqueue, List.head?_append_of_ne_nil _ hne]
      exact hhead
    · show _ → ps'.flight.isSome = true
      rw [hflight]
      exact hclosing
  · refine hr.of_items (fun bs hbs => ⟨fun e i hi => ?_, fun e => absurd e (haccepts bs hbs).1⟩) hlanding
    rw [hqueue] at hi
    rcases List.mem_append.1 hi with hi | hi
    · exact .inl hi
    · rw [List.mem_singleton.1 hi]
      exact .inr ((haccepts bs hbs).2 e)
  · obtain ⟨htail, hhead⟩ := hc
    cases e' : ps.queue with
    | nil =>
      rw [e'] at hqueue
      refine transmissionCoherent_of_idle (q := [.frame e]) (by simpa using hidle) ?_ hqueue
      rw [hflight]
      exact hhead.symm.trans (congrArg (fun q : List QueueItem => q.head?.any QueueItem.sending) e')
    | cons i q =>
      rw [e'] at hqueue
      refine ⟨fun j hj => ?_, ?_⟩
      · change j ∈ ps'.queue.tail at hj
        rw [hqueue] at hj
        rcases List.mem_append.1 hj with hj | hj
        · exact htail j (by show j ∈ ps.queue.tail; rw [e']; exact hj)
        · rw [List.mem_singleton.1 hj]
          exact hidle
      · show ps'.queue.head?.any _ = ps'.flight.any _
        rw [hqueue, hflight]
        exact (congrArg (fun q : List QueueItem => q.head?.any QueueItem.sending) e').symm.trans hhead
  · show n - 1 + ps'.load = n + ps.load
    rw [PortState.load, PortState.load, hqueue, hflight, frameCount, frameCount, List.countP_append]
    show n - 1 + (_ + 1 + _) = _
    omega
  · have hsum : ps'.belowA = ps.belowA + [QueueItem.frame e].countP QueueItem.belowA := by
      rw [PortState.belowA, hqueue, List.countP_append]
      rfl
    rcases hclass with h | h
    · left
      have hnone : [QueueItem.frame e].countP QueueItem.belowA = 0 := by simp [QueueItem.belowA, h]
      exact (hsum.trans (by rw [hnone]; rfl)).le
    · right
      refine ⟨hsum.trans_le (Nat.add_le_add_left ?_ _), h⟩
      exact List.countP_le_length
  · refine hf.of_items (fun i hi => ?_) hlanding hdiscards
    rw [hqueue] at hi
    rcases List.mem_append.1 hi with hi | hi
    · exact .inl hi
    · rw [List.mem_singleton.1 hi]
      refine .inr ?_
      show if e.sending then _ else _
      rw [hidle, hattempts]
      decide

theorem count_marker_eraseIdx {q : List QueueItem} {i : Nat} {e : Entry} (h : q[i]? = some (.frame e)) :
    (q.eraseIdx i).count .marker = q.count .marker := by
  induction q generalizing i with
  | nil => rfl
  | cons x q ih =>
    cases i with
    | zero =>
      obtain rfl : x = .frame e := Option.some.inj h
      rfl
    | succ i =>
      have := ih (i := i) h
      simp only [List.eraseIdx_cons_succ, List.count_cons, this]

/-- An idle entry leaves its queue, before the drain is settled. -/
theorem LaneKeeps.of_dropped (ha : a) {i : Nat} {e : Entry} (he : ps.queue[i]? = some (.frame e))
    (hidle : e.sending = false) (hqueue : ps'.queue = ps.queue.eraseIdx i) (hflight : ps'.flight = ps.flight)
    (hlanding : ps'.landing = ps.landing) (hdiscards : ps'.discards = ps.discards) :
    LaneKeeps a c ⟨ob, ps⟩ n ⟨ob, ps'⟩ (n + 1) := by
  have hsub : ∀ j ∈ ps'.queue, j ∈ ps.queue := fun j hj => List.mem_of_mem_eraseIdx (hqueue ▸ hj)
  refine ⟨fun hl => hl.of_items (hqueue ▸ count_marker_eraseIdx he) (hflight ▸ id), fun h => absurd ha h,
    fun hr => hr.of_subset (fun j hj => .inl (hsub j hj)) hlanding, fun _ _ hs => hs, fun hc => ?_, fun _ => ?_, .inl ?_,
    fun hf => hf.of_items (fun j hj => .inl (hsub j hj)) hlanding hdiscards, fun hs => hs⟩
  · obtain ⟨htail, hhead⟩ := hc
    cases e' : ps.queue with
    | nil =>
      rw [e'] at he
      cases he
    | cons x q =>
      rw [e'] at hqueue he
      have hq : ∀ j ∈ q, j.sending = false := fun j hj => htail j (by show j ∈ ps.queue.tail; rw [e']; exact hj)
      have hhead' : x.sending = ps.flight.any (·.source == .entry) :=
        (congrArg (fun q : List QueueItem => q.head?.any QueueItem.sending) e').symm.trans hhead
      cases i with
      | zero =>
        obtain rfl : x = .frame e := Option.some.inj he
        refine transmissionCoherent_of_idle hq ?_ hqueue
        rw [hflight, ← hhead']
        exact hidle
      | succ i =>
        rw [List.eraseIdx_cons_succ] at hqueue
        refine ⟨fun j hj => ?_, ?_⟩
        · change j ∈ ps'.queue.tail at hj
          rw [hqueue] at hj
          exact hq j (List.mem_of_mem_eraseIdx hj)
        · show ps'.queue.head?.any _ = ps'.flight.any _
          rw [hqueue, hflight]
          exact hhead'
  · show n + 1 + ps'.load = n + ps.load
    have := frameCount_eraseIdx he
    rw [PortState.load, PortState.load, hqueue, hflight]
    omega
  · show ps'.belowA ≤ ps.belowA
    rw [PortState.belowA, PortState.belowA, hqueue]
    exact (List.eraseIdx_sublist ..).countP_le

/-! ## Attempts -/

theorem removed_of_entry {f : Flight} (hf : f.source = .entry) :
    (if (some f).any (·.source == .removed) then 1 else 0) = 0 := by
  simp [hf]

/-- The entry in transmission, the head, leaves at its attempt's end, before the drain is settled. -/
theorem LaneKeeps.of_left (ha : a) {e : Entry} {rest : List QueueItem} {f : Flight} (he : ps.queue = .frame e :: rest)
    (hf : ps.flight = some f) (hsource : f.source = .entry) (hqueue : ps'.queue = rest) (hflight : ps'.flight = none)
    (hlanding : ps'.landing = ps.landing) (hdiscards : ps'.discards = ps.discards) :
    LaneKeeps a c ⟨ob, ps⟩ n ⟨ob, ps'⟩ (n + 1) := by
  have hsub : ∀ j ∈ ps'.queue, j ∈ ps.queue := fun j hj => by
    rw [he]
    exact List.mem_cons_of_mem _ (hqueue ▸ hj)
  refine ⟨fun hl => hl.of_items (by rw [hqueue, he]; rfl) fun _ => by rw [hflight]; rfl, fun h => absurd ha h,
    fun hr => hr.of_subset (fun j hj => .inl (hsub j hj)) hlanding, fun _ _ hs => hs, fun hc => ?_, fun _ => ?_, .inl ?_,
    fun hf => hf.of_items (fun j hj => .inl (hsub j hj)) hlanding hdiscards, fun hs => hs⟩
  · exact transmissionCoherent_of_idle (hc.idle_of_head he) (by rw [hflight]; rfl) hqueue
  · show n + 1 + ps'.load = n + ps.load
    rw [PortState.load, PortState.load, hqueue, hflight, he, hf, removed_of_entry hsource, frameCount, frameCount,
      List.countP_cons]
    show n + 1 + (_ + 0) = n + (_ + 1 + 0)
    omega
  · show ps'.belowA ≤ ps.belowA
    rw [PortState.belowA, PortState.belowA, hqueue, he]
    exact (List.sublist_cons_self _ _).countP_le

/-- The head entry stays at its attempt's end, before the drain is settled. -/
theorem LaneKeeps.of_kept (ha : a) {e : Entry} {rest : List QueueItem} {f : Flight} (he : ps.queue = .frame e :: rest)
    (hf : ps.flight = some f) (hsource : f.source = .entry) (hfew : e.attempts < 3)
    (hqueue : ps'.queue = .frame { e with sending := false } :: rest) (hflight : ps'.flight = none)
    (hlanding : ps'.landing = ps.landing) (hdiscards : ps'.discards = ps.discards) :
    LaneKeeps a c ⟨ob, ps⟩ n ⟨ob, ps'⟩ n := by
  refine ⟨fun hl => hl.of_items (by rw [hqueue, he]; rfl) fun _ => by rw [hflight]; rfl, fun h => absurd ha h,
    fun hr => hr.of_subset (fun j hj => ?_) hlanding, fun _ _ hs => hs, fun hc => ?_, fun _ => ?_, .inl ?_,
    fun hf => hf.of_items (fun j hj => ?_) hlanding hdiscards, fun hs => hs⟩
  · rw [hqueue] at hj
    rcases List.mem_cons.1 hj with rfl | hj
    · exact .inr ⟨.frame e, by rw [he]; exact List.mem_cons_self, rfl⟩
    · exact .inl (by rw [he]; exact List.mem_cons_of_mem _ hj)
  · refine transmissionCoherent_of_idle (fun j hj => ?_) (by rw [hflight]; rfl) hqueue
    rcases List.mem_cons.1 hj with rfl | hj
    · rfl
    · exact hc.idle_of_head he j hj
  · show n + ps'.load = n + ps.load
    rw [PortState.load, PortState.load, hqueue, hflight, he, hf, removed_of_entry hsource]
    rfl
  · show ps'.belowA ≤ ps.belowA
    rw [PortState.belowA, PortState.belowA, hqueue, he]
    rfl
  · rw [hqueue] at hj
    rcases List.mem_cons.1 hj with rfl | hj
    · exact .inr hfew
    · exact .inl (by rw [he]; exact List.mem_cons_of_mem _ hj)

/-- The attempt of an entry that left its queue ends, before the drain is settled. -/
theorem LaneKeeps.of_orphanEnded (ha : a) {f : Flight} (hf : ps.flight = some f) (hsource : f.source = .removed)
    (hqueue : ps'.queue = ps.queue) (hflight : ps'.flight = none)
    (hlanding : ps'.landing = ps.landing) (hdiscards : ps'.discards = ps.discards) :
    LaneKeeps a c ⟨ob, ps⟩ n ⟨ob, ps'⟩ (n + 1) := by
  refine ⟨fun hl => hl.of_items (by rw [hqueue]) fun _ => by rw [hflight]; rfl, fun h => absurd ha h,
    fun hr => hr.of_subset (fun j hj => .inl (hqueue ▸ hj)) hlanding, fun _ _ hs => hs, fun hc => ?_, fun _ => ?_, .inl ?_,
    fun hf => hf.of_items (fun j hj => .inl (hqueue ▸ hj)) hlanding hdiscards, fun hs => hs⟩
  · obtain ⟨htail, hhead⟩ := hc
    change _ = ps.flight.any _ at hhead
    refine ⟨fun j hj => htail j (hqueue ▸ hj), ?_⟩
    show ps'.queue.head?.any _ = ps'.flight.any _
    rw [hqueue, hflight]
    refine hhead.trans ?_
    rw [hf, Option.any_some, hsource]
    rfl
  · show n + 1 + ps'.load = n + ps.load
    rw [PortState.load, PortState.load, hqueue, hflight, hf, Option.any_some, hsource]
    show n + 1 + (_ + 0) = n + (_ + 1)
    omega
  · show ps'.belowA ≤ ps.belowA
    rw [PortState.belowA, PortState.belowA, hqueue]

/-- An attempt ends that is of no entry, or of a queue without a head entry, which the laws exclude on a branch that
drains. -/
theorem LaneKeeps.of_flightEnded {f : Flight} (hf : ps.flight = some f)
    (hsource : f.source = .response ∨ f.source = .report ∨ f.source = .entry ∧ ∀ e rest, ps.queue ≠ .frame e :: rest)
    (hqueue : ps'.queue = ps.queue) (hflight : ps'.flight = none)
    (hlanding : ps'.landing = ps.landing) (hdiscards : ps'.discards = ps.discards) :
    LaneKeeps a c ⟨ob, ps⟩ n ⟨ob, ps'⟩ n := by
  refine ⟨fun hl => hl.of_items (by rw [hqueue]) fun _ => by rw [hflight]; rfl, fun _ hl ht bs hbs hmode => ?_,
    fun hr => hr.of_subset (fun j hj => .inl (hqueue ▸ hj)) hlanding, fun _ _ hs => hs, fun hc => ?_, fun hc => ?_, .inl ?_,
    fun hf => hf.of_items (fun j hj => .inl (hqueue ▸ hj)) hlanding hdiscards, fun hs => hs⟩
  · obtain rfl : ob = some bs := hbs
    exfalso
    obtain ⟨hsources, hdrain⟩ := hl
    change (ps.flight.all _) = true at hsources
    rw [hf, Option.all_some] at hsources
    rcases hsource with h | h | ⟨h, hno⟩
    · rw [h] at hsources
      cases hsources
    · rw [h] at hsources
      cases hsources
    · obtain ⟨hcount, -⟩ := (if_pos hmode).mp hdrain
      obtain ⟨hhead, -⟩ := ht bs rfl hmode
      change ps.queue.count .marker = 1 at hcount
      change ps.queue.head? ≠ _ at hhead
      match e : ps.queue with
      | [] =>
        rw [e] at hcount
        cases hcount
      | .frame x :: q => exact hno x q e
      | .marker :: q =>
        rw [e] at hhead
        exact hhead rfl
  · obtain ⟨htail, hhead⟩ := hc
    change _ = ps.flight.any _ at hhead
    refine ⟨fun j hj => htail j (hqueue ▸ hj), ?_⟩
    show ps'.queue.head?.any _ = ps'.flight.any _
    rw [hqueue, hflight]
    refine hhead.trans ?_
    rw [hf, Option.any_some]
    rcases hsource with h | h | ⟨h, hno⟩
    · rw [h]
      rfl
    · rw [h]
      rfl
    · exfalso
      rw [hf, Option.any_some, h] at hhead
      match e : ps.queue with
      | [] =>
        change ps.queue.head?.any _ = true at hhead
        rw [e] at hhead
        cases hhead
      | .frame x :: q => exact hno x q e
      | .marker :: q =>
        change ps.queue.head?.any _ = true at hhead
        rw [e] at hhead
        cases hhead
  · show n + ps'.load = n + ps.load
    have hnot : (f.source == TxSource.removed) = false := by
      rcases hsource with h | h | ⟨h, -⟩ <;> rw [h] <;> rfl
    rw [PortState.load, PortState.load, hqueue, hflight, hf, Option.any_some, hnot]
    rfl
  · show ps'.belowA ≤ ps.belowA
    rw [PortState.belowA, PortState.belowA, hqueue]

/-- An attempt on the head entry begins. -/
theorem LaneKeeps.of_begun {e : Entry} {rest : List QueueItem} {f : Flight} (he : ps.queue = .frame e :: rest)
    (hfew : e.attempts < 3) (hidle : ps.flight = none) (hsource : f.source = .entry)
    (hqueue : ps'.queue = .frame { e with attempts := e.attempts + 1, sending := true } :: rest)
    (hflight : ps'.flight = some f) (hlanding : ps'.landing = ps.landing) (hdiscards : ps'.discards = ps.discards) :
    LaneKeeps a c ⟨ob, ps⟩ n ⟨ob, ps'⟩ n := by
  refine ⟨fun hl => hl.of_items (by rw [hqueue, he]; rfl) fun _ => by rw [hflight, Option.all_some, hsource]; rfl,
    fun _ _ _ bs _ _ => ?_, fun hr => hr.of_subset (fun j hj => ?_) hlanding, fun _ _ hs => hs, fun hc => ?_,
    fun _ => ?_, .inl ?_, fun hf => hf.of_items (fun j hj => ?_) hlanding hdiscards, fun hs => hs⟩
  · refine ⟨?_, fun _ => ?_⟩
    · show ps'.queue.head? ≠ _
      rw [hqueue]
      exact nofun
    · show ps'.flight.isSome = true
      rw [hflight]
      rfl
  · rw [hqueue] at hj
    rcases List.mem_cons.1 hj with rfl | hj
    · exact .inr ⟨.frame e, by rw [he]; exact List.mem_cons_self, rfl⟩
    · exact .inl (by rw [he]; exact List.mem_cons_of_mem _ hj)
  · refine ⟨?_, ?_⟩
    · show ∀ i ∈ ps'.queue.tail, _
      rw [hqueue]
      exact hc.idle_of_head he
    · show ps'.queue.head?.any _ = ps'.flight.any _
      rw [hqueue, hflight, Option.any_some, hsource]
      rfl
  · show n + ps'.load = n + ps.load
    rw [PortState.load, PortState.load, hqueue, hflight, he, hidle, removed_of_entry hsource]
    rfl
  · show ps'.belowA ≤ ps.belowA
    rw [PortState.belowA, PortState.belowA, hqueue, he]
    rfl
  · rw [hqueue] at hj
    rcases List.mem_cons.1 hj with rfl | hj
    · exact .inr ⟨Nat.succ_pos _, hfew⟩
    · exact .inl (by rw [he]; exact List.mem_cons_of_mem _ hj)

/-- TP's transmitter begins on the response or on a report. -/
theorem LaneKeeps.of_spoken {f : Flight} (hidle : ps.flight = none) (hsource : f.source = .response ∨ f.source = .report)
    (hqueue : ps'.queue = ps.queue) (hflight : ps'.flight = some f)
    (hlanding : ps'.landing = ps.landing) (hdiscards : ps'.discards = ps.discards) :
    LaneKeeps a c ⟨none, ps⟩ n ⟨none, ps'⟩ n := by
  have hnot : (f.source == TxSource.removed) = false ∧ (f.source == TxSource.entry) = false := by
    rcases hsource with h | h <;> rw [h] <;> exact ⟨rfl, rfl⟩
  refine ⟨fun hl => ?_, fun _ _ _ => nofun,
    fun hr => hr.of_subset (fun j hj => .inl (hqueue ▸ hj)) hlanding, fun _ _ hs => nofun, fun hc => ?_, fun hc => ?_, .inl ?_,
    fun hf => hf.of_items (fun j hj => .inl (hqueue ▸ hj)) hlanding hdiscards, fun hs => nofun⟩
  · show QueueItem.marker ∉ ps'.queue
    rw [hqueue]
    exact hl
  · obtain ⟨htail, hhead⟩ := hc
    change _ = ps.flight.any _ at hhead
    refine ⟨fun j hj => htail j (hqueue ▸ hj), ?_⟩
    show ps'.queue.head?.any _ = ps'.flight.any _
    rw [hqueue, hflight, Option.any_some, hnot.2]
    exact hhead.trans (by rw [hidle]; rfl)
  · show n + ps'.load = n + ps.load
    rw [PortState.load, PortState.load, hqueue, hflight, hidle, Option.any_some, hnot.1]
    rfl
  · show ps'.belowA ≤ ps.belowA
    rw [PortState.belowA, PortState.belowA, hqueue]

/-- TP's queue purged. -/
theorem LaneKeeps.of_trunkPurged (keep : QueueItem → Bool) (hqueue : ps'.queue = (ps.purged keep).queue)
    (hflight : ps'.flight = (ps.purged keep).flight) (hlanding : ps'.landing = ps.landing)
    (hdiscards : ps'.discards ≤ ps.discards) :
    LaneKeeps a c ⟨none, ps⟩ n ⟨none, ps'⟩ (n + ps.freed keep) := by
  have hsub : ∀ j ∈ ps'.queue, j ∈ ps.queue := fun j hj => (List.mem_filter.1 (hqueue ▸ hj)).1
  refine ⟨fun hl hm => hl (hsub _ hm), fun _ _ _ => nofun, fun hr => nofun, fun _ _ hs => nofun, fun hc => ?_,
    fun hc => ?_, .inl ?_, fun hf => ?_, fun hs => nofun⟩
  · have hp := PortState.purged_coherent hc keep
    rw [PortState.transmissionCoherent] at hp ⊢
    show (∀ i ∈ ps'.queue.tail, _) ∧ ps'.queue.head?.any _ = ps'.flight.any _
    rw [hqueue, hflight]
    exact hp
  · have : (ps.purged keep).load + ps.freed keep = ps.load := PortState.purged_load hc _
    show n + ps.freed keep + ps'.load = n + ps.load
    rw [show ps'.load = (ps.purged keep).load by rw [PortState.load, PortState.load, hqueue, hflight]]
    omega
  · show ps'.belowA ≤ ps.belowA
    rw [show ps'.belowA = (ps.purged keep).belowA by rw [PortState.belowA, PortState.belowA, hqueue]]
    exact PortState.purged_belowA_le _
  · obtain ⟨hland, hdis, hattempts, htrunk⟩ := hf
    exact ⟨(congrArg List.length hlanding).trans_le hland, le_trans hdiscards hdis, fun j hj => hattempts j (hsub j hj),
      fun h => lt_of_le_of_lt hdiscards (htrunk h)⟩

/-- TP's markers, of which it has none, withdrawn with those of the branches. -/
theorem LaneKeeps.of_trunkRoused (hqueue : ps'.queue = ps.queue.filter QueueItem.isFrame) (hflight : ps'.flight = ps.flight)
    (hlanding : ps'.landing = ps.landing) (hdiscards : ps'.discards = ps.discards) :
    LaneKeeps a c ⟨none, ps⟩ n ⟨none, ps'⟩ n := by
  refine ⟨fun _ => ?_, fun _ _ _ => nofun, fun _ => nofun, fun _ _ _ => nofun,
    fun hc => PortState.unmarked_coherent hc hqueue hflight,
    fun _ => congrArg (n + ·) (PortState.unmarked_load hqueue hflight), .inl (PortState.unmarked_belowA_le hqueue),
    fun hf => hf.of_items (fun j hj => .inl (List.mem_filter.1 (hqueue ▸ hj)).1) hlanding hdiscards, fun _ => nofun⟩
  show QueueItem.marker ∉ ps'.queue
  rw [hqueue]
  exact count_filter_isFrame _

end

end Sys2Proof.Machine
end

section
/-! The operations of the model, each shown to keep the laws of lanes and pool. -/

namespace Sys2Proof.Machine

/-! ## The lanes that an operation changes -/

section
variable (s : State)

theorem portOf_injective {b c : Branch} (h : portOf b = portOf c) : b = c := by
  have := branchOf_portOf b
  rw [h, branchOf_portOf] at this
  exact (Option.some.inj this).symm

theorem State.modPort_lane (p q : Port) (f : PortState → PortState) : (s.modPort p f).lane q =
    if q = p then ⟨(s.lane p).branch, f s.ports[p]⟩ else s.lane q := by
  unfold State.lane
  rw [State.modPort_branches, State.modPort_get]
  by_cases h : q = p
  · rw [if_pos h, if_pos h, h]
  · rw [if_neg h, if_neg h]

theorem State.modBranch_lane (b : Branch) (q : Port) (f : BranchState → BranchState) : (s.modBranch b f).lane q =
    if q = portOf b then ⟨some (f s.branches[b]), s.ports[portOf b]⟩ else s.lane q := by
  by_cases h : q = portOf b
  · rw [if_pos h, h, State.lane_portOf, State.modBranch_get, if_pos rfl, State.modBranch_ports]
  · rw [if_neg h, State.lane, State.lane, State.modBranch_ports]
    cases hb : branchOf q with
    | none => rfl
    | some c =>
      have hne : c ≠ b := fun e => h ((branchOf_eq_some_iff q b).1 (e ▸ hb))
      rw [Option.map_some, Option.map_some, State.modBranch_get, if_neg hne]

theorem State.lane_of_eq {t : State} (hports : t.ports = s.ports) (hbranches : t.branches = s.branches) (q : Port) :
    t.lane q = s.lane q := by
  rw [State.lane, State.lane, hports, hbranches]

theorem State.purge_lane (p q : Port) (keep : QueueItem → Bool) : (s.purge p keep).lane q =
    if q = p then ⟨(s.lane p).branch, s.ports[p].purged keep⟩ else s.lane q :=
  s.modPort_lane p q fun ps =>
    { ps with
      queue := ps.queue.filter keep
      flight := if (s.ports[p].queue.filter fun i => !keep i).any QueueItem.sending then ps.flight.map Flight.orphan
        else ps.flight }

theorem State.purge_freeBuffers (p : Port) (keep : QueueItem → Bool) :
    (s.purge p keep).freeBuffers = s.freeBuffers + s.ports[p].freed keep := rfl

/-! ## One record changed -/

variable {s} {x y : Option Port}

theorem State.Keeps.modPort (p : Port) (f : PortState → PortState)
    (h : LaneKeeps (x = some p) (y = some p) (s.lane p) s.freeBuffers ⟨(s.lane p).branch, f s.ports[p]⟩ s.freeBuffers) :
    s.Keeps x y (s.modPort p f) :=
  .of_lane p (fun q hq => by rw [State.modPort_lane, if_neg hq]) id (by rw [State.modPort_lane, if_pos rfl]; exact h)

theorem State.Keeps.modBranch (b : Branch) (f : BranchState → BranchState)
    (h : LaneKeeps (x = some (portOf b)) (y = some (portOf b)) ⟨some s.branches[b], s.ports[portOf b]⟩ s.freeBuffers
      ⟨some (f s.branches[b]), s.ports[portOf b]⟩ s.freeBuffers) : s.Keeps x y (s.modBranch b f) :=
  .of_lane (portOf b) (fun q hq => by rw [State.modBranch_lane, if_neg hq]) id
    (by rw [State.modBranch_lane, if_pos rfl, State.lane_portOf]; exact h)

theorem State.Keeps.softPort (p : Port) (f : PortState → PortState)
    (h : PortState.Soft (s.lane p).away ((s.lane p).branch = none) s.ports[p] (f s.ports[p])) :
    s.Keeps x y (s.modPort p f) := .modPort p f (.of_softLane _ h)

theorem State.Keeps.softBranch (b : Branch) (f : BranchState → BranchState) (h : s.branches[b].Soft (f s.branches[b])) :
    s.Keeps x y (s.modBranch b f) := .modBranch b f (.of_soft _ h (.refl _))

/-- Every branch changed softly. -/
theorem State.Keeps.mapBranches (f : Branch → BranchState → BranchState) (h : ∀ b : Branch, s.branches[b].Soft (f b s.branches[b])) :
    s.Keeps x y (s.mapBranches f) := by
  refine .of_lanes (by simp only [State.mapBranches_freeBuffers]) (fun h => ?_) (forall_port.2 ⟨?_, fun b => ?_⟩)
  · simp only [State.slotsFit, State.mapBranches_requests, State.mapBranches_reports, State.mapBranches_response]
    exact h
  · rw [State.lane_trunkPort, State.lane_trunkPort, State.mapBranches_ports]
    exact .refl _ _
  · rw [State.lane_portOf, State.lane_portOf, State.mapBranches_ports, State.mapBranches_get]
    exact .of_soft _ (h b) (.refl _)

/-- Deadlines changed. -/
theorem State.Keeps.mapDeadlines (n : Entry → Nat) :
    s.Keeps x y (s.mapPorts fun _ ps => { ps with queue := ps.queue.map (QueueItem.withDeadline n) }) := by
  refine .of_lanes (by simp only [State.mapPorts_freeBuffers]) (fun h => ?_) fun p => ?_
  · simp only [State.slotsFit, State.mapPorts_requests, State.mapPorts_reports, State.mapPorts_response]
    exact h
  · have hlane : (s.mapPorts fun _ ps => { ps with queue := ps.queue.map (QueueItem.withDeadline n) }).lane p =
        ⟨(s.lane p).branch, { s.ports[p] with queue := s.ports[p].queue.map (QueueItem.withDeadline n) }⟩ := by
      rw [State.lane, State.mapPorts_branches, State.mapPorts_get]
      rfl
    rw [hlane]
    exact .of_softLane _ ⟨⟨n, rfl⟩, rfl, id, fun _ => id, id, fun _ => id⟩

/-- The domains, rules and schedule changed, or any record but those of lanes, pool and slots. -/
theorem State.Keeps.mapDomains (f : DomainIx → Domain → Domain) : s.Keeps x y (s.mapDomains f) :=
  .calm (by simp only [State.mapDomains_ports]) (by simp only [State.mapDomains_branches])
    (by simp only [State.mapDomains_freeBuffers]) fun h => by
      simp only [State.slotsFit, State.mapDomains_requests, State.mapDomains_reports, State.mapDomains_response]
      exact h

theorem State.Keeps.mapRules (f : RuleIx → Rule → Rule) : s.Keeps x y (s.mapRules f) :=
  .calm (by simp only [State.mapRules_ports]) (by simp only [State.mapRules_branches])
    (by simp only [State.mapRules_freeBuffers]) fun h => by
      simp only [State.slotsFit, State.mapRules_requests, State.mapRules_reports, State.mapRules_response]
      exact h

theorem State.Keeps.mapSchedule (f : EntryIx → ScheduleEntry → ScheduleEntry) : s.Keeps x y (s.mapSchedule f) :=
  .calm (by simp only [State.mapSchedule_ports]) (by simp only [State.mapSchedule_branches])
    (by simp only [State.mapSchedule_freeBuffers]) fun h => by
      simp only [State.slotsFit, State.mapSchedule_requests, State.mapSchedule_reports, State.mapSchedule_response]
      exact h

theorem State.Keeps.modDomain (d : DomainIx) (f : Domain → Domain) : s.Keeps x y (s.modDomain d f) :=
  .calm rfl rfl rfl id

theorem State.Keeps.modRule (r : RuleIx) (f : Rule → Rule) : s.Keeps x y (s.modRule r f) := .calm rfl rfl rfl id

end

/-! ## Reports -/

section
variable (s : State) {x y : Option Port}

theorem State.offerReport_keeps {r : Report} (h : r.attempts = 0) : s.Keeps x y (s.offerReport r) := by
  unfold State.offerReport
  split
  · rename_i hroom
    refine .calm rfl rfl rfl fun ⟨hrequests, _, hresponse, hattempts⟩ => ⟨hrequests, ?_, hresponse, fun q hq => ?_⟩
    · show (s.reports ++ [r]).length ≤ 16
      rw [List.length_append]
      exact hroom
    · rcases List.mem_append.1 hq with hq | hq
      · exact hattempts q hq
      · rw [List.mem_singleton.1 hq, h]
        exact Nat.zero_le 3
  · exact .calm rfl rfl rfl id

theorem State.raise_keeps (c : Condition) (d : Option Nat) (m n : Nat) : s.Keeps x y (s.raise c d m n) := by
  have hflags : s.Keeps x y { s with flags := s.flags ||| c.bit } := .calm rfl rfl rfl id
  unfold State.raise
  dsimp only
  split
  · exact hflags.trans (State.offerReport_keeps _ rfl)
  · exact hflags

/-! ## Branches and drains -/

theorem BranchState.enter_mode (bs : BranchState) (m : BranchMode) : (bs.enter m).mode = m := rfl

/-- A branch that enters Waking or Awake has its mark set, where a working branch had it. -/
theorem BranchState.enter_seen {bs : BranchState} {m : BranchMode} (hm : m = .waking ∨ m = .awake)
    (h : bs.mode = .waking ∨ bs.mode = .awake ∨ bs.mode = .draining → bs.seen = true) : (bs.enter m).seen = true := by
  rcases hm with rfl | rfl
  · cases hmode : bs.mode <;> simp_all [BranchState.enter]
  · cases hmode : bs.mode <;> simp_all [BranchState.enter]

theorem State.enterBranch_keeps (b : Branch) (m : BranchMode) (hm : m = .waking ∨ m = .awake)
    (hisolated : s.branches[b].mode ≠ .isolated) (hdraining : s.branches[b].mode ≠ .draining) :
    s.Keeps x y (s.enterBranch b m) :=
  .modBranch b _ (.of_working hm hisolated hdraining rfl rfl rfl rfl (BranchState.enter_seen hm))

/-- A branch record that enters its rest state. -/
def BranchState.resting (parked : Bool) (bs : BranchState) : BranchState :=
  match bs.params.rest, parked with
  | .off, _ => bs.enter .off
  | .listen, true => (bs.enter .listen).freshWindow
  | .listen, false => bs.enter .listen

/-- A front end whose branch enters its rest state. -/
def PortState.resting (rest : RestState) (ps : PortState) : PortState :=
  match rest with
  | .off => ps.emptied
  | .listen => ps

theorem State.goRest_lane_other {b : Branch} {q : Port} (h : q ≠ portOf b) : (s.goRest b).lane q = s.lane q := by
  unfold State.goRest State.enterBranch
  dsimp only
  repeat' split
  · rw [State.modPort_lane, if_neg h, State.modBranch_lane, if_neg h]
  · rw [State.modBranch_lane, if_neg h, State.modBranch_lane, if_neg h]
  · rw [State.modBranch_lane, if_neg h]

theorem State.goRest_lane (b : Branch) : (s.goRest b).lane (portOf b) =
    ⟨some (s.branches[b].resting (s.mode == .parked)),
      s.ports[portOf b].resting s.branches[b].params.rest⟩ := by
  unfold State.goRest State.enterBranch BranchState.resting PortState.resting
  dsimp only
  cases hrest : s.branches[b].params.rest with
  | off =>
    simp only [State.modPort_lane, if_true, State.modBranch_lane, State.modBranch_ports]
    rfl
  | listen =>
    dsimp only
    by_cases hmode : s.mode = .parked
    · rw [if_pos hmode, State.modBranch_lane, if_pos rfl, State.modBranch_get, if_pos rfl, State.modBranch_ports, hmode]
      rfl
    · rw [if_neg hmode, State.modBranch_lane, if_pos rfl, beq_eq_false_iff_ne.2 hmode]
      rfl

theorem State.goRest_freeBuffers (b : Branch) : (s.goRest b).freeBuffers = s.freeBuffers := by
  unfold State.goRest
  dsimp only
  repeat' split
  all_goals rfl

theorem State.goRest_slotsFit (b : Branch) (h : s.slotsFit) : (s.goRest b).slotsFit := by
  unfold State.goRest
  dsimp only
  repeat' split
  all_goals exact h

theorem BranchState.resting_mode (parked : Bool) (bs : BranchState) :
    (bs.resting parked).mode = .off ∧ bs.params.rest = .off ∨
      (bs.resting parked).mode = .listen ∧ bs.params.rest = .listen := by
  unfold BranchState.resting
  split
  · exact .inl ⟨rfl, by assumption⟩
  · exact .inr ⟨rfl, by assumption⟩
  · exact .inr ⟨rfl, by assumption⟩

/-- What a branch record keeps as it enters its rest state. -/
theorem BranchState.resting_keeps (parked : Bool) (bs : BranchState) :
    (bs.resting parked).cause = bs.cause ∧ (bs.resting parked).isolationTimer = bs.isolationTimer
      ∧ (bs.resting parked).drainTimer = bs.drainTimer ∧ (bs.resting parked).closing = bs.closing := by
  unfold BranchState.resting
  split <;> exact ⟨rfl, rfl, rfl, rfl⟩

/-- What a front end keeps as its branch enters its rest state. -/
theorem PortState.resting_keeps (rest : RestState) (ps : PortState) :
    (ps.resting rest).queue = ps.queue ∧ (ps.resting rest).flight = ps.flight
      ∧ (ps.resting rest).discards = ps.discards
      ∧ ((ps.resting rest).landing = ps.landing ∧ rest = .listen ∨ (ps.resting rest).landing = []) := by
  cases rest with
  | off => exact ⟨rfl, rfl, rfl, .inr rfl⟩
  | listen => exact ⟨rfl, rfl, rfl, .inl ⟨rfl, rfl⟩⟩

/-- The lane of a branch with its drain stopped and its queue purged. -/
theorem State.purgeStop_lane (b : Branch) (q : Port) (keep : QueueItem → Bool) :
    ((s.purge (portOf b) keep).stopDrain b).lane q = if q = portOf b then
      ⟨some { s.branches[b] with drainTimer := none, closing := false }, s.ports[portOf b].purged keep⟩
    else s.lane q := by
  have hport : (s.purge (portOf b) keep).ports[portOf b] = s.ports[portOf b].purged keep := by
    rw [State.purge, State.modPort_get, if_pos rfl]
    rfl
  rw [State.stopDrain, State.modBranch_lane]
  by_cases h : q = portOf b
  · rw [if_pos h, if_pos h, hport]
    rfl
  · rw [if_neg h, if_neg h, State.purge_lane, if_neg h]

/-- A branch goes to rest from a state with the lanes of a purge: what switches domains off in between does not show. -/
theorem State.goRest_keeps (b : Branch) (hisolated : s.branches[b].mode ≠ .isolated) {u : State}
    (hlanes : ∀ q, u.lane q = ((s.purge (portOf b) QueueItem.held).stopDrain b).lane q)
    (hfree : u.freeBuffers = s.freeBuffers + s.ports[portOf b].freed QueueItem.held)
    (hslots : s.slotsFit → u.slotsFit) : s.Keeps x y (u.goRest b) := by
  have hlane := hlanes (portOf b)
  rw [s.purgeStop_lane, if_pos rfl, State.lane_portOf] at hlane
  obtain ⟨hbranch, hport⟩ := Lane.mk.inj hlane
  have hbranch : u.branches[b] = _ := Option.some.inj hbranch
  have hport : u.ports[portOf b] = _ := hport
  refine .of_lane (portOf b) (fun q hq => ?_) (fun h => State.goRest_slotsFit u b (hslots h)) ?_
  · rw [State.goRest_lane_other _ hq, hlanes, s.purgeStop_lane, if_neg hq]
  · rw [State.goRest_lane, State.goRest_freeBuffers, State.lane_portOf, hbranch, hport, hfree]
    obtain ⟨hcause, htimer, hdrain, hclosing⟩ := BranchState.resting_keeps (u.mode == .parked)
      { s.branches[b] with drainTimer := none, closing := false }
    obtain ⟨hqueue, hflight, hdiscards, hlanding⟩ := PortState.resting_keeps s.branches[b].params.rest
      (s.ports[portOf b].purged QueueItem.held)
    have hmode := BranchState.resting_mode (u.mode == .parked)
      { s.branches[b] with drainTimer := none, closing := false }
    refine .of_resting (hmode.imp And.left And.left) hisolated hcause htimer hdrain hclosing hqueue hflight ?_ hdiscards
    rcases hlanding with ⟨hlanding, hrest⟩ | hlanding
    · rcases hmode with ⟨-, h⟩ | ⟨hmode, -⟩
      · cases h.symm.trans hrest
      · exact .inl ⟨hlanding, hmode⟩
    · exact .inr hlanding

theorem State.returnToRest_keeps (b : Branch) (hisolated : s.branches[b].mode ≠ .isolated) :
    s.Keeps x y (s.returnToRest b) := s.goRest_keeps b hisolated (fun _ => rfl) rfl id

theorem State.completeDrain_keeps (b : Branch) (hisolated : s.branches[b].mode ≠ .isolated) :
    s.Keeps x y (s.completeDrain b) := by
  refine s.goRest_keeps b hisolated (fun q => State.lane_of_eq _ ?_ ?_ q) ?_ fun h => ?_
  · simp only [State.switchOffReleasing, State.mapDomains_ports]
  · simp only [State.switchOffReleasing, State.mapDomains_branches]
  · simp only [State.switchOffReleasing, State.mapDomains_freeBuffers]
    rfl
  · simp only [State.slotsFit, State.switchOffReleasing, State.mapDomains_requests, State.mapDomains_reports,
      State.mapDomains_response]
    exact h

theorem State.settleDrain_keeps (b : Branch) : s.Keeps x y (s.settleDrain b) := by
  unfold State.settleDrain
  split
  · rename_i h
    exact s.completeDrain_keeps b (by rw [h.1]; decide)
  · exact .refl s

theorem State.settlePort_keeps (p : Port) : s.Keeps x y (s.settlePort p) := by
  unfold State.settlePort
  split
  · exact .refl s
  · exact s.settleDrain_keeps _

theorem State.goRest_mode (b : Branch) : (s.goRest b).branches[b].mode = s.branches[b].params.rest.mode := by
  have h := s.goRest_lane b
  rw [State.lane_portOf] at h
  rw [Option.some.inj (Lane.mk.inj h).1]
  rcases BranchState.resting_mode (s.mode == .parked) s.branches[b] with ⟨h, e⟩ | ⟨h, e⟩ <;> rw [h, e] <;> rfl

/-- A drain once settled is settled. -/
theorem State.settlePort_tight (p : Port) : ((s.settlePort p).lane p).tight := by
  unfold State.settlePort
  split
  · rename_i h
    rw [State.lane, h]
    exact nofun
  · rename_i b h
    obtain rfl := (branchOf_eq_some_iff p b).1 h
    unfold State.settleDrain
    rw [State.lane_portOf]
    split
    · rintro _ ⟨⟩ e
      exfalso
      rw [State.completeDrain, State.goRest_mode] at e
      revert e
      cases (State.switchOffReleasing _ b).branches[b].params.rest <;> exact nofun
    · rename_i hno
      rintro _ ⟨⟩ e
      refine ⟨fun h => hno ⟨e, .inl h⟩, fun hclosing => ?_⟩
      by_contra hflight
      exact hno ⟨e, .inr ⟨hclosing, Option.not_isSome_iff_eq_none.1 hflight⟩⟩

/-- An operation on one port, then its drain settled. -/
theorem State.Keeps.settlePort {t : State} {p : Port} (h : s.Keeps (some p) y t) : s.Keeps none y (t.settlePort p) := by
  have h' : s.Keeps (some p) y (t.settlePort p) := h.trans (t.settlePort_keeps p)
  refine ⟨h'.loose, fun hl ht q hq => ?_, h'.rests, h'.sealed, h'.pool, h'.slots, h'.fits, h'.seen⟩
  rcases eq_or_ne q p with rfl | hne
  · exact t.settlePort_tight q
  · exact h'.tight hl (fun r _ => ht r nofun) q fun e => hne (Option.some.inj e).symm

theorem State.settlePort_portOf (b : Branch) : s.settlePort (portOf b) = s.settleDrain b := by
  rw [State.settlePort, branchOf_portOf]

/-- A branch set Draining with its marker placed, before its drain is settled. -/
def State.marked (s : State) (b : Branch) : State :=
  ((s.enterBranch b .draining).modPort (portOf b) fun ps => { ps with queue := ps.queue ++ [.marker] }).modBranch b
    fun bs => { bs with drainTimer := some bs.params.drainLimit, closing := false }

theorem State.placeMarker_eq {b : Branch} (h : s.branches[b].mode = .awake) :
    s.placeMarker b = (s.marked b).settlePort (portOf b) := by
  rw [State.settlePort_portOf]
  exact if_pos h

theorem State.placeMarker_eq_self {b : Branch} (h : s.branches[b].mode ≠ .awake) : s.placeMarker b = s := if_neg h

theorem State.marked_lane (b : Branch) (q : Port) : (s.marked b).lane q = if q = portOf b then
    ⟨some { s.branches[b].enter .draining with drainTimer := some s.branches[b].params.drainLimit, closing := false },
      { s.ports[portOf b] with queue := s.ports[portOf b].queue ++ [.marker] }⟩
    else s.lane q := by
  rw [State.marked, State.modBranch_lane, State.modPort_branches, State.modPort_lane, State.enterBranch,
    State.modPort_get, State.modBranch_get, State.modBranch_ports, if_pos rfl, if_pos rfl]
  by_cases h : q = portOf b
  · rw [if_pos h, if_pos h]
    rfl
  · rw [if_neg h, if_neg h, if_neg h, State.modBranch_lane, if_neg h]

theorem State.placeMarker_keeps (b : Branch) : s.Keeps none y (s.placeMarker b) := by
  by_cases hmode : s.branches[b].mode = .awake
  · rw [s.placeMarker_eq hmode]
    refine State.Keeps.settlePort _ (State.Keeps.of_lane (t := s.marked b) (portOf b)
      (fun q hq => by rw [s.marked_lane, if_neg hq]) id ?_)
    rw [s.marked_lane, if_pos rfl, State.lane_portOf]
    exact .of_marked rfl hmode rfl rfl rfl rfl rfl (fun h => by simpa [BranchState.enter] using h) rfl rfl rfl rfl
  · rw [s.placeMarker_eq_self hmode]
    exact .refl s

/-- A Draining branch made Awake with its marker withdrawn, before its Releasing domains return to On. -/
def State.unmarked (s : State) (b : Branch) : State :=
  ((s.modPort (portOf b) fun ps => { ps with queue := ps.queue.filter QueueItem.isFrame }).stopDrain b).enterBranch b
    .awake

theorem State.withdrawMarker_eq {b : Branch} (h : s.branches[b].mode = .draining) :
    s.withdrawMarker b = (s.unmarked b).reviveReleasing b := if_pos h

theorem State.withdrawMarker_eq_self {b : Branch} (h : s.branches[b].mode ≠ .draining) : s.withdrawMarker b = s := if_neg h

theorem State.unmarked_lane (b : Branch) (q : Port) : (s.unmarked b).lane q = if q = portOf b then
    ⟨some (BranchState.enter { s.branches[b] with drainTimer := none, closing := false } .awake),
      { s.ports[portOf b] with queue := s.ports[portOf b].queue.filter QueueItem.isFrame }⟩
    else s.lane q := by
  rw [State.unmarked, State.enterBranch, State.modBranch_lane, State.stopDrain, State.modBranch_lane,
    State.modBranch_get, State.modBranch_ports, State.modPort_lane, State.modPort_get, State.modPort_branches,
    if_pos rfl, if_pos rfl]
  by_cases h : q = portOf b
  · rw [if_pos h, if_pos h]
  · rw [if_neg h, if_neg h, if_neg h, if_neg h]

theorem State.withdrawMarker_keeps (b : Branch) : s.Keeps x y (s.withdrawMarker b) := by
  by_cases hmode : s.branches[b].mode = .draining
  · rw [s.withdrawMarker_eq hmode]
    refine State.Keeps.trans (State.Keeps.of_lane (t := s.unmarked b) (portOf b)
      (fun q hq => by rw [s.unmarked_lane, if_neg hq]) id ?_) (State.Keeps.mapDomains _)
    rw [s.unmarked_lane, if_pos rfl, State.lane_portOf]
    refine .of_roused (.inl ⟨rfl, by rw [hmode]; decide, rfl, rfl⟩) rfl rfl (fun h _ => ?_) rfl rfl rfl rfl
    exact BranchState.enter_seen (.inr rfl) h
  · rw [s.withdrawMarker_eq_self hmode]
    exact .refl s

/-! ## Domains and their branches -/

theorem State.branchJoined_keeps (b : Branch) : s.Keeps x y (s.branchJoined b) := by
  unfold State.branchJoined
  split
  · split
    · rename_i h
      exact s.enterBranch_keeps b _ (.inl rfl) (by rw [h]; decide) (by rw [h]; decide)
    · rename_i h
      exact s.enterBranch_keeps b _ (.inl rfl) (by rw [h]; decide) (by rw [h]; decide)
    · exact s.withdrawMarker_keeps b
    all_goals exact .refl s
  · exact .refl s

/-- What a branch may do as it follows its domains. -/
theorem State.branchFollow_cases (b : Branch) : s.branchFollow b = s ∨ s.mode = .parked ∧
    (s.branches[b].mode = .waking ∧ s.anyDomainOf b DomainState.waiting = false ∧ s.anyDomainOf b (· == .on) = true
        ∧ s.branchFollow b = s.enterBranch b .awake ∨
      (s.branches[b].mode = .waking ∧ s.anyDomainOf b DomainState.waiting = false
          ∧ s.anyDomainOf b (· == .on) = false ∨
        (s.branches[b].mode = .awake ∨ s.branches[b].mode = .draining) ∧ s.anyDomainOf b DomainState.active = false)
        ∧ s.branchFollow b = s.returnToRest b) := by
  unfold State.branchFollow
  split
  · rename_i hparked
    split
    · rename_i hmode
      cases hwaiting : s.anyDomainOf b DomainState.waiting with
      | true => exact .inl rfl
      | false =>
        cases hon : s.anyDomainOf b (· == .on) with
        | true => exact .inr ⟨hparked, .inl ⟨hmode, rfl, rfl, rfl⟩⟩
        | false => exact .inr ⟨hparked, .inr ⟨.inl ⟨hmode, rfl, rfl⟩, rfl⟩⟩
    · rename_i hmode
      cases hactive : s.anyDomainOf b DomainState.active with
      | true => exact .inl rfl
      | false => exact .inr ⟨hparked, .inr ⟨.inr ⟨.inl hmode, rfl⟩, rfl⟩⟩
    · rename_i hmode
      cases hactive : s.anyDomainOf b DomainState.active with
      | true => exact .inl rfl
      | false => exact .inr ⟨hparked, .inr ⟨.inr ⟨.inr hmode, rfl⟩, rfl⟩⟩
    all_goals exact .inl rfl
  · exact .inl rfl

theorem State.branchFollow_keeps (b : Branch) : s.Keeps x y (s.branchFollow b) := by
  rcases s.branchFollow_cases b with h | ⟨-, ⟨hmode, -, -, h⟩ | ⟨hmode, h⟩⟩
  · rw [h]
    exact .refl s
  · rw [h]
    exact s.enterBranch_keeps b _ (.inr rfl) (by rw [hmode]; decide) (by rw [hmode]; decide)
  · rw [h]
    refine s.returnToRest_keeps b ?_
    rcases hmode with ⟨hmode, -⟩ | ⟨hmode | hmode, -⟩ <;> rw [hmode] <;> decide

theorem State.followDomain_keeps (d : DomainIx) : s.Keeps x y (s.followDomain d) := by
  unfold State.followDomain
  split
  · exact .refl s
  · exact s.branchFollow_keeps _

theorem State.reportFault_keeps (d : DomainIx) (k : DomainState) : s.Keeps x y (s.reportFault d k) :=
  (s.followDomain_keeps d).trans (State.raise_keeps _ _ _ _ _)

theorem State.grantRounds_keeps (n : Nat) (s : State) : s.Keeps x y (s.grantRounds n) := by
  induction n generalizing s with
  | zero => exact .refl s
  | succ n ih =>
    have hgrant : ∀ g, s.Keeps x y (s.grant g) := fun g => .calm rfl rfl rfl id
    rcases s.grantRounds_succ n with h | ⟨g, -, ⟨-, h⟩ | ⟨-, h⟩⟩
    · rw [h]
      exact .refl s
    · rw [h]
      exact (((hgrant g).trans (.modDomain g _)).trans (ih _)).trans (State.reportFault_keeps _ _ _)
    · rw [h]
      exact (hgrant g).trans (ih _)

theorem State.runArbiter_keeps : s.Keeps x y s.runArbiter := s.grantRounds_keeps 16

theorem State.enterFault_keeps (d : DomainIx) : s.Keeps x y (s.enterFault d) :=
  ((State.Keeps.modDomain d _).trans (State.runArbiter_keeps _)).trans (State.reportFault_keeps _ _ _)

theorem State.requestWake_keeps (d : DomainIx) (k : WakeClass) (n : Nat) (r : Option RuleIx) :
    s.Keeps x y (s.requestWake d k n r) := by
  unfold State.requestWake
  dsimp only
  split
  · split
    · exact .modDomain d _
    · split
      · exact .refl s
      · exact (State.Keeps.modDomain d _).trans (State.branchJoined_keeps _ _)
  · exact .modDomain d _
  · exact .modDomain d _
  · exact .modDomain d _
  · split
    · exact .modDomain d _
    · exact (State.Keeps.modDomain d _).trans (State.withdrawMarker_keeps _ _)
  · exact .refl s

theorem State.wake_keeps (d : DomainIx) (k : WakeClass) (n : Nat) (r : Option RuleIx) : s.Keeps x y (s.wake d k n r) :=
  (s.requestWake_keeps d k n r).trans (State.runArbiter_keeps _)

theorem State.wakeGroup_keeps (ds : List DomainIx) : s.Keeps x y (s.wakeGroup ds) :=
  (State.Keeps.foldl (fun t d => t.requestWake_keeps d _ _ _) ds s).trans (State.runArbiter_keeps _)

theorem State.reloadActivity_keeps (d : DomainIx) (n : Nat) : s.Keeps x y (s.reloadActivity d n) := by
  unfold State.reloadActivity
  dsimp only
  split
  · exact .modDomain d _
  · split
    · exact .modDomain d _
    · exact (State.Keeps.modDomain d _).trans (State.withdrawMarker_keeps _ _)
  all_goals exact .refl s

theorem State.switchOff_keeps (d : DomainIx) : s.Keeps x y (s.switchOff d) := by
  unfold State.switchOff
  split
  · exact ((State.Keeps.modDomain d _).trans (State.followDomain_keeps _ d)).trans (State.runArbiter_keeps _)
  · exact .refl s

theorem State.cut_keeps (g : Domain → Bool) : s.Keeps x y (s.cut g) :=
  (State.Keeps.mapDomains _).trans (State.runArbiter_keeps _)

/-! ## Isolations -/

/-- The lane of an Isolated branch. -/
def Lane.isolated (l : Lane) : Prop := ∃ bs ∈ l.branch, bs.mode = .isolated

theorem State.lane_isolated_iff (b : Branch) : (s.lane (portOf b)).isolated ↔ s.branches[b].mode = .isolated := by
  rw [State.lane_portOf, Lane.isolated]
  exact ⟨fun ⟨_, e, h⟩ => Option.some.inj e ▸ h, fun h => ⟨_, rfl, h⟩⟩

/-- An Isolated branch is left alone by what domains do. -/
theorem State.branchFollow_isolated {b : Branch} (h : (s.lane (portOf b)).isolated) (c : Branch) :
    (s.branchFollow c).lane (portOf b) = s.lane (portOf b) := by
  rcases eq_or_ne b c with rfl | hne
  · rw [State.branchFollow, (s.lane_isolated_iff b).1 h]
    split <;> rfl
  · have hport : portOf b ≠ portOf c := fun e => hne (portOf_injective e)
    rcases s.branchFollow_cases c with e | ⟨-, ⟨-, -, -, e⟩ | ⟨-, e⟩⟩
    · rw [e]
    · rw [e, State.enterBranch, State.modBranch_lane, if_neg hport]
    · rw [e, State.returnToRest, State.goRest_lane_other _ hport, State.purgeStop_lane, if_neg hport]

theorem State.raise_lane (k : Condition) (d : Option Nat) (m n : Nat) (q : Port) : (s.raise k d m n).lane q = s.lane q := by
  unfold State.raise State.offerReport
  dsimp only
  repeat' split
  all_goals rfl

theorem State.reportFault_isolated {b : Branch} (h : (s.lane (portOf b)).isolated) (d : DomainIx) (k : DomainState) :
    (s.reportFault d k).lane (portOf b) = s.lane (portOf b) := by
  rw [State.reportFault, State.raise_lane]
  unfold State.followDomain
  split
  · rfl
  · exact s.branchFollow_isolated h _

theorem State.grant_lane (d : DomainIx) (q : Port) : (s.grant d).lane q = s.lane q := rfl

theorem State.modDomain_lane (d : DomainIx) (f : Domain → Domain) (q : Port) : (s.modDomain d f).lane q = s.lane q := rfl

theorem State.mapDomains_lane (f : DomainIx → Domain → Domain) (q : Port) : (s.mapDomains f).lane q = s.lane q :=
  State.lane_of_eq _ (by simp only [State.mapDomains_ports]) (by simp only [State.mapDomains_branches]) _

theorem State.grantRounds_isolated {b : Branch} (n : Nat) (s : State) (h : (s.lane (portOf b)).isolated) :
    (s.grantRounds n).lane (portOf b) = s.lane (portOf b) := by
  induction n generalizing s with
  | zero => rfl
  | succ n ih =>
    rcases s.grantRounds_succ n with e | ⟨g, -, ⟨-, e⟩ | ⟨-, e⟩⟩
    · rw [e]
    · have hlane := ih ((s.grant g).modDomain g Domain.faulted) (by rw [State.modDomain_lane, State.grant_lane]; exact h)
      rw [State.modDomain_lane, State.grant_lane] at hlane
      rw [e, State.reportFault_isolated _ (by rw [hlane]; exact h)]
      exact hlane
    · rw [e, ih (s.grant g) (by rw [State.grant_lane]; exact h), State.grant_lane]

theorem State.cut_isolated {b : Branch} (h : (s.lane (portOf b)).isolated) (g : Domain → Bool) :
    (s.cut g).lane (portOf b) = s.lane (portOf b) := by
  rw [State.cut, State.runArbiter, State.grantRounds_isolated 16 _ (by rw [State.mapDomains_lane]; exact h),
    State.mapDomains_lane]

/-- The sealed isolation of a port ends the exemption it had. -/
theorem State.Keeps.seal {t : State} {p : Port} (h : s.Keeps x (some p) t) (hp : (t.lane p).sealed) : s.Keeps x none t := by
  refine ⟨h.loose, h.tight, h.rests, fun hr hs q _ => ?_, h.pool, h.slots, h.fits, h.seen⟩
  rcases eq_or_ne q p with rfl | hne
  · exact hp
  · exact h.sealed hr (fun r _ => hs r nofun) q fun e => hne (Option.some.inj e).symm

theorem State.isolating_lane (b : Branch) (q : Port) : (s.isolating b).lane q = if q = portOf b then
    ⟨some { s.branches[b].enter .isolated with drainTimer := none, closing := false },
      s.ports[portOf b].emptied.purged fun _ => false⟩
    else s.lane q := by
  have hport : ((s.enterBranch b .isolated).modPort (portOf b) PortState.emptied).ports[portOf b] =
      s.ports[portOf b].emptied := by
    rw [State.modPort_get, if_pos rfl]
    rfl
  have hbranch : ((s.enterBranch b .isolated).modPort (portOf b) PortState.emptied).branches[b] =
      s.branches[b].enter .isolated := by
    rw [State.modPort_branches, State.enterBranch, State.modBranch_get, if_pos rfl]
  rw [State.isolating, State.purgeStop_lane, hport, hbranch]
  by_cases h : q = portOf b
  · rw [if_pos h, if_pos h]
  · rw [if_neg h, if_neg h, State.modPort_lane, if_neg h, State.enterBranch, State.modBranch_lane, if_neg h]

theorem State.isolating_freeBuffers (b : Branch) : (s.isolating b).freeBuffers =
    s.freeBuffers + s.ports[portOf b].freed fun _ => false := by
  have hport : ((s.enterBranch b .isolated).modPort (portOf b) PortState.emptied).ports[portOf b] =
      s.ports[portOf b].emptied := by
    rw [State.modPort_get, if_pos rfl]
    rfl
  rw [State.isolating, State.stopDrain, State.modBranch_freeBuffers, State.purge_freeBuffers, hport]
  rfl

theorem State.modPort_slotsFit (p : Port) (f : PortState → PortState) : (s.modPort p f).slotsFit ↔ s.slotsFit := Iff.rfl

theorem State.modBranch_slotsFit (b : Branch) (f : BranchState → BranchState) :
    (s.modBranch b f).slotsFit ↔ s.slotsFit := Iff.rfl

theorem State.purge_slotsFit (p : Port) (keep : QueueItem → Bool) : (s.purge p keep).slotsFit ↔ s.slotsFit := Iff.rfl

theorem State.isolating_slotsFit (b : Branch) : (s.isolating b).slotsFit ↔ s.slotsFit := by
  rw [State.isolating, State.stopDrain, State.modBranch_slotsFit, State.purge_slotsFit, State.modPort_slotsFit,
    State.enterBranch, State.modBranch_slotsFit]

theorem State.isolate_keeps (b : Branch) {c : IsolationCause} (hc : c ≠ .none) : s.Keeps x none (s.isolate b c) := by
  by_cases hmode : s.branches[b].mode = .isolated
  · rw [s.isolate_eq_self hmode]
    exact .refl s
  rw [s.isolate_eq hmode]
  have hisolating : s.Keeps x (some (portOf b)) (s.isolating b) := by
    refine .of_lane (portOf b) (fun q hq => by rw [s.isolating_lane, if_neg hq]) (s.isolating_slotsFit b).2 ?_
    rw [s.isolating_lane, if_pos rfl, State.lane_portOf, s.isolating_freeBuffers]
    exact .of_isolating rfl rfl rfl rfl rfl rfl rfl rfl
  have hlane : ((s.isolating b).cut fun d => d.branch = some b).lane (portOf b) =
      ⟨some { s.branches[b].enter .isolated with drainTimer := none, closing := false },
        s.ports[portOf b].emptied.purged fun _ => false⟩ := by
    have h := s.isolating_lane b (portOf b)
    rw [if_pos rfl] at h
    rw [State.cut_isolated _ (by rw [h]; exact ⟨_, rfl, rfl⟩), h]
  have hkeeps := hisolating.trans (State.cut_keeps (s.isolating b) fun d => d.branch = some b)
  revert hlane hkeeps
  generalize (s.isolating b).cut (fun d => d.branch = some b) = t
  intro hlane hkeeps
  rw [State.lane_portOf] at hlane
  obtain ⟨hbranch, hport⟩ := Lane.mk.inj hlane
  have hbranch : t.branches[b] = _ := Option.some.inj hbranch
  have hmode : t.branches[b].mode = .isolated := by rw [hbranch]; rfl
  let sealing : BranchState → BranchState := fun bs =>
    { bs with windowTimer := none, cause := c, isolationTimer := some s.branches[b].params.isolationTime }
  have hsealed : Lane.sealed ⟨some (sealing t.branches[b]), t.ports[portOf b]⟩ := by
    rintro _ ⟨⟩
    refine ⟨?_, iff_of_false hc fun h => h hmode⟩
    show true = (t.branches[b].mode == .isolated)
    rw [hmode]
    rfl
  refine State.Keeps.trans (State.Keeps.seal _ (p := portOf b) (hkeeps.trans (.modBranch b sealing ?_)) ?_)
    (State.raise_keeps _ _ _ _ _)
  · exact .of_sealing hmode hmode rfl rfl hsealed
  · rw [State.modBranch_lane, if_pos rfl]
    exact hsealed

end

end Sys2Proof.Machine
end

section
/-! The operations of admission, transmission, modes and resets keep the laws of lanes and pool. -/

namespace Sys2Proof.Machine

section
variable (s : State) {x y : Option Port}

/-! ## Chatter, the ends of isolations and confirmation -/

theorem State.chatter_keeps (b : Branch) : s.Keeps x none (s.chatter b) := by
  unfold State.chatter
  split
  · have hcount : s.Keeps x none (s.modBranch b fun bs => { bs with chatterCount := bs.chatterCount + 1 }) :=
      .softBranch b _ ⟨rfl, rfl, rfl, rfl, rfl, fun _ => id⟩
    dsimp only
    split
    · exact hcount.trans (State.isolate_keeps _ b nofun)
    · exact hcount
  · exact .refl s

/-- An Isolated branch with its isolation's fields cleared, before it enters another state. -/
def State.freed (s : State) (b : Branch) : State :=
  (s.modBranch b BranchState.released).modPort (portOf b) fun ps => { ps with discards := 0 }

theorem State.freed_lane (b : Branch) (q : Port) : (s.freed b).lane q = if q = portOf b then
    ⟨some s.branches[b].released, { s.ports[portOf b] with discards := 0 }⟩ else s.lane q := by
  rw [State.freed, State.modPort_lane, State.modBranch_ports, State.modBranch_lane, State.modBranch_lane, if_pos rfl]
  by_cases h : q = portOf b
  · rw [if_pos h, if_pos h]
  · rw [if_neg h, if_neg h, if_neg h]

theorem State.freed_branch (b : Branch) : (s.freed b).branches[b] = s.branches[b].released := by
  rw [State.freed, State.modPort_branches, State.modBranch_get, if_pos rfl]

theorem State.freed_port (b : Branch) : (s.freed b).ports[portOf b] = { s.ports[portOf b] with discards := 0 } := by
  rw [State.freed, State.modPort_get, if_pos rfl, State.modBranch_ports]

theorem State.freedToRest_keeps {b : Branch} (h : s.branches[b].mode = .isolated) :
    s.Keeps x y ((s.freed b).goRest b) := by
  refine .of_lane (portOf b) (fun q hq => by rw [State.goRest_lane_other _ hq, s.freed_lane, if_neg hq])
    (fun h => State.goRest_slotsFit (s.freed b) b h) ?_
  rw [State.goRest_lane, State.goRest_freeBuffers, s.freed_branch, s.freed_port, State.lane_portOf]
  obtain ⟨hcause, htimer, hdrain, hclosing⟩ :=
    BranchState.resting_keeps ((s.freed b).mode == .parked) s.branches[b].released
  obtain ⟨hqueue, hflight, hdiscards, hlanding⟩ :=
    PortState.resting_keeps s.branches[b].released.params.rest { s.ports[portOf b] with discards := 0 }
  exact .of_freed h ((BranchState.resting_mode _ _).imp And.left fun h => .inl h.1) hcause htimer hdrain hclosing hqueue
    hflight (hlanding.imp And.left id) hdiscards

theorem State.freedTo_keeps {b : Branch} (h : s.branches[b].mode = .isolated) {m : BranchMode}
    (hm : m = .listen ∨ m = .awake) : s.Keeps x y ((s.freed b).enterBranch b m) := by
  refine .of_lane (portOf b) (fun q hq => by rw [State.enterBranch, State.modBranch_lane, if_neg hq, s.freed_lane,
    if_neg hq]) id ?_
  rw [State.enterBranch, State.modBranch_lane, if_pos rfl, s.freed_branch, s.freed_port, State.lane_portOf]
  refine .of_freed h (.inr ?_) rfl rfl rfl rfl rfl rfl (.inl rfl) rfl
  rcases hm with rfl | rfl
  · exact .inl rfl
  · refine .inr ⟨rfl, BranchState.enter_seen (.inr rfl) fun e => ?_⟩
    change s.branches[b].mode = _ ∨ s.branches[b].mode = _ ∨ s.branches[b].mode = _ at e
    rw [h] at e
    rcases e with e | e | e <;> cases e

theorem State.leaveIsolated_keeps {b : Branch} (h : s.branches[b].mode = .isolated) :
    s.Keeps x y (s.leaveIsolated b) := by
  unfold State.leaveIsolated
  dsimp only
  split
  · exact s.freedToRest_keeps h
  · exact s.freedTo_keeps h (.inl rfl)
  all_goals exact (s.freedTo_keeps h (.inr rfl)).trans (State.wakeGroup_keeps _ _)

theorem State.confirm_keeps (b : Branch) : s.Keeps x y (s.confirm b) :=
  (State.Keeps.mapRules _).trans (State.Keeps.mapDomains _)

theorem State.receptionNotice_keeps (b : Branch) : s.Keeps x y (s.receptionNotice b) :=
  (s.confirm_keeps b).trans (State.withdrawMarker_keeps _ b)

theorem State.dropConfirm_keeps (r : RuleIx) : s.Keeps x y (s.dropConfirm r) := .calm rfl rfl rfl id

theorem State.charge_keeps (r : RuleIx) (d : DomainIx) : s.Keeps x y (s.charge r d) := by
  unfold State.charge
  dsimp only
  repeat' split
  · exact .modRule r _
  · exact ((State.Keeps.modRule r _).trans (State.dropConfirm_keeps _ r)).trans (State.raise_keeps _ _ _ _ _)
  · exact .modRule r _

theorem State.judge_keeps (d : DomainIx) : s.Keeps x y (s.judge d) := by
  unfold State.judge
  dsimp only
  split
  · exact (s.charge_keeps _ d).trans (.modDomain d _)
  · exact .modDomain d _

theorem State.lingerOut_keeps (d : DomainIx) : s.Keeps none y (s.lingerOut d) := by
  unfold State.lingerOut
  split
  · exact .modDomain d _
  split
  · exact .modDomain d _
  · exact (State.Keeps.modDomain d _).trans (State.placeMarker_keeps _ _)

/-! ## The account -/

theorem State.recompute_keeps : s.Keeps x y s.recompute := by
  have hbattery : ∀ (a : Account) (k : Bool) (m : Nat), s.Keeps x y
      (if k then { s with account := a }.raise .batteryLow none m 0 else { s with account := a }) := by
    intro a k m
    have hcalm : s.Keeps x y { s with account := a } := .calm rfl rfl rfl id
    split
    · exact hcalm.trans (State.raise_keeps _ _ _ _ _)
    · exact hcalm
  unfold State.recompute
  dsimp only
  split
  · exact hbattery _ _ _
  split
  · exact ((hbattery _ _ _).trans (State.raise_keeps _ _ _ _ _)).trans (State.Keeps.mapDomains _)
  · exact (hbattery _ _ _).trans (State.raise_keeps _ _ _ _ _)

theorem State.issueBattery_keeps (v : Option (BitVec 16)) : s.Keeps x y (s.issueBattery v) := by
  unfold State.issueBattery
  split
  · exact .refl s
  · rename_i v
    have hcalm : s.Keeps x y { s with account := { s.account with vb := v.toNat } } := .calm rfl rfl rfl id
    exact hcalm.trans (State.recompute_keeps _)

/-- A mark that the account clears is not one of a working branch. -/
theorem State.clearMarks_keeps : s.Keeps x y s.clearMarks := by
  refine (State.Keeps.mapDomains _).trans (.mapBranches _ fun b => ⟨rfl, rfl, rfl, rfl, rfl, fun hmode hseen => ?_⟩)
  rcases hmode with h | h | h <;> simp only [h, hseen] <;> rfl

theorem State.accountNow_keeps : s.Keeps x y s.accountNow := by
  unfold State.accountNow
  dsimp only
  have hcalm : s.Keeps x y { s with account := s.account.charged s.budget s.drawSum } := .calm rfl rfl rfl id
  split
  · exact (hcalm.trans (State.raise_keeps _ _ _ _ _)).trans ((State.clearMarks_keeps _).trans (State.recompute_keeps _))
  · exact hcalm.trans ((State.clearMarks_keeps _).trans (State.recompute_keeps _))

/-! ## Copies and admission -/

theorem State.acceptsCopy_branch {p : Port} {hold : Bool} (h : s.acceptsCopy p hold = true) :
    ∀ bs ∈ (s.lane p).branch, bs.mode ≠ .isolated ∧ (bs.mode.atRest = true → hold = true) := by
  unfold State.acceptsCopy at h
  intro bs hbs
  obtain ⟨b, hb, rfl⟩ := Option.map_eq_some_iff.1 hbs
  rw [hb] at h
  dsimp only at h
  cases hmode : s.branches[b].mode <;> rw [hmode] at h <;> simp_all [BranchMode.atRest]

/-- The entry that a copy makes. -/
def State.copyEntry (s : State) (p : Port) (f : Frame) (k : WakeClass) (hold : Bool) : Entry :=
  { frame := f, cls := k, hold := hold, attempts := 0, sending := false, deadline := s.ports[p].params.holdAge }

theorem State.enqueue_lane (p q : Port) (f : Frame) (k : WakeClass) (hold : Bool) : (s.enqueue p f k hold).lane q =
    if q = p then ⟨(s.lane p).branch,
      { s.ports[p] with queue := s.ports[p].queue ++ [.frame (s.copyEntry p f k hold)] }⟩ else s.lane q :=
  s.modPort_lane p q fun ps => { ps with queue := ps.queue ++ [.frame (s.copyEntry p f k hold)] }

theorem State.enqueue_keeps {p : Port} {k : WakeClass} {hold : Bool} (f : Frame) (h : s.acceptsCopy p hold = true)
    (hroom : 1 ≤ s.freeBuffers) (hclass : k = .a ∨ 9 ≤ s.freeBuffers) : s.Keeps x y (s.enqueue p f k hold) := by
  refine .of_lane p (fun q hq => by rw [s.enqueue_lane, if_neg hq]) id ?_
  rw [s.enqueue_lane, if_pos rfl]
  exact .of_enqueued (e := s.copyEntry p f k hold) rfl rfl (s.acceptsCopy_branch h) hroom hclass rfl rfl rfl rfl

theorem State.dropAt_lane (p q : Port) (i : Nat) : (s.dropAt p i).lane q =
    if q = p then ⟨(s.lane p).branch, { s.ports[p] with queue := s.ports[p].queue.eraseIdx i }⟩ else s.lane q :=
  s.modPort_lane p q fun ps => { ps with queue := ps.queue.eraseIdx i }

theorem State.dropAt_keeps {p : Port} {i : Nat} {e : Entry} (he : s.ports[p].queue[i]? = some (.frame e))
    (hidle : e.sending = false) : s.Keeps (some p) y (s.dropAt p i) := by
  refine .of_lane p (fun q hq => by rw [s.dropAt_lane, if_neg hq]) id ?_
  rw [s.dropAt_lane, if_pos rfl]
  exact .of_dropped rfl he hidle rfl rfl rfl rfl

/-- The place of an eviction candidate holds an idle entry. -/
theorem evictionPlace_some {q : List QueueItem} {i : Nat} (h : evictionPlace q = some i) :
    ∃ e, q[i]? = some (.frame e) ∧ e.sending = false := by
  obtain ⟨hi, hevictable, -⟩ := List.findIdx?_eq_some_iff_getElem.1 h
  rw [List.getElem?_eq_getElem hi]
  cases hitem : q[i] with
  | frame e =>
    rw [hitem, QueueItem.evictable_frame, Bool.and_eq_true, Bool.not_eq_true'] at hevictable
    exact ⟨e, rfl, hevictable.2⟩
  | marker =>
    rw [hitem] at hevictable
    cases hevictable

theorem State.evictFor_keeps {p : Port} {hold : Bool} (f : Frame) (h : s.acceptsCopy p hold = true) :
    s.Keeps none y (s.evictFor p f hold) := by
  unfold State.evictFor State.holdOverflow
  split
  · exact s.raise_keeps _ _ _ _
  rename_i place hplace
  obtain ⟨e, he, hidle⟩ := evictionPlace_some hplace
  split
  · refine State.Keeps.settlePort _ ?_
    have hdrop : s.Keeps (some p) y (s.dropAt p place) := s.dropAt_keeps he hidle
    have haccepts : (s.dropAt p place).acceptsCopy p hold = true := h
    exact (hdrop.trans (State.enqueue_keeps _ f haccepts (Nat.succ_pos _) (.inl rfl))).trans
      (State.raise_keeps _ _ _ _ _)
  · exact s.raise_keeps _ _ _ _

theorem State.poolRoom_iff (k : WakeClass) : s.poolRoom k = true ↔
    1 ≤ s.freeBuffers ∧ (k = .a ∨ 9 ≤ s.freeBuffers) := by
  cases k with
  | a => simp [State.poolRoom]
  | b =>
    rw [State.poolRoom, decide_eq_true_iff, or_iff_right nofun]
    exact (and_iff_right_of_imp (le_trans (Nat.le_add_left 1 8))).symm
  | c =>
    rw [State.poolRoom, decide_eq_true_iff, or_iff_right nofun]
    exact (and_iff_right_of_imp (le_trans (Nat.le_add_left 1 8))).symm

theorem State.offerCopy_keeps (p : Port) (f : Frame) (k : WakeClass) (hold : Bool) :
    s.Keeps none y (s.offerCopy p f k hold) := by
  unfold State.offerCopy State.holdOverflow
  split
  · rename_i haccepts
    split
    · rename_i hroom
      rw [Bool.and_eq_true] at hroom
      obtain ⟨hfree, hclass⟩ := (s.poolRoom_iff k).1 hroom.2
      exact s.enqueue_keeps f haccepts hfree hclass
    · split
      · exact s.evictFor_keeps f haccepts
      all_goals exact s.raise_keeps _ _ _ _
  · exact .refl s

theorem State.offerCopies_keeps (z : PortSet) (f : Frame) (k : WakeClass) (hold : Bool) :
    s.Keeps none y (s.offerCopies z f k hold) :=
  .foldl (fun t p => t.offerCopy_keeps p f k hold) _ s

theorem State.issueWakes_keeps (l : Level) (z : DomainSet) (k : WakeClass) (n : Nat) (r : Option RuleIx) :
    s.Keeps x y (s.issueWakes l z k n r) :=
  .foldl (fun t d => t.wake_keeps d k _ r) _ s

theorem State.issueReloads_keeps (l : Level) (z : DomainSet) : s.Keeps x y (s.issueReloads l z) :=
  .foldl (fun t d => t.reloadActivity_keeps d _) _ s

theorem State.issueChatter_keeps (due : Bool) (p : Port) : s.Keeps x none (s.issueChatter due p) := by
  unfold State.issueChatter
  repeat' split
  · exact .refl s
  · exact s.chatter_keeps _
  · exact .refl s

theorem State.dispatchMatch_keeps (p : Port) (f : Frame) (m : Match) : s.Keeps none none (s.dispatchMatch p f m) := by
  unfold State.dispatchMatch
  split
  · exact (s.issueWakes_keeps _ _ _ _ _).trans ((State.issueReloads_keeps _ _ _).trans
      ((State.offerCopies_keeps _ _ _ _ _).trans ((State.issueBattery_keeps _ _).trans (State.issueChatter_keeps _ _ _))))
  · exact (s.issueReloads_keeps _ _).trans
      ((State.offerCopies_keeps _ _ _ _ _).trans ((State.issueBattery_keeps _ _).trans (State.issueChatter_keeps _ _ _)))
  · exact (s.issueBattery_keeps _).trans (State.issueChatter_keeps _ _ _)

theorem State.queueRequest_keeps (l : List Byte) : s.Keeps x y (s.queueRequest l) := by
  unfold State.queueRequest
  split
  · rename_i hroom
    refine .calm rfl rfl rfl fun ⟨_, hreports, hresponse, hattempts⟩ => ⟨?_, hreports, hresponse, hattempts⟩
    show (s.requests ++ [l]).length ≤ 4
    rw [List.length_append]
    exact hroom
  · exact .calm rfl rfl rfl id

theorem State.dispatch_keeps (c : Classification) : s.Keeps none none (s.dispatch c) := by
  unfold State.dispatch
  split
  · exact s.queueRequest_keeps _
  · exact s.offerCopies_keeps _ _ _ _
  · exact s.dispatchMatch_keeps _ _ _
  · exact (s.offerCopies_keeps _ _ _ _).trans (State.issueChatter_keeps _ _ _)
  · exact s.issueChatter_keeps _ _

theorem State.scheduledWake_keeps (i : EntryIx) : s.Keeps x y (s.scheduledWake i) := by
  unfold State.scheduledWake
  dsimp only
  split
  · exact s.issueWakes_keeps _ _ _ _ _
  all_goals exact s.raise_keeps _ _ _ _

/-! ## Transmitters -/

theorem State.beginEntry_keeps {p : Port} (hidle : s.ports[p].flight = none) : s.Keeps x y (s.beginEntry p) := by
  unfold State.beginEntry
  split
  · rename_i e rest hqueue
    split
    · rename_i hfew
      exact .modPort p _ (.of_begun (f := { source := .entry, frame := e.frame }) hqueue hfew hidle rfl rfl rfl rfl rfl)
    · exact .refl s
  · exact .refl s

theorem State.beginResponse_keeps {r : Response} (hidle : s.ports[trunkPort].flight = none) :
    s.Keeps x y (s.beginResponse r) := by
  unfold State.beginResponse
  split
  · rename_i hfew
    have hslot : s.Keeps x y { s with response := some { r with attempts := r.attempts + 1 } } :=
      .calm rfl rfl rfl fun ⟨hrequests, hreports, _, hattempts⟩ =>
        ⟨hrequests, hreports, by rintro _ ⟨⟩; exact hfew, hattempts⟩
    exact hslot.trans (.modPort trunkPort _ (.of_spoken hidle (.inl rfl) rfl rfl rfl rfl))
  · exact .refl s

theorem State.beginReport_keeps {r : Report} {rest : List Report} (hreports : s.reports = r :: rest)
    (hidle : s.ports[trunkPort].flight = none) : s.Keeps x y (s.beginReport r rest) := by
  unfold State.beginReport
  split
  · rename_i hfew
    have hslot : s.Keeps x y { s with
        reports := { r with attempts := r.attempts + 1, lost := r.lost || s.reportsLost } :: rest, reportsLost := false } :=
      .calm rfl rfl rfl fun ⟨hrequests, hlength, hresponse, hattempts⟩ => by
        rw [hreports] at hlength hattempts
        refine ⟨hrequests, hlength, hresponse, fun q hq => ?_⟩
        rcases List.mem_cons.1 hq with rfl | hq
        · exact hfew
        · exact hattempts q (List.mem_cons_of_mem _ hq)
    exact hslot.trans (.modPort trunkPort _ (.of_spoken hidle (.inr rfl) rfl rfl rfl rfl))
  · exact .refl s

theorem State.beginTrunk_keeps (hidle : s.ports[trunkPort].flight = none) : s.Keeps x y s.beginTrunk := by
  unfold State.beginTrunk
  split
  · exact s.beginResponse_keeps hidle
  split
  · split
    · rename_i hreports
      exact s.beginReport_keeps hreports hidle
    · exact s.beginEntry_keeps hidle
  · exact .refl s

theorem State.beginBranch_keeps {b : Branch} (hidle : s.ports[portOf b].flight = none) : s.Keeps x y (s.beginBranch b) := by
  unfold State.beginBranch
  split
  · exact s.beginEntry_keeps hidle
  · exact .refl s

theorem State.discards_keeps (p : Port) (n : Nat → Nat) (h : n s.ports[p].discards ≤ 3)
    (htrunk : p = trunkPort → n s.ports[p].discards < 3) :
    s.Keeps x y (s.modPort p fun ps => { ps with discards := n ps.discards }) :=
  .softPort p _ (.of_items rfl rfl id (fun _ => id) (fun _ => h) fun e _ =>
    htrunk ((branchOf_eq_none_iff p).1 (Option.map_eq_none_iff.1 e)))

theorem State.delivered_keeps (p : Port) : s.Keeps x y (s.delivered p) := by
  have hzero := s.discards_keeps (x := x) (y := y) p (fun _ => 0) (Nat.zero_le 3) fun _ => by decide
  unfold State.delivered State.trunkDelivered
  dsimp only
  repeat' split
  · exact hzero.trans (.calm rfl rfl rfl id)
  · exact hzero
  · exact hzero

theorem State.trunkGivesUp_lane (q : Port) : s.trunkGivesUp.lane q = if q = trunkPort then
    ⟨none, { s.ports[trunkPort].purged (fun i => !i.isFrame || i.held) with discards := 0 }⟩ else s.lane q := by
  have hpurged : (s.trunkSilent.purge trunkPort fun i => !i.isFrame || i.held).ports[trunkPort] =
      s.ports[trunkPort].purged fun i => !i.isFrame || i.held := by
    rw [State.purge, State.modPort_get, if_pos rfl]
    rfl
  rw [State.trunkGivesUp, State.modPort_lane, hpurged]
  by_cases h : q = trunkPort
  · rw [if_pos h, if_pos h]
    rfl
  · rw [if_neg h, if_neg h, State.purge_lane, if_neg h]
    rfl

theorem State.trunkGivesUp_freeBuffers : s.trunkGivesUp.freeBuffers =
    s.freeBuffers + s.ports[trunkPort].freed fun i => !i.isFrame || i.held := rfl

theorem State.trunkGivesUp_slotsFit : s.trunkGivesUp.slotsFit ↔ s.slotsFit := by
  rw [State.trunkGivesUp, State.modPort_slotsFit, State.purge_slotsFit]
  rfl

/-- At its third discard TP's front end is emptied of unheld entries, whatever its count was set to. -/
theorem State.trunkGivesUp_keeps (n : Nat) :
    s.Keeps x y (s.modPort trunkPort fun ps => { ps with discards := n }).trunkGivesUp := by
  let counted : PortState := { s.ports[trunkPort] with discards := n }
  have hport : (s.modPort trunkPort fun ps => { ps with discards := n }).ports[trunkPort] = counted := by
    rw [State.modPort_get, if_pos rfl]
  refine .of_lane trunkPort (fun q hq => ?_) (State.trunkGivesUp_slotsFit _).2 ?_
  · rw [State.trunkGivesUp_lane, if_neg hq, State.modPort_lane, if_neg hq]
  · have hfree : (s.modPort trunkPort fun ps => { ps with discards := n }).trunkGivesUp.freeBuffers =
        s.freeBuffers + s.ports[trunkPort].freed fun i => !i.isFrame || i.held := by
      have h := congrArg (fun q : PortState => s.freeBuffers + q.freed fun i => !i.isFrame || i.held) hport
      exact (State.trunkGivesUp_freeBuffers _).trans h
    rw [State.trunkGivesUp_lane, if_pos rfl, hport, hfree, State.lane_trunkPort]
    exact .of_trunkPurged _ rfl rfl rfl (Nat.zero_le _)

theorem State.countDiscard_keeps (p : Port) : s.Keeps x none (s.countDiscard p) := by
  unfold State.countDiscard
  dsimp only
  split
  · rename_i hfew
    rw [State.modPort_get, if_pos rfl] at hfew
    exact s.discards_keeps p (fun n => min Config.attemptLimit (n + 1)) (min_le_left _ _) fun _ => hfew
  split
  · rename_i hp
    obtain rfl := (branchOf_eq_none_iff p).1 hp
    exact s.trunkGivesUp_keeps _
  · rename_i b hb
    obtain rfl := (branchOf_eq_some_iff p b).1 hb
    have hcount : s.Keeps x none (s.modPort (portOf b) fun ps =>
        { ps with discards := min Config.attemptLimit (ps.discards + 1) }) :=
      s.discards_keeps (portOf b) (fun n => min Config.attemptLimit (n + 1)) (min_le_left _ _) fun e => by
        have h := branchOf_portOf b
        rw [e] at h
        cases h
    split
    · exact hcount
    · exact hcount.trans (State.isolate_keeps _ b nofun)

/-- A port with its attempt over, before what its end does to the candidate. -/
def State.flightOver (s : State) (p : Port) : State := s.modPort p fun ps => { ps with flight := none }

theorem State.flightOver_port (p : Port) : (s.flightOver p).ports[p] = { s.ports[p] with flight := none } := by
  rw [State.flightOver, State.modPort_get, if_pos rfl]

theorem State.flightOver_lane (p q : Port) : (s.flightOver p).lane q =
    if q = p then ⟨(s.lane p).branch, { s.ports[p] with flight := none }⟩ else s.lane q := s.modPort_lane p q _

theorem State.headIdle_lane {p : Port} {e : Entry} {rest : List QueueItem} (he : s.ports[p].queue = .frame e :: rest)
    (q : Port) : (s.headIdle p).lane q = if q = p then
      ⟨(s.lane p).branch, { s.ports[p] with queue := .frame { e with sending := false } :: rest }⟩ else s.lane q := by
  rw [State.headIdle, State.modPort_lane, he]

/-- The entry in transmission leaves its queue as its attempt ends. -/
theorem State.left_keeps {p : Port} {f : Flight} {e : Entry} {rest : List QueueItem} (hf : s.ports[p].flight = some f)
    (hsource : f.source = .entry) (he : s.ports[p].queue = .frame e :: rest) :
    s.Keeps (some p) y ((s.flightOver p).dropAt p 0) := by
  refine .of_lane p (fun q hq => by rw [State.dropAt_lane, if_neg hq, s.flightOver_lane, if_neg hq]) id ?_
  have hlane : ((s.flightOver p).dropAt p 0).lane p =
      ⟨(s.lane p).branch, { s.ports[p] with flight := none, queue := s.ports[p].queue.eraseIdx 0 }⟩ := by
    rw [State.dropAt_lane, if_pos rfl, s.flightOver_lane, if_pos rfl, s.flightOver_port]
  rw [hlane]
  exact .of_left rfl he hf hsource (congrArg (List.eraseIdx · 0) he) rfl rfl rfl

theorem State.kept_keeps {p : Port} {f : Flight} {e : Entry} {rest : List QueueItem} (hf : s.ports[p].flight = some f)
    (hsource : f.source = .entry) (he : s.ports[p].queue = .frame e :: rest) (hfew : e.attempts < 3) :
    s.Keeps (some p) y ((s.flightOver p).headIdle p) := by
  have hqueue : (s.flightOver p).ports[p].queue = .frame e :: rest := by
    rw [s.flightOver_port]
    exact he
  have hlane := State.headIdle_lane (s.flightOver p) hqueue
  refine .of_lane p (fun q hq => by rw [hlane, if_neg hq, s.flightOver_lane, if_neg hq]) id ?_
  rw [hlane, if_pos rfl, s.flightOver_lane, if_pos rfl, s.flightOver_port]
  exact .of_kept rfl he hf hsource hfew rfl rfl rfl rfl

theorem State.endEntry_keeps {p : Port} {f : Flight} (o : AttemptOutcome) (hf : s.ports[p].flight = some f)
    (hsource : f.source = .entry) : s.Keeps none none ((s.flightOver p).endEntry p o) := by
  have hqueue : (s.flightOver p).ports[p].queue = s.ports[p].queue := by rw [s.flightOver_port]
  unfold State.endEntry
  rw [hqueue]
  split
  · rename_i e rest he
    have hleft : s.Keeps (some p) none ((s.flightOver p).dropAt p 0) := s.left_keeps hf hsource he
    split
    · exact (hleft.trans (State.delivered_keeps _ p)).settlePort
    split
    · exact (hleft.trans (State.countDiscard_keeps _ p)).settlePort
    rename_i hfew
    split
    · exact hleft.settlePort
    · exact (s.kept_keeps hf hsource he (Nat.lt_of_not_le hfew)).settlePort
  · rename_i hno
    exact .modPort p _ (.of_flightEnded hf (.inr (.inr ⟨hsource, hno⟩)) rfl rfl rfl rfl)

theorem State.endRemoved_keeps {p : Port} {f : Flight} (o : AttemptOutcome) (hf : s.ports[p].flight = some f)
    (hsource : f.source = .removed) : s.Keeps none none ((s.flightOver p).endRemoved p o) := by
  have hend : s.Keeps (some p) none { s.flightOver p with freeBuffers := (s.flightOver p).freeBuffers + 1 } := by
    have hlane : ∀ q, ({ s.flightOver p with freeBuffers := (s.flightOver p).freeBuffers + 1 } : State).lane q =
        (s.flightOver p).lane q := fun q => State.lane_of_eq _ rfl rfl q
    refine .of_lane p (fun q hq => by rw [hlane, s.flightOver_lane, if_neg hq]) id ?_
    rw [hlane, s.flightOver_lane, if_pos rfl]
    exact .of_orphanEnded rfl hf hsource rfl rfl rfl rfl
  unfold State.endRemoved
  dsimp only
  split
  · exact (hend.trans (State.delivered_keeps _ p)).settlePort
  · exact hend.settlePort

theorem State.endResponse_keeps (o : AttemptOutcome) : s.Keeps x none (s.endResponse o) := by
  have hfree : s.Keeps x none { s with response := none } :=
    .calm rfl rfl rfl fun ⟨hrequests, hreports, _, hattempts⟩ => ⟨hrequests, hreports, nofun, hattempts⟩
  unfold State.endResponse
  split
  · exact .refl s
  split
  · exact hfree.trans (State.delivered_keeps _ _)
  split
  · exact hfree.trans (State.countDiscard_keeps _ _)
  · exact .refl s

theorem State.endReport_keeps (o : AttemptOutcome) : s.Keeps x none (s.endReport o) := by
  unfold State.endReport
  split
  · exact .refl s
  rename_i r rest hreports
  have hshorter : ∀ k : Bool, s.Keeps x none { s with reports := rest, reportsLost := k } := fun k =>
    .calm rfl rfl rfl fun ⟨hrequests, hlength, hresponse, hattempts⟩ => by
      rw [hreports] at hlength hattempts
      exact ⟨hrequests, le_trans (Nat.le_succ _) hlength, hresponse, fun q hq => hattempts q (List.mem_cons_of_mem _ hq)⟩
  split
  · exact (hshorter s.reportsLost).trans (State.delivered_keeps _ _)
  split
  · exact (hshorter true).trans (State.countDiscard_keeps _ _)
  · exact .refl s

theorem State.endAttempt_keeps {p : Port} {f : Flight} (o : AttemptOutcome) (hf : s.ports[p].flight = some f) :
    s.Keeps none none (s.endAttempt p f o) := by
  unfold State.endAttempt
  dsimp only
  split
  · rename_i hsource
    exact s.endEntry_keeps o hf hsource
  · rename_i hsource
    exact s.endRemoved_keeps o hf hsource
  · rename_i hsource
    exact State.Keeps.trans (.modPort p _ (.of_flightEnded hf (.inl hsource) rfl rfl rfl rfl)) (State.endResponse_keeps _ o)
  · rename_i hsource
    exact State.Keeps.trans (.modPort p _ (.of_flightEnded hf (.inr (.inl hsource)) rfl rfl rfl rfl))
      (State.endReport_keeps _ o)

/-! ## Part modes and receptions -/

/-- Every branch roused, its marker withdrawn. -/
theorem State.rouseBranches_keeps : s.Keeps x y s.rouseBranches := by
  have hport : ∀ p : Port, s.rouseBranches.ports[p] =
      { s.ports[p] with queue := s.ports[p].queue.filter QueueItem.isFrame } := fun p => by
    rw [State.rouseBranches, State.mapBranches_ports, State.mapPorts_get]
  have hbranch : ∀ b : Branch, s.rouseBranches.branches[b] = s.branches[b].roused := fun b => by
    rw [State.rouseBranches, State.mapBranches_get, State.mapPorts_branches]
  refine .of_lanes (by simp only [State.rouseBranches, State.mapBranches_freeBuffers, State.mapPorts_freeBuffers])
    (fun h => ?_) (forall_port.2 ⟨?_, fun b => ?_⟩)
  · simp only [State.slotsFit, State.rouseBranches, State.mapBranches_requests, State.mapBranches_reports,
      State.mapBranches_response, State.mapPorts_requests, State.mapPorts_reports, State.mapPorts_response]
    exact h
  · rw [State.lane_trunkPort, State.lane_trunkPort, hport]
    exact .of_trunkRoused rfl rfl rfl rfl
  · rw [State.lane_portOf, State.lane_portOf, hport, hbranch]
    unfold BranchState.roused
    split
    · rename_i h
      exact .of_roused (.inr ⟨h, rfl⟩) rfl rfl (fun _ e => by rw [h] at e; cases e) rfl rfl rfl rfl
    · rename_i h
      exact .of_roused (.inl ⟨rfl, h, rfl, rfl⟩) rfl rfl (fun hs _ => BranchState.enter_seen (.inr rfl) hs) rfl rfl rfl rfl

theorem State.enterUnconfigured_keeps : s.Keeps x y s.enterUnconfigured := by
  have hmode : s.Keeps x y { s with mode := .unconfigured, deadline := Config.configurationDeadline } :=
    .calm rfl rfl rfl id
  exact hmode.trans ((State.rouseBranches_keeps _).trans (State.wakeGroup_keeps _ _))

theorem State.reviveReleasing_branches (b : Branch) : (s.reviveReleasing b).branches = s.branches := by
  simp only [State.reviveReleasing, State.mapDomains_branches]

theorem State.withdrawMarker_mode (b : Branch) : (s.withdrawMarker b).branches[b].mode =
    if s.branches[b].mode = .draining then .awake else s.branches[b].mode := by
  split
  · rename_i h
    have hlane := s.unmarked_lane b (portOf b)
    rw [if_pos rfl, State.lane_portOf] at hlane
    rw [s.withdrawMarker_eq h, State.reviveReleasing_branches, Option.some.inj (Lane.mk.inj hlane).1]
    rfl
  · rename_i h
    rw [s.withdrawMarker_eq_self h]

theorem State.parkBranch_keeps (b : Branch) : s.Keeps x y (s.parkBranch b) := by
  unfold State.parkBranch
  split
  · exact .refl s
  rename_i hisolated
  have hmode := s.withdrawMarker_mode b
  have hne : (s.withdrawMarker b).branches[b].mode ≠ .isolated := by
    rw [hmode]
    split
    · decide
    · exact hisolated
  have hno : (s.withdrawMarker b).branches[b].mode ≠ .draining := by
    rw [hmode]
    split
    · decide
    · assumption
  split
  · exact (s.withdrawMarker_keeps b).trans (State.enterBranch_keeps _ b _ (.inl rfl) hne hno)
  split
  · exact (s.withdrawMarker_keeps b).trans (State.enterBranch_keeps _ b _ (.inr rfl) hne hno)
  split
  · exact .refl s
  split
  · exact .refl s
  · exact s.returnToRest_keeps b hisolated

theorem State.parkStarted_keeps : s.Keeps x y s.parkStarted := by
  have haccount : s.Keeps x y { s with account := s.account.restarted s.budget, parkClock := 0 } := .calm rfl rfl rfl id
  have hmode : ∀ u : State, u.Keeps x y { u with mode := .parked } := fun u => .calm rfl rfl rfl id
  exact (haccount.trans (State.recompute_keeps _)).trans ((hmode _).trans (State.Keeps.mapSchedule _))

theorem State.parkLoaded_keeps : s.Keeps x y s.parkLoaded := by
  rw [State.parkLoaded]
  exact s.parkStarted_keeps.trans (State.Keeps.mapDomains _)

theorem State.parkNow_keeps : s.Keeps x y s.parkNow := by
  rw [State.parkNow_eq]
  exact s.parkLoaded_keeps.trans (.foldl (fun t b => t.parkBranch_keeps b) allBranches _)

theorem State.departNow_keeps : s.Keeps x y s.departNow := by
  have hmode : s.Keeps x y { s with mode := .drive } := .calm rfl rfl rfl id
  have hcounts : ∀ u : State, u.Keeps x y (u.mapBranches fun _ bs => { bs with chatterCount := 0 }) := fun u =>
    .mapBranches _ fun b => ⟨rfl, rfl, rfl, rfl, rfl, fun _ => id⟩
  exact (hmode.trans (State.rouseBranches_keeps _)).trans
    ((hcounts _).trans ((State.Keeps.mapDomains _).trans (State.wakeGroup_keeps _ _)))

theorem State.heardAt_keeps (p : Port) : s.Keeps x y (s.heardAt p) := by
  unfold State.heardAt
  split
  · exact .calm rfl rfl rfl id
  · exact .refl s

theorem State.receives_lane {p : Port} (h : s.receives p = true) : ¬ (s.lane p).away := by
  rintro ⟨bs, hbs, hmode⟩
  obtain ⟨b, hb, rfl⟩ := Option.map_eq_some_iff.1 hbs
  rw [State.receives, hb] at h
  change (s.branches[b].mode != .off && s.branches[b].mode != .isolated) = true at h
  rcases hmode with e | e <;> rw [e] at h <;> cases h

theorem State.land_keeps {p : Port} (f : Frame) (hreceives : s.receives p = true)
    (hroom : s.ports[p].landing.length < 2) : s.Keeps x y (s.land p f) := by
  have hlanded : s.Keeps x y (s.modPort p fun ps => { ps with landing := ps.landing ++ [f] }) :=
    .softPort p _ (.of_items rfl rfl
      (fun _ => by
        show (s.ports[p].landing ++ [f]).length ≤ 2
        rw [List.length_append]
        exact hroom)
      (fun e => absurd e (s.receives_lane hreceives)) id fun _ => id)
  have hheard := hlanded.trans (State.heardAt_keeps _ p)
  unfold State.land
  dsimp only
  split <;> split
  · exact hheard.trans (State.enterUnconfigured_keeps _)
  · exact (hheard.trans (State.receptionNotice_keeps _ _)).trans (State.enterUnconfigured_keeps _)
  · exact hheard
  · exact hheard.trans (State.receptionNotice_keeps _ _)

theorem State.chatterAt_keeps (p : Port) : s.Keeps x none (s.chatterAt p) := by
  unfold State.chatterAt
  split
  · exact .refl s
  · exact s.chatter_keeps _

theorem State.reportOverrun_keeps (p : Port) : s.Keeps x y (s.reportOverrun p) := by
  unfold State.reportOverrun
  split
  · exact .refl s
  · exact State.Keeps.trans (.softPort p _ (.of_items rfl rfl id (fun _ => id) id fun _ => id))
      (State.raise_keeps _ _ _ _ _)

theorem State.take_keeps {p : Port} {f : Frame} {rest : List Frame} (h : s.ports[p].landing = f :: rest) :
    s.Keeps x y (s.take p f rest) := by
  refine State.Keeps.trans (t := s.modPort p fun ps => { ps with landing := rest, overrun := ps.overrun && !rest.isEmpty })
    (.softPort p _ (.of_items rfl rfl (fun hle => ?_) (fun _ e => ?_) id fun _ => id)) (.calm rfl rfl rfl id)
  · rw [h] at hle
    exact le_trans (Nat.le_succ _) hle
  · rw [h] at e
    cases e

/-! ## The time base -/

theorem tickDown_isSome (t : Option Nat) : (tickDown t).isSome = t.isSome := by cases t <;> rfl

theorem QueueItem.aged_eq : QueueItem.aged = QueueItem.withDeadline fun e => e.deadline - 1 :=
  funext fun i => by cases i <;> rfl

theorem State.secondStep_keeps : s.Keeps x y s.secondStep := by
  have hclocks : s.Keeps x y { s with
      parkClock := min Config.max32 (s.parkClock + 1)
      deadline := if s.mode = PartMode.unconfigured then s.deadline - 1 else s.deadline } := .calm rfl rfl rfl id
  have hbranches : ∀ u : State, u.Keeps x y (u.mapBranches fun _ bs =>
      { bs with isolationTimer := tickDown bs.isolationTimer, windowTimer := tickDown bs.windowTimer }) := fun u =>
    .mapBranches _ fun b => ⟨rfl, rfl, tickDown_isSome _, rfl, rfl, fun _ => id⟩
  have hports : ∀ u : State, u.Keeps x y (u.mapPorts fun _ ps => { ps with queue := ps.queue.map QueueItem.aged }) :=
    fun u => by
      rw [QueueItem.aged_eq]
      exact .mapDeadlines _
  unfold State.secondStep
  dsimp only
  split
  · exact (((hclocks.trans (State.Keeps.mapRules _)).trans (hbranches _)).trans (hports _)).trans (State.Keeps.mapSchedule _)
  · exact ((hclocks.trans (State.Keeps.mapRules _)).trans (hbranches _)).trans (hports _)

theorem State.msStep_keeps : s.Keeps x y s.msStep :=
  .calm (by simp only [State.msStep, State.mapDomains_ports]) (by simp only [State.msStep, State.mapDomains_branches])
    (by simp only [State.msStep, State.mapDomains_freeBuffers]) fun h => by
      simp only [State.slotsFit, State.msStep, State.mapDomains_requests, State.mapDomains_reports,
        State.mapDomains_response]
      exact h

theorem State.tenMsStep_keeps : s.Keeps x y s.tenMsStep :=
  .mapBranches _ fun _ => ⟨rfl, rfl, rfl, tickDown_isSome _, rfl, fun _ => id⟩

theorem State.hundredMsStep_keeps : s.Keeps x y s.hundredMsStep := by
  have hsilence : s.Keeps x y { s with silence := tickDown s.silence } := .calm rfl rfl rfl id
  unfold State.hundredMsStep
  dsimp only
  split
  · exact hsilence.trans (State.Keeps.mapDomains _)
  · exact hsilence

theorem State.advance_keepsLanes : s.Keeps x y s.advance :=
  State.advance_keeps (P := fun t => s.Keeps x y t) (fun _ _ h => h.trans (.calm rfl rfl rfl id))
    (fun u h => h.trans u.msStep_keeps) (fun u h => h.trans u.tenMsStep_keeps) (fun u h => h.trans u.hundredMsStep_keeps)
    (fun u h => h.trans u.secondStep_keeps) (.refl s)

/-! ## Accepted requests -/

theorem State.clearWakers_keeps (r : RuleIx) : s.Keeps x y (s.clearWakers r) := .mapDomains _

theorem Acted.keepsLanes {c : Instr} {s t : State} (h : Acted s c t) : s.Keeps none none t := by
  cases h with
  | same => exact .refl s
  | overrunRead => exact .calm rfl rfl rfl id
  | flagsCleared => exact .calm rfl rfl rfl id
  | masksSet => exact .calm rfl rfl rfl id
  | resetAwaited => exact .calm rfl rfl rfl id
  | ruleWritten r _ x _ =>
    exact ((State.Keeps.modRule r _).trans (State.clearWakers_keeps _ r)).trans (State.dropConfirm_keeps _ r)
  | enableSet r on =>
    unfold State.setEnable
    dsimp only
    split
    · exact .modRule r _
    · exact ((State.Keeps.modRule r _).trans (State.clearWakers_keeps _ r)).trans (State.dropConfirm_keeps _ r)
  | quarantineReleased r => exact .modRule r _
  | monitorWritten => exact .calm rfl rfl rfl id
  | domainWritten d => exact .modDomain d _
  | forcedOn d => exact s.wake_keeps d _ _ _
  | forcedOff d => exact s.switchOff_keeps d
  | faultCleared d _ => exact (State.Keeps.modDomain d _).trans (State.followDomain_keeps _ d)
  | limitSet k _ _ _ =>
    have hlimit : s.Keeps none none { s with inrushLimit := k } := .calm rfl rfl rfl id
    exact hlimit.trans (State.runArbiter_keeps _)
  | trunkWritten a x t hx ht =>
    have hport : s.Keeps none none (s.modPort trunkPort fun ps => { ps with params := x }) :=
      .softPort trunkPort _ (.of_items rfl rfl id (fun _ => id) id fun _ => id)
    exact hport.trans (.calm rfl rfl rfl id)
  | branchWritten b _ _ y _ _ =>
    exact State.Keeps.trans (.softPort (portOf b) _ (.of_items rfl rfl id (fun _ => id) id fun _ => id))
      (.softBranch b _ ⟨rfl, rfl, rfl, rfl, rfl, fun _ => id⟩)
  | portReleased b hisolated => exact s.leaveIsolated_keeps hisolated
  | budgetWritten _ x _ =>
    have hbudget : s.Keeps none none { s with budget := x } := .calm rfl rfl rfl id
    exact hbudget.trans (State.recompute_keeps _)
  | entryWritten i => exact .calm rfl rfl rfl id
  | parked => exact s.parkNow_keeps
  | departed => exact s.departNow_keeps

theorem State.respond_keeps (code tag : Byte) (r : Result) (data : List Byte) :
    s.Keeps x y (s.respond code tag r data) :=
  .calm rfl rfl rfl fun ⟨hrequests, hreports, _, hattempts⟩ =>
    ⟨le_trans (by show s.requests.tail.length ≤ s.requests.length; simp) hrequests, hreports,
      by rintro _ ⟨⟩; exact Nat.zero_le 3, hattempts⟩

/-! ## Commands -/

/-- A command that begins no other part mode at once keeps every law of lanes and pool. -/
theorem Effect.keepsLanes {c : Instr} {s t : State} (h : Effect s c t)
    (hreset : t ≠ s.enterFallback ∧ ∀ straps, t ≠ s.fullReset straps ∧ t ≠ s.warmReset straps) : s.Keeps none none t := by
  obtain ⟨hfallback, hresets⟩ := hreset
  cases h with
  | same => exact .refl s
  | requestDiscarded =>
    exact .calm rfl rfl rfl fun ⟨hrequests, hrest⟩ =>
      ⟨le_trans (by show s.requests.tail.length ≤ s.requests.length; simp) hrequests, hrest⟩
  | answered u code tag r data h => exact h.keepsLanes.trans (State.respond_keeps _ _ _ _ _)
  | fullReset straps => exact absurd rfl (hresets straps).1
  | resetByInput straps => exact absurd rfl (hresets straps).2
  | resetByRequest straps => exact absurd rfl (hresets straps).2
  | babbled p f => exact (s.heardAt_keeps p).trans (State.chatterAt_keeps _ p)
  | landed p f hreceives hroom => exact s.land_keeps f hreceives hroom
  | overran p f => exact ((s.heardAt_keeps p).trans (State.reportOverrun_keeps _ p)).trans (State.chatterAt_keeps _ p)
  | took p f rest hmode hlanding => exact s.take_keeps hlanding
  | dispatched c hc =>
    have hfree : s.Keeps none none { s with classification := none } := .calm rfl rfl rfl id
    exact hfree.trans (State.dispatch_keeps _ c)
  | beganTrunk hidle => exact s.beginTrunk_keeps hidle
  | beganBranch b hidle => exact s.beginBranch_keeps hidle
  | attemptEnded p f o hf => exact s.endAttempt_keeps o hf
  | trunkSilenced => exact .calm rfl rfl rfl id
  | fellBack hmode => exact absurd rfl hfallback
  | pinSet d level => exact .calm rfl rfl rfl id
  | faulted d level hpowered =>
    have hpin : s.Keeps none none (s.setFaultInput d level) := .calm rfl rfl rfl id
    exact hpin.trans (State.enterFault_keeps _ d)
  | settled d hstate =>
    exact ((State.Keeps.modDomain d _).trans (State.followDomain_keeps _ d)).trans (State.runArbiter_keeps _)
  | lingered d hmode hstate hcount => exact (s.judge_keeps d).trans (State.lingerOut_keeps _ d)
  | drainLimited b hmode =>
    rw [← State.settlePort_portOf]
    exact (State.Keeps.modBranch b _ (.of_limited rfl hmode hmode rfl rfl rfl rfl rfl)).settlePort
  | entryExpired p place e he hidle => exact (s.dropAt_keeps he hidle).settlePort
  | accountReloaded => exact .calm rfl rfl rfl id
  | accounted =>
    have hreload : s.Keeps none none s.reloadAccounting := .calm rfl rfl rfl id
    exact hreload.trans (State.accountNow_keeps _)
  | windowOpened b hdue => exact .softBranch b _ ⟨rfl, rfl, rfl, rfl, rfl, fun _ => id⟩
  | isolationEnded b hisolated => exact s.leaveIsolated_keeps hisolated
  | suspicionEnded r => exact .modRule r _
  | quarantineEnded r => exact .modRule r _
  | scheduleFired i hmode => exact (s.scheduledWake_keeps i).trans (.calm rfl rfl rfl id)
  | secondPassed => exact s.secondStep_keeps

end

end Sys2Proof.Machine
end

section
/-! The entry to Fallback and the resets, and with them the laws of the pool (O5), of markers and rest (O6) and of
sizes (O7). -/

namespace Sys2Proof.Machine

/-! ## The entry to Fallback -/

section
variable (s : State) {x y : Option Port}

theorem PoolLaw.purge {s : State} (h : PoolLaw s) (p : Port) (keep : QueueItem → Bool) : PoolLaw (s.purge p keep) := by
  rw [poolLaw_iff] at h ⊢
  obtain ⟨htotal, hbelow, hcoherent⟩ := h
  have hports : ∀ q : Port, (s.purge p keep).ports[q] = if q = p then s.ports[p].purged keep else s.ports[q] := fun q => by
    rw [State.purge, State.modPort_get]
    rfl
  refine ⟨(s.purge_buffers p keep (hcoherent p)).trans htotal, le_trans (List.sum_le_sum fun q _ => ?_) hbelow,
    fun q => ?_⟩
  · rw [hports]
    split
    · rename_i e
      rw [e]
      exact PortState.purged_belowA_le keep
    · exact le_rfl
  · show (s.purge p keep).ports[q].transmissionCoherent
    rw [hports]
    split
    · exact PortState.purged_coherent (hcoherent p) keep
    · exact hcoherent q

theorem State.flushQueues_poolLaw (h : PoolLaw s) : PoolLaw s.flushQueues := by
  have purges : ∀ (l : List Port) (t : State), PoolLaw t → PoolLaw (l.foldl (fun t p => t.purge p fun _ => false) t) := by
    intro l
    induction l with
    | nil => exact fun _ => id
    | cons p l ih => exact fun t ht => ih _ (ht.purge p _)
  exact purges allPorts s h

theorem State.flushQueues_port (p : Port) : s.flushQueues.ports[p] = s.ports[p].purged fun _ => false := by
  have purges : ∀ (l : List Port) (t : State), l.Nodup → (l.foldl (fun t p => t.purge p fun _ => false) t).ports[p] =
      if p ∈ l then t.ports[p].purged fun _ => false else t.ports[p] := by
    intro l
    induction l with
    | nil => exact fun _ _ => rfl
    | cons q l ih =>
      intro t hl
      obtain ⟨hq, hl⟩ := List.nodup_cons.1 hl
      have hport : (t.purge q fun _ => false).ports[p] =
          if p = q then t.ports[q].purged fun _ => false else t.ports[p] := by
        rw [State.purge, State.modPort_get]
        rfl
      rw [List.foldl_cons, ih _ hl, hport]
      by_cases hp : p = q
      · subst hp
        rw [if_neg hq, if_pos rfl, if_pos List.mem_cons_self]
      · simp only [List.mem_cons, hp, false_or, if_false]
  exact (purges allPorts s allPorts_nodup).trans (if_pos (mem_allPorts p))

theorem State.flushQueues_calm : s.flushQueues.branches = s.branches ∧ s.flushQueues.requests = s.requests
    ∧ s.flushQueues.reports = s.reports ∧ s.flushQueues.response = s.response := by
  have purges : ∀ (l : List Port) (t : State), (l.foldl (fun t p => t.purge p fun _ => false) t).branches = t.branches
      ∧ (l.foldl (fun t p => t.purge p fun _ => false) t).requests = t.requests
      ∧ (l.foldl (fun t p => t.purge p fun _ => false) t).reports = t.reports
      ∧ (l.foldl (fun t p => t.purge p fun _ => false) t).response = t.response := by
    intro l
    induction l with
    | nil => exact fun _ => ⟨rfl, rfl, rfl, rfl⟩
    | cons p l ih => exact fun t => ih (t.purge p fun _ => false)
  exact purges allPorts s

/-- The state after the entry to Fallback, before its report, with the queues and branches that the cut has left. -/
def State.flushed (s : State) : State := (s.mapBranches fun _ bs => bs.fallen).flushQueues.mapPorts PortState.fallen

theorem State.enterFallback_eq : s.enterFallback =
    ({ s with mode := .fallback, deadline := 0, requests := [], classification := none }.cut fun _ => true).flushed.raise
      .fallbackEntered none 0 0 := rfl

theorem State.flushed_port (p : Port) : s.flushed.ports[p] = (s.ports[p].purged fun _ => false).fallen p := by
  rw [State.flushed, State.mapPorts_get, State.flushQueues_port, State.mapBranches_ports]

theorem State.flushed_branch (b : Branch) : s.flushed.branches[b] = s.branches[b].fallen := by
  rw [State.flushed, State.mapPorts_branches, (State.flushQueues_calm _).1, State.mapBranches_get]

theorem State.flushed_slotsFit (h : s.slotsFit) : s.flushed.slotsFit := by
  obtain ⟨-, hrequests, hreports, hresponse⟩ := State.flushQueues_calm (s.mapBranches fun _ bs => bs.fallen)
  simp only [State.slotsFit, State.flushed, State.mapPorts_requests, State.mapPorts_reports, State.mapPorts_response,
    hrequests, hreports, hresponse, State.mapBranches_requests, State.mapBranches_reports, State.mapBranches_response]
  exact h

theorem State.flushed_poolLaw (h : PoolLaw s) : PoolLaw s.flushed := by
  have hbranches : PoolLaw (s.mapBranches fun _ bs => bs.fallen) := by
    rw [poolLaw_iff] at h ⊢
    simpa only [State.buffers, State.portSum, State.lane, State.mapBranches_ports, State.mapBranches_freeBuffers] using h
  have hflushed := State.flushQueues_poolLaw _ hbranches
  rw [poolLaw_iff] at hflushed ⊢
  have hport : ∀ (u : State) (p : Port), (u.mapPorts PortState.fallen).ports[p] = u.ports[p].fallen p := fun u p =>
    u.mapPorts_get _ p
  have hsum : ∀ (g : PortState → Nat), (∀ p ps, g (PortState.fallen p ps) = g ps) → ∀ u : State,
      (u.mapPorts PortState.fallen).portSum g = u.portSum g := fun g hg u =>
    congrArg List.sum (List.map_congr_left fun p _ => (congrArg g (hport u p)).trans (hg p _))
  obtain ⟨htotal, hbelow, hcoherent⟩ := hflushed
  refine ⟨?_, (hsum _ (fun _ _ => rfl) _).trans_le hbelow, fun p => ?_⟩
  · rw [State.flushed, State.buffers, hsum _ (fun _ _ => rfl), State.mapPorts_freeBuffers]
    exact htotal
  · show s.flushed.ports[p].transmissionCoherent
    rw [State.flushed, hport]
    exact hcoherent p

theorem PortState.purged_all (ps : PortState) : (ps.purged fun _ => false).queue = [] :=
  List.filter_eq_nil_iff.2 fun _ _ => Bool.false_ne_true

theorem State.flushed_keeps : s.Keeps x y s.flushed := by
  have hbranchLane : ∀ b, s.flushed.lane (portOf b) =
      ⟨some s.branches[b].fallen, (s.ports[portOf b].purged fun _ => false).fallen (portOf b)⟩ := fun b => by
    rw [State.lane_portOf, State.flushed_branch, State.flushed_port]
  have htrunkLane : s.flushed.lane trunkPort =
      ⟨none, (s.ports[trunkPort].purged fun _ => false).fallen trunkPort⟩ := by
    rw [State.lane_trunkPort, State.flushed_port]
  have hnil : ∀ (p q : Port), ((s.ports[p].purged fun _ => false).fallen q).queue = [] := fun p q =>
    PortState.purged_all _
  refine ⟨fun h => ?_, fun _ _ p _ => ?_, fun _ => ?_, fun _ _ p _ => ?_, s.flushed_poolLaw, s.flushed_slotsFit,
    fun h => ?_, fun _ => ?_⟩
  · refine forall_port.2 ⟨?_, fun b => ?_⟩
    · rw [htrunkLane]
      show QueueItem.marker ∉ ((s.ports[trunkPort].purged fun _ => false).fallen trunkPort).queue
      rw [hnil]
      exact List.not_mem_nil
    · have hb := h (portOf b)
      rw [State.lane_portOf] at hb
      rw [hbranchLane]
      refine ⟨PortState.purged_sources hb.1, ?_⟩
      refine (if_neg (by show ¬ BranchMode.listen = _; decide)).mpr ⟨?_, rfl, rfl⟩
      show QueueItem.marker ∉ ((s.ports[portOf b].purged fun _ => false).fallen (portOf b)).queue
      rw [hnil]
      exact List.not_mem_nil
  · revert p
    refine fun p _ => (forall_port (P := fun p => (s.flushed.lane p).tight)).2 ⟨?_, fun b => ?_⟩ p
    · rw [htrunkLane]
      exact nofun
    · rw [hbranchLane]
      rintro _ ⟨⟩ e
      cases e
  · refine forall_port.2 ⟨?_, fun b => ?_⟩
    · rw [htrunkLane]
      exact nofun
    · rw [hbranchLane]
      rintro _ ⟨⟩
      refine ⟨fun _ i hi => ?_, nofun, nofun⟩
      change i ∈ ((s.ports[portOf b].purged fun _ => false).fallen (portOf b)).queue at hi
      rw [hnil] at hi
      cases hi
  · revert p
    refine fun p _ => (forall_port (P := fun p => (s.flushed.lane p).sealed)).2 ⟨?_, fun b => ?_⟩ p
    · rw [htrunkLane]
      exact nofun
    · rw [hbranchLane]
      rintro _ ⟨⟩
      exact ⟨rfl, iff_of_true rfl nofun⟩
  · have hitems : ∀ (p q : Port), ∀ i ∈ ((s.ports[p].purged fun _ => false).fallen q).queue, i.attemptsBounded :=
      fun p q i hi => by
        rw [hnil] at hi
        cases hi
    refine forall_port.2 ⟨?_, fun b => ?_⟩
    · have ht := h trunkPort
      rw [State.lane_trunkPort] at ht
      obtain ⟨-, hdiscards, -, htrunk⟩ := ht
      rw [htrunkLane]
      exact ⟨Nat.zero_le 2, hdiscards, hitems _ _, fun _ => htrunk rfl⟩
    · have hne : portOf b ≠ trunkPort := fun e => by
        have h := branchOf_portOf b
        rw [e] at h
        cases h
      rw [hbranchLane]
      refine ⟨Nat.zero_le 2, ?_, hitems _ _, nofun⟩
      show (if portOf b = trunkPort then s.ports[portOf b].discards else 0) ≤ 3
      rw [if_neg hne]
      exact Nat.zero_le 3
  · refine forall_port.2 ⟨?_, fun b => ?_⟩
    · rw [htrunkLane]
      exact nofun
    · rw [hbranchLane]
      rintro _ ⟨⟩ e
      rcases e with e | e | e <;> cases e

theorem State.enterFallback_keeps : s.Keeps x y s.enterFallback := by
  have hmode : s.Keeps x y { s with mode := .fallback, deadline := 0, requests := [], classification := none } :=
    .calm rfl rfl rfl fun ⟨_, hrest⟩ => ⟨Nat.zero_le 4, hrest⟩
  rw [State.enterFallback_eq]
  exact ((hmode.trans (State.cut_keeps _ _)).trans (State.flushed_keeps _)).trans (State.raise_keeps _ _ _ _ _)

/-! ## Resets -/

/-- The laws of markers, rest, pool and sizes. -/
structure State.Lawful (s : State) : Prop where
  marker : MarkerLaw s
  rest : RestLaw s
  pool : PoolLaw s
  capacity : CapacityLaw s

theorem State.Keeps.lawful {t : State} (h : s.Keeps none none t) (hs : s.Lawful) : t.Lawful :=
  ⟨h.markerLaw hs.marker, h.restLaw hs.rest, h.pool hs.pool, h.capacityLaw hs.capacity⟩

/-- Empty front ends, branches that are Off or Awake, and a full pool meet these laws. -/
theorem State.lawful_of_empty (hports : ∀ p : Port, s.ports[p].queue = [] ∧ s.ports[p].flight = none
      ∧ s.ports[p].landing = [] ∧ s.ports[p].discards = 0)
    (hbranches : ∀ b : Branch, (s.branches[b].mode = .off ∨ s.branches[b].mode = .awake)
      ∧ s.branches[b].drainTimer = none ∧ s.branches[b].closing = false ∧ s.branches[b].isolationTimer = none
      ∧ s.branches[b].cause = .none)
    (hfree : s.freeBuffers = 96) (hrequests : s.requests = []) (hreports : s.reports = []) (hresponse : s.response = none) :
    s.Lawful := by
  refine ⟨⟨?_, fun b => ?_⟩, fun b => ?_, ?_, ?_⟩
  · rw [(hports trunkPort).1]
    exact List.not_mem_nil
  · obtain ⟨hqueue, hflight, -, -⟩ := hports (portOf b)
    obtain ⟨hmode, hdrain, hclosing, -, -⟩ := hbranches b
    have hno : s.branches[b].mode ≠ .draining := by rcases hmode with e | e <;> rw [e] <;> decide
    rw [State.drainCoherent, hflight, hqueue, if_neg hno]
    exact ⟨rfl, List.not_mem_nil, hdrain, hclosing⟩
  · obtain ⟨hqueue, -, hlanding, -⟩ := hports (portOf b)
    obtain ⟨hmode, -, -, htimer, hcause⟩ := hbranches b
    have hno : s.branches[b].mode ≠ .isolated := by rcases hmode with e | e <;> rw [e] <;> decide
    refine ⟨fun _ i hi => ?_, fun _ => hlanding, fun _ => ⟨hqueue, hlanding⟩, ?_, iff_of_true hcause hno⟩
    · rw [hqueue] at hi
      cases hi
    · rw [htimer, beq_eq_false_iff_ne.2 hno]
      rfl
  · have hzero : ∀ g : PortState → Nat, (∀ p : Port, g s.ports[p] = 0) → s.portSum g = 0 := fun g hg =>
      List.sum_eq_zero fun n hn => by
        obtain ⟨p, -, rfl⟩ := List.mem_map.1 hn
        exact hg p
    rw [poolLaw_iff, State.buffers, hfree, hzero PortState.load fun p => by
      obtain ⟨hqueue, hflight, -, -⟩ := hports p
      rw [PortState.load, hqueue, hflight]
      rfl]
    refine ⟨rfl, ?_, fun p => ?_⟩
    · rw [hzero PortState.belowA fun p => by rw [PortState.belowA, (hports p).1]; rfl]
      exact Nat.zero_le 88
    · obtain ⟨hqueue, hflight, -, -⟩ := hports p
      exact transmissionCoherent_of_idle (q := []) nofun (by show s.ports[p].flight.any _ = _; rw [hflight]; rfl) hqueue
  · rw [CapacityLaw, hrequests, hreports, hresponse, (hports trunkPort).2.2.2]
    refine ⟨Nat.zero_le 4, Nat.zero_le 16, Nat.zero_lt_succ 2, fun p => ?_, nofun, nofun⟩
    obtain ⟨hqueue, -, hlanding, hdiscards⟩ := hports p
    rw [hqueue, hlanding, hdiscards]
    exact ⟨Nat.zero_le 2, Nat.zero_le 3, nofun⟩

/-- A full reset before its entry to Unconfigured. -/
def State.coldStart (s : State) (straps : Fin 4) : State :=
  { State.cold with strapPins := straps, strap := straps, faultInputs := s.faultInputs, pending := s.pending }

theorem State.fullReset_eq (straps : Fin 4) : s.fullReset straps = (s.coldStart straps).enterUnconfigured := rfl

theorem State.coldStart_port (straps : Fin 4) (p : Port) : (s.coldStart straps).ports[p] = PortState.reset p := by
  simp [State.coldStart, State.cold]

theorem State.coldStart_branch (straps : Fin 4) (b : Branch) : (s.coldStart straps).branches[b] = BranchState.cold := by
  simp [State.coldStart, State.cold]

theorem State.coldStart_domain (straps : Fin 4) (d : DomainIx) : (s.coldStart straps).domains[d] = Domain.cold := by
  simp [State.coldStart, State.cold]

theorem State.fullReset_lawful (straps : Fin 4) : (s.fullReset straps).Lawful := by
  rw [State.fullReset_eq]
  refine State.Keeps.lawful _ (State.enterUnconfigured_keeps _) (State.lawful_of_empty _ (fun p => ?_) (fun b => ?_)
    rfl rfl rfl rfl)
  · rw [State.coldStart_port]
    exact ⟨rfl, rfl, rfl, rfl⟩
  · rw [State.coldStart_branch]
    exact ⟨.inl rfl, rfl, rfl, rfl, rfl⟩

/-- A warm reset before the account is recomputed and the arbiter grants. -/
def State.warmStart (s : State) (straps : Fin 4) : State :=
  let s1 : State :=
    { s with
      mode := .unconfigured, strapPins := straps, strap := straps, deadline := Config.configurationDeadline
      requests := [], requestOverrun := false, response := none, warmResetPending := false, reports := []
      reportsLost := false, flags := 0, trunk := .quiet, silence := none, pointer := 6, classification := none
      freeBuffers := Config.poolSize, lastGranted := 0
      account := { s.account with carry := 0, timer := Config.accountingInterval } }
  ((((s1.mapPorts fun _ ps => ps.warmed).mapBranches fun _ bs => bs.warmed).mapRules fun _ r => r.cleared).mapSchedule
    fun _ e => { e with countdown := e.period }).mapDomains fun _ d => d.warmed

theorem State.warmReset_eq (straps : Fin 4) :
    s.warmReset straps = (s.warmStart straps).recomputeSilently.runArbiter := rfl

theorem State.warmStart_port (straps : Fin 4) (p : Port) : (s.warmStart straps).ports[p] = s.ports[p].warmed := by
  rw [State.warmStart, State.mapDomains_ports, State.mapSchedule_ports, State.mapRules_ports, State.mapBranches_ports,
    State.mapPorts_get]

theorem State.warmStart_branch (straps : Fin 4) (b : Branch) :
    (s.warmStart straps).branches[b] = s.branches[b].warmed := by
  rw [State.warmStart, State.mapDomains_branches, State.mapSchedule_branches, State.mapRules_branches,
    State.mapBranches_get, State.mapPorts_branches]

theorem State.warmReset_lawful (straps : Fin 4) : (s.warmReset straps).Lawful := by
  have hslots : (s.warmStart straps).freeBuffers = 96 ∧ (s.warmStart straps).requests = []
      ∧ (s.warmStart straps).reports = [] ∧ (s.warmStart straps).response = none := by
    simp [State.warmStart, Config.poolSize]
  obtain ⟨hfree, hrequests, hreports, hresponse⟩ := hslots
  have hsilent : (s.warmStart straps).Keeps none none (s.warmStart straps).recomputeSilently := .calm rfl rfl rfl id
  rw [State.warmReset_eq]
  refine State.Keeps.lawful _ (hsilent.trans (State.runArbiter_keeps _)) (State.lawful_of_empty _ (fun p => ?_)
    (fun b => ?_) hfree hrequests hreports hresponse)
  · rw [State.warmStart_port]
    exact ⟨rfl, rfl, rfl, rfl⟩
  · rw [State.warmStart_branch]
    exact ⟨.inr rfl, rfl, rfl, rfl, rfl⟩

/-! ## Marks at resets -/

theorem State.fullReset_seen (straps : Fin 4) : ∀ p, ((s.fullReset straps).lane p).seen := by
  have hcold : ∀ p, ((s.coldStart straps).lane p).seen := forall_port.2 ⟨nofun, fun b => by
    rw [State.lane_portOf, State.coldStart_branch]
    rintro _ ⟨⟩ e
    rcases e with e | e | e <;> cases e⟩
  rw [State.fullReset_eq]
  exact (State.enterUnconfigured_keeps (x := none) (y := none) _).seen hcold

theorem State.warmReset_seen (straps : Fin 4) (h : ∀ p, (s.lane p).seen) :
    ∀ p, ((s.warmReset straps).lane p).seen := by
  have hwarm : ∀ p, ((s.warmStart straps).recomputeSilently.lane p).seen := forall_port.2 ⟨nofun, fun b => by
    have hb := h (portOf b)
    rw [State.lane_portOf] at hb
    have hbranch : (s.warmStart straps).recomputeSilently.branches[b] = s.branches[b].warmed := s.warmStart_branch straps b
    rw [State.lane_portOf, hbranch]
    rintro _ ⟨⟩ -
    exact BranchState.enter_seen (bs := s.branches[b].released) (.inr rfl) (hb s.branches[b] rfl)⟩
  rw [State.warmReset_eq]
  exact (State.runArbiter_keeps (x := none) (y := none) _).seen hwarm

/-! ## The settled laws -/

/-- Every command keeps every law of lanes and pool, or is a reset, which meets them. -/
theorem Effect.keeps_or_resets {c : Instr} {s t : State} (h : Effect s c t) :
    s.Keeps none none t ∨ t.Lawful ∧ ((∀ p, (s.lane p).seen) → ∀ p, (t.lane p).seen) := by
  by_cases hfallback : t = s.enterFallback
  · exact .inl (hfallback ▸ s.enterFallback_keeps)
  by_cases hfull : ∃ straps, t = s.fullReset straps
  · obtain ⟨straps, e⟩ := hfull
    rw [e]
    exact .inr ⟨s.fullReset_lawful straps, fun _ => s.fullReset_seen straps⟩
  by_cases hwarm : ∃ straps, t = s.warmReset straps
  · obtain ⟨straps, e⟩ := hwarm
    rw [e]
    exact .inr ⟨s.warmReset_lawful straps, s.warmReset_seen straps⟩
  exact .inl (h.keepsLanes ⟨hfallback, fun straps => ⟨fun e => hfull ⟨straps, e⟩, fun e => hwarm ⟨straps, e⟩⟩⟩)

/-- A law that each operation on lanes and pool keeps, and that every reset meets, is kept by every step. -/
theorem step_keepsLanes {P : State → Prop} (hkeeps : ∀ {s t : State}, s.Keeps none none t → P s → P t)
    (hlawful : ∀ {s : State}, s.Lawful → P s) {s t : State} (hs : P s) (h : step s = .next t) : P t :=
  step_keeps (P := P) (fun _ _ => hkeeps (.calm rfl rfl rfl id))
    (fun _ _ _ hs he => he.keeps_or_resets.elim (hkeeps · hs) fun h => hlawful h.1)
    (fun s => hkeeps s.advance_keepsLanes) hs h

/-- Settles O5: every operation keeps the pool's account, its bound and its coherence. -/
theorem poolStaysAccounted : Obligations.PoolStaysAccounted :=
  fun _ _ hs hstep => step_keepsLanes (P := PoolLaw) (fun h => h.pool) (fun h => h.pool) hs hstep

/-- Settles O6: every operation keeps markers and rest, with drains and isolations open only within it. -/
theorem queuesFollowBranchState : Obligations.QueuesFollowBranchState :=
  fun _ _ hmarker hrest hstep =>
    step_keepsLanes (P := fun s => MarkerLaw s ∧ RestLaw s) (fun h hs => ⟨h.markerLaw hs.1, h.restLaw hs.2⟩)
      (fun h => ⟨h.marker, h.rest⟩) ⟨hmarker, hrest⟩ hstep

/-- Settles O7: every operation keeps queues, buffers and counts within their sizes. -/
theorem queuesStayWithinCapacity : Obligations.QueuesStayWithinCapacity :=
  fun _ _ hs hstep => step_keepsLanes (P := CapacityLaw) (fun h => h.capacityLaw) (fun h => h.capacity) hs hstep

end

end Sys2Proof.Machine
end

section
/-! The laws of single domains: what a domain holds in its state and its mark (O10), and wakers and awaiting marks with
the rules' standing (O12). Both are kept by the moves that domains make. -/

namespace Sys2Proof.Machine

/-! ## Laws of one domain -/

/-- A domain's fields, and the mark of a powered one. -/
def Domain.marked (d : Domain) : Prop := d.fieldsHeld ∧ (d.state.enabled = true → d.seen = true)

/-- A domain's waker and awaiting mark, which only Parked lets it hold. -/
def Domain.awaits (parked : Prop) (d : Domain) : Prop :=
  d.waker.isSome = d.awaiting ∧ (d.awaiting = true →
    parked ∧ d.branch.isSome = true ∧ (d.state = .queued ∨ d.state = .powerUp ∨ d.state = .on))

theorem Domain.unarmed_awaits (parked : Prop) {d : Domain} (hwaker : d.waker = none) (hawaiting : d.awaiting = false) :
    d.awaits parked :=
  ⟨by rw [hwaker, hawaiting]; rfl, fun h => by rw [hawaiting] at h; cases h⟩

/-- A domain that keeps waker, mark and branch, and goes on in a state of an armed domain. -/
theorem Domain.awaits.of_state {parked : Prop} {d e : Domain} (h : d.awaits parked) (hwaker : e.waker = d.waker)
    (hawaiting : e.awaiting = d.awaiting) (hbranch : e.branch = d.branch)
    (hstate : e.state = .queued ∨ e.state = .powerUp ∨ e.state = .on) : e.awaits parked := by
  obtain ⟨harmed, hlaw⟩ := h
  refine ⟨by rw [hwaker, hawaiting]; exact harmed, fun ha => ?_⟩
  obtain ⟨hparked, hb, -⟩ := hlaw (hawaiting ▸ ha)
  exact ⟨hparked, hbranch ▸ hb, hstate⟩

theorem Domain.QuietMove.marked {d e : Domain} (h : d.QuietMove e) (hd : d.marked) : e.marked := by
  obtain ⟨⟨hremaining, hpending, hsettle⟩, hseen⟩ := hd
  cases h with
  | switchedOff => exact ⟨⟨fun _ => rfl, fun _ => ⟨rfl, rfl⟩, fun _ => rfl⟩, nofun⟩
  | unarmed => exact ⟨⟨hremaining, hpending, hsettle⟩, hseen⟩
  | asked n k h => exact ⟨⟨hremaining, fun e => absurd (h.symm.trans e) nofun, hsettle⟩, hseen⟩
  | reloaded n h => exact ⟨⟨fun e => absurd h e, hpending, hsettle⟩, hseen⟩
  | revived n h =>
    exact ⟨⟨fun e => absurd rfl e, fun _ => hpending (by rw [h]; rfl), fun _ => hsettle (by rw [h]; decide)⟩,
      fun _ => hseen (by rw [h]; rfl)⟩
  | released h hwaker hawaiting =>
    exact ⟨⟨fun _ => rfl, fun _ => hpending (by rw [h]; rfl), fun _ => hsettle (by rw [h]; decide)⟩,
      fun _ => hseen (by rw [h]; rfl)⟩
  | cleared h =>
    exact ⟨⟨fun _ => hremaining (by rw [h]; decide), fun _ => hpending (by rw [h]; rfl),
      fun _ => hsettle (by rw [h]; decide)⟩, nofun⟩
  | unseen =>
    refine ⟨⟨hremaining, hpending, hsettle⟩, fun e => ?_⟩
    change d.state.enabled = true at e
    show (d.seen && d.state.enabled) = true
    rw [hseen e, e]
    rfl
  | loaded x h => exact ⟨⟨hremaining, hpending, hsettle⟩, hseen⟩
  | settling n h => exact ⟨⟨hremaining, hpending, fun e => absurd h e⟩, hseen⟩

theorem Domain.queuedFor_fields (d : Domain) (k : WakeClass) (n : Nat) (r : Option RuleIx) :
    (d.queuedFor k n r).state = .queued ∧ (d.queuedFor k n r).remaining = d.remaining
      ∧ (d.queuedFor k n r).settle = d.settle ∧ (d.queuedFor k n r).branch = d.branch := by
  unfold Domain.queuedFor
  dsimp only
  split <;> exact ⟨rfl, rfl, rfl, rfl⟩

theorem Domain.Move.marked {arming : Prop} {d e : Domain} (h : Domain.Move arming d e) (hd : d.marked) : e.marked := by
  cases h with
  | quiet h => exact h.marked hd
  | switchedOff => exact ⟨⟨fun _ => rfl, fun _ => ⟨rfl, rfl⟩, fun _ => rfl⟩, nofun⟩
  | faulted => exact ⟨⟨fun _ => rfl, fun _ => ⟨rfl, rfl⟩, fun _ => rfl⟩, nofun⟩
  | queued k n r h hr =>
    obtain ⟨⟨hremaining, hpending, hsettle⟩, -⟩ := hd
    obtain ⟨hstate, hr, hs, -⟩ := d.queuedFor_fields k n r
    refine ⟨⟨fun _ => ?_, fun e => ?_, fun _ => ?_⟩, fun e => ?_⟩
    · rw [hr]
      exact hremaining (by rw [h]; decide)
    · rw [hstate] at e
      cases e
    · rw [hs]
      exact hsettle (by rw [h]; decide)
    · rw [hstate] at e
      cases e
  | granted h =>
    obtain ⟨⟨hremaining, hpending, hsettle⟩, -⟩ := hd
    exact ⟨⟨fun _ => hremaining (by rw [h]; decide), nofun, fun e => absurd rfl e⟩, fun _ => rfl⟩
  | settled h =>
    obtain ⟨-, hseen⟩ := hd
    exact ⟨⟨fun e => absurd rfl e, fun _ => ⟨rfl, rfl⟩, fun _ => rfl⟩, fun _ => hseen (by rw [h]; rfl)⟩
  | warmed =>
    obtain ⟨-, hseen⟩ := hd
    unfold Domain.warmed
    dsimp only
    split
    · rename_i h
      exact ⟨⟨fun e => absurd rfl e, fun _ => ⟨rfl, rfl⟩, fun _ => rfl⟩, fun _ => hseen (by rw [h]; rfl)⟩
    · rename_i h
      exact ⟨⟨fun e => absurd rfl e, fun _ => ⟨rfl, rfl⟩, fun _ => rfl⟩, fun _ => hseen (by rw [h]; rfl)⟩
    · rename_i h
      refine ⟨⟨fun _ => rfl, fun e => ?_, fun e => absurd h e⟩, fun _ => hseen (by rw [h]; rfl)⟩
      change d.state.waiting = false at e
      rw [h] at e
      cases e
    all_goals exact ⟨⟨fun _ => rfl, nofun, fun _ => rfl⟩, nofun⟩

theorem Domain.QuietMove.awaits {parked : Prop} {d e : Domain} (h : d.QuietMove e) (hd : d.awaits parked) :
    e.awaits parked := by
  cases h with
  | switchedOff => exact Domain.unarmed_awaits _ rfl rfl
  | unarmed => exact Domain.unarmed_awaits _ rfl rfl
  | asked n k h => exact hd
  | reloaded n h => exact hd
  | revived n h => exact hd.of_state rfl rfl rfl (.inr (.inr rfl))
  | released h hwaker hawaiting => exact Domain.unarmed_awaits _ hwaker hawaiting
  | cleared h =>
    obtain ⟨harmed, hlaw⟩ := hd
    refine ⟨harmed, fun ha => ?_⟩
    obtain ⟨-, -, hstate⟩ := hlaw ha
    rw [h] at hstate
    rcases hstate with e | e | e <;> cases e
  | unseen => exact hd
  | loaded x h =>
    obtain ⟨harmed, hlaw⟩ := hd
    refine ⟨harmed, fun ha => ?_⟩
    obtain ⟨hparked, hbranch, hstate⟩ := hlaw ha
    have hsame : x.branch = d.branch := h (by rcases hstate with e | e | e <;> rw [e] <;> rfl)
    exact ⟨hparked, by rw [← hsame] at hbranch; exact hbranch, hstate⟩
  | settling n h => exact hd

theorem Domain.Move.awaits {parked : Prop} {d e : Domain} (h : Domain.Move parked d e) (hd : d.awaits parked) :
    e.awaits parked := by
  cases h with
  | quiet h => exact h.awaits hd
  | switchedOff => exact Domain.unarmed_awaits _ rfl rfl
  | faulted => exact Domain.unarmed_awaits _ rfl rfl
  | queued k n r h hr =>
    have hsame : ({ d with state := .queued, pending := n, pendingClass := k } : Domain).awaits parked :=
      hd.of_state rfl rfl rfl (.inl rfl)
    unfold Domain.queuedFor
    dsimp only
    split
    · rename_i b hb
      exact ⟨rfl, fun _ => ⟨hr rfl, by show d.branch.isSome = true; rw [hb]; rfl, .inl rfl⟩⟩
    · exact hsame
  | granted h => exact hd.of_state rfl rfl rfl (.inr (.inl rfl))
  | settled h => exact hd.of_state rfl rfl rfl (.inr (.inr rfl))
  | warmed =>
    unfold Domain.warmed
    dsimp only
    split <;> exact Domain.unarmed_awaits _ rfl rfl

/-- What every move of a domain keeps is kept of every domain. -/
theorem State.Moves.keeps {arming : Prop} {s t : State} {P : Domain → Prop} (h : s.Moves arming t)
    (hP : ∀ {d e : Domain}, Domain.Move arming d e → P d → P e) (hs : ∀ d : DomainIx, P s.domains[d]) :
    ∀ d : DomainIx, P t.domains[d] := by
  have chain : ∀ {d e : Domain}, Relation.ReflTransGen (Domain.Move arming) d e → P d → P e := by
    intro d e h hd
    induction h with
    | refl => exact hd
    | tail _ hm ih => exact hP hm ih
  exact fun d => chain (h d) (hs d)

theorem State.Moves.marked {arming : Prop} {s t : State} (h : s.Moves arming t)
    (hs : ∀ d : DomainIx, s.domains[d].marked) : ∀ d : DomainIx, t.domains[d].marked :=
  h.keeps Domain.Move.marked hs

theorem State.Moves.awaits {parked : Prop} {s t : State} (h : s.Moves parked t)
    (hs : ∀ d : DomainIx, s.domains[d].awaits parked) : ∀ d : DomainIx, t.domains[d].awaits parked :=
  h.keeps Domain.Move.awaits hs

/-! ## The moves of commands -/

section
variable {s t : State}

theorem State.warmReset_allMoves (straps : Fin 4) : s.Moves True (s.warmReset straps) := by
  obtain ⟨u, hu, hmoves⟩ := s.warmReset_moves straps
  have hwarm : s.Moves True u := fun d => by
    rw [hu]
    exact .single (.warmed _)
  exact hwarm.trans (hmoves.mono False.elim)

theorem State.clearFault_quietly {d : DomainIx} (h : s.domains[d].state = .fault) :
    s.Quietly ((s.modDomain d fun x => { x with state := .off }).followDomain d) :=
  (State.Quietly.modDomain s d (.cleared _ h)).trans (.of_eq (State.followDomain_domains _ d))

theorem Acted.moves {c : Instr} (h : Acted s c t) (hdepart : t ≠ s.departNow) : s.Moves (s.mode = .parked) t := by
  cases h with
  | same => exact .refl s
  | overrunRead => exact .of_eq rfl
  | flagsCleared => exact .of_eq rfl
  | masksSet => exact .of_eq rfl
  | resetAwaited => exact .of_eq rfl
  | ruleWritten r _ x _ => exact (State.Quietly.since (State.clearWakers_quietly _ r) rfl).moves
  | enableSet r on =>
    unfold State.setEnable
    dsimp only
    split
    · exact .of_eq rfl
    · exact State.Quietly.moves (.since (State.clearWakers_quietly _ r) rfl)
  | quarantineReleased r => exact .of_eq rfl
  | monitorWritten => exact .of_eq rfl
  | domainWritten d _ x _ hbranch => exact (State.Quietly.modDomain s d (.loaded _ x hbranch)).moves
  | forcedOn d => exact s.wake_moves d _ _ none nofun
  | forcedOff d => exact s.switchOff_moves d
  | faultCleared d hfault => exact (State.clearFault_quietly hfault).moves
  | limitSet k _ _ _ => exact State.Moves.since (State.runArbiter_moves _) rfl
  | trunkWritten => exact .of_eq rfl
  | branchWritten => exact .of_eq rfl
  | portReleased b _ => exact s.leaveIsolated_moves b
  | budgetWritten _ x _ => exact State.Quietly.moves (.since (State.recompute_quietly _) rfl)
  | entryWritten => exact .of_eq rfl
  | parked => exact s.parkNow_quietly.moves
  | departed => exact absurd rfl hdepart

theorem State.judge_domain (s : State) (d : DomainIx) : (s.judge d).domains[d] = s.domains[d].unarmed := by
  rw [State.judge_domains, if_pos rfl]

/-- The moves of a command other than a full reset, a warm reset and Depart. -/
theorem Effect.moves {c : Instr} (h : Effect s c t) (hfull : ∀ straps, t ≠ s.fullReset straps)
    (hwarm : ∀ straps, t ≠ s.warmReset straps)
    (hdepart : ∀ code tag r data, t ≠ s.departNow.respond code tag r data) : s.Moves (s.mode = .parked) t := by
  cases h with
  | same => exact .refl s
  | requestDiscarded => exact .of_eq rfl
  | answered u code tag r data h =>
    exact (h.moves fun e => hdepart code tag r data (e ▸ rfl)).trans (.of_eq rfl)
  | fullReset straps => exact absurd rfl (hfull straps)
  | resetByInput straps => exact absurd rfl (hwarm straps)
  | resetByRequest straps => exact absurd rfl (hwarm straps)
  | babbled p f => exact State.Moves.since (State.chatterAt_moves _ p) (s.heardAt_domains p)
  | landed p f _ _ => exact s.land_moves p f
  | overran p f =>
    exact State.Moves.since (State.chatterAt_moves _ p)
      ((State.reportOverrun_domains _ p).trans (s.heardAt_domains p))
  | took => exact .of_eq rfl
  | dispatched c hc => exact State.Moves.since (State.dispatch_moves { s with classification := none } c) rfl
  | beganTrunk => exact .of_eq s.beginTrunk_domains
  | beganBranch b _ => exact .of_eq (s.beginBranch_domains b)
  | attemptEnded p f o _ => exact s.endAttempt_moves p f o
  | trunkSilenced => exact .of_eq rfl
  | fellBack => exact s.enterFallback_moves
  | pinSet => exact .of_eq rfl
  | faulted d level _ => exact State.Moves.since (State.enterFault_moves _ d) rfl
  | settled d hstate =>
    exact ((State.Moves.modDomain s d (.settled _ hstate)).trans (.of_eq (State.followDomain_domains _ d))).trans
      (State.runArbiter_moves _)
  | lingered d hmode hstate hcount =>
    refine (s.judge_quietly d).moves.trans (State.lingerOut_quietly _ d ?_ ?_ ?_).moves
    · rw [s.judge_domain]
      exact hstate
    · rw [s.judge_domain]
      rfl
    · rw [s.judge_domain]
      rfl
  | drainLimited b _ => exact State.Quietly.moves (.since (State.settleDrain_quietly _ b) rfl)
  | entryExpired p place e _ _ => exact State.Quietly.moves (.since (State.settlePort_quietly _ p) rfl)
  | accountReloaded => exact .of_eq rfl
  | accounted => exact State.Quietly.moves (.since (State.accountNow_quietly _) rfl)
  | windowOpened => exact .of_eq rfl
  | isolationEnded b _ => exact s.leaveIsolated_moves b
  | suspicionEnded => exact .of_eq rfl
  | quarantineEnded => exact .of_eq rfl
  | scheduleFired i _ => exact (s.scheduledWake_moves i).trans (.of_eq rfl)
  | secondPassed =>
    refine .of_eq ?_
    unfold State.secondStep
    dsimp only
    split
    · rw [State.mapSchedule_domains, State.mapPorts_domains, State.mapBranches_domains, State.mapRules_domains]
    · rw [State.mapPorts_domains, State.mapBranches_domains, State.mapRules_domains]

theorem State.secondStep_domains (s : State) : s.secondStep.domains = s.domains := by
  unfold State.secondStep
  dsimp only
  split
  · rw [State.mapSchedule_domains, State.mapPorts_domains, State.mapBranches_domains, State.mapRules_domains]
  · rw [State.mapPorts_domains, State.mapBranches_domains, State.mapRules_domains]

theorem State.msStep_quietly (s : State) : s.Quietly s.msStep := fun d => by
  have h : s.msStep.domains[d] = if s.domains[d].state = .powerUp then
      { s.domains[d] with settle := s.domains[d].settle - 1 } else s.domains[d] := s.mapDomains_get _ d
  rw [h]
  split
  · rename_i hstate
    exact .single (.settling _ _ hstate)
  · exact .refl

theorem State.hundredMsStep_quietly (s : State) : s.Quietly s.hundredMsStep := by
  unfold State.hundredMsStep
  dsimp only
  split
  · refine State.Quietly.since (.mapDomains { s with silence := tickDown s.silence } fun d => ?_) rfl
    split
    · rename_i hstate
      exact .inr (.reloaded _ _ hstate)
    · exact .inl rfl
  · exact .of_eq rfl

theorem State.advance_quietly (s : State) : s.Quietly s.advance :=
  State.advance_keeps (P := fun t => s.Quietly t) (fun _ _ h => h.trans (.of_eq rfl))
    (fun u h => h.trans u.msStep_quietly)
    (fun u h => h.trans (.of_eq (by simp only [State.tenMsStep, State.mapBranches_domains])))
    (fun u h => h.trans u.hundredMsStep_quietly) (fun u h => h.trans (.of_eq u.secondStep_domains)) (.refl s)

/-! ## Fields and marks -/

theorem State.fullReset_moves (straps : Fin 4) {arming : Prop} :
    (s.coldStart straps).Moves arming (s.fullReset straps) := State.enterUnconfigured_moves _

theorem State.respond_domains (s : State) (code tag : Byte) (r : Result) (data : List Byte) :
    (s.respond code tag r data).domains = s.domains := rfl

theorem Effect.marked {c : Instr} (h : Effect s c t) (hs : ∀ d : DomainIx, s.domains[d].marked) :
    ∀ d : DomainIx, t.domains[d].marked := by
  by_cases hfull : ∃ straps, t = s.fullReset straps
  · obtain ⟨straps, e⟩ := hfull
    rw [e]
    refine (State.fullReset_moves (arming := False) straps).marked fun d => ?_
    rw [State.coldStart_domain]
    exact ⟨⟨fun _ => rfl, fun _ => ⟨rfl, rfl⟩, fun _ => rfl⟩, nofun⟩
  by_cases hwarm : ∃ straps, t = s.warmReset straps
  · obtain ⟨straps, e⟩ := hwarm
    rw [e]
    exact (State.warmReset_allMoves straps).marked hs
  by_cases hdepart : ∃ code tag r data, t = s.departNow.respond code tag r data
  · obtain ⟨code, tag, r, data, e⟩ := hdepart
    rw [e]
    have hdepart : s.Moves False s.departNow := s.departStarted_quietly.moves.trans s.departNow_moves
    exact (hdepart.trans (.of_eq (State.respond_domains _ _ _ _ _))).marked hs
  · exact (h.moves (fun straps e => hfull ⟨straps, e⟩) (fun straps e => hwarm ⟨straps, e⟩)
      fun code tag r data e => hdepart ⟨code, tag, r, data, e⟩).marked hs

/-- Settles O10: the moves of domains keep fields and marks, and the operations on lanes the branches' marks. -/
theorem domainFieldsFollowState : Obligations.DomainFieldsFollowState := by
  intro s t hfields hseen hstep
  have marked_iff : ∀ u : State, (∀ d : DomainIx, u.domains[d].marked) ↔
      DomainFieldLaw u ∧ ∀ d : DomainIx, u.domains[d].state.enabled = true → u.domains[d].seen = true := fun u =>
    forall_and
  have hmarked := (marked_iff s).2 ⟨hfields, hseen.1⟩
  have hlanes := ((seenLaw_iff s).1 hseen).2
  have ht : ∀ d : DomainIx, t.domains[d].marked :=
    step_keeps (P := fun u => ∀ d : DomainIx, u.domains[d].marked) (fun _ _ h => h) (fun _ _ _ hs he => he.marked hs)
      (fun u h => (State.Quietly.moves (arming := False) u.advance_quietly).marked h) hmarked hstep
  have hseen' : ∀ p, (t.lane p).seen :=
    step_keeps (P := fun u => ∀ p, (u.lane p).seen) (fun _ _ h => h)
      (fun _ _ _ hs he => he.keeps_or_resets.elim (fun h => h.seen hs) fun h => h.2 hs)
      (fun u h => (u.advance_keepsLanes (x := none) (y := none)).seen h) hlanes hstep
  obtain ⟨hfields', hdomains⟩ := (marked_iff t).1 ht
  exact ⟨hfields', (seenLaw_iff t).2 ⟨hdomains, hseen'⟩⟩

end

end Sys2Proof.Machine
end

section
/-! The law of the confirmation monitor (O12): the moves of domains keep wakers to the domains that may hold them, no
operation but Depart and the resets ends Parked, and none makes a rule suspect and quarantined at once. -/

namespace Sys2Proof.Machine

/-! ## Mode and rules -/

section
variable {s t : State}

theorem State.mode_of_held (h : t.held = s.held) : t.mode = s.mode := by
  rw [← State.held_mode, h, State.held_mode]

theorem State.mode_of_heldByMonitor (h : t.heldByMonitor = s.heldByMonitor) : t.mode = s.mode := by
  have h := congrArg (fun u : State => u.mode) h
  exact h

theorem State.mode_of_heldByAdmission (h : t.heldByAdmission = s.heldByAdmission) : t.mode = s.mode := by
  have h := congrArg (fun u : State => u.mode) h
  exact h

theorem State.mode_of_heldByTransmitters (h : t.heldByTransmitters = s.heldByTransmitters) : t.mode = s.mode := by
  have h := congrArg (fun u : State => u.mode) h
  exact h

theorem State.rules_of_held (h : t.held = s.held) : t.rules = s.rules := by
  rw [← State.held_rules, h, State.held_rules]

theorem State.rules_of_heldByAdmission (h : t.heldByAdmission = s.heldByAdmission) : t.rules = s.rules := by
  have h := congrArg (fun u : State => u.rules) h
  exact h

theorem State.rules_of_heldByTransmitters (h : t.heldByTransmitters = s.heldByTransmitters) : t.rules = s.rules := by
  have h := congrArg (fun u : State => u.rules) h
  exact h

/-- A dispatch changes the held part by its battery figure and by a queued request alone. -/
theorem State.dispatch_steady (s : State) (c : Classification) :
    (s.dispatch c).mode = s.mode ∧ (s.dispatch c).rules = s.rules := by
  have held : ∀ {u : State}, u.held = s.held → u.mode = s.mode ∧ u.rules = s.rules := fun h =>
    ⟨State.mode_of_held h, State.rules_of_held h⟩
  unfold State.dispatch
  split
  · unfold State.queueRequest
    split <;> exact ⟨rfl, rfl⟩
  · exact held (s.offerCopies_held _ _ _ _)
  · have h := s.dispatchMatch_heldByAdmission c.port c.frame
    exact ⟨State.mode_of_heldByAdmission (h _), State.rules_of_heldByAdmission (h _)⟩
  · exact held ((State.issueChatter_held _ _ _).trans (s.offerCopies_held _ _ _ _))
  · exact held (s.issueChatter_held _ _)

theorem State.recompute_steady (s : State) : s.recompute.mode = s.mode ∧ s.recompute.rules = s.rules :=
  ⟨State.mode_of_heldByAdmission s.recompute_heldByAdmission, State.rules_of_heldByAdmission s.recompute_heldByAdmission⟩

theorem State.accountNow_steady (s : State) : s.accountNow.mode = s.mode ∧ s.accountNow.rules = s.rules := by
  have clear : ∀ u : State, u.clearMarks.recompute.mode = u.mode ∧ u.clearMarks.recompute.rules = u.rules := fun u =>
    ⟨(State.recompute_steady _).1.trans (State.mode_of_held u.clearMarks_held),
      (State.recompute_steady _).2.trans (State.rules_of_held u.clearMarks_held)⟩
  unfold State.accountNow
  dsimp only
  split
  · have hraise := State.raise_held { s with account := s.account.charged s.budget s.drawSum } .accountSaturated none 0 0
    have hmode := State.mode_of_held hraise
    have hrules := State.rules_of_held hraise
    exact ⟨(clear _).1.trans hmode, (clear _).2.trans hrules⟩
  · exact clear _

theorem State.heardAt_steady (s : State) (p : Port) : (s.heardAt p).mode = s.mode ∧ (s.heardAt p).rules = s.rules := by
  unfold State.heardAt
  split <;> exact ⟨rfl, rfl⟩

theorem State.charge_mode (s : State) (r : RuleIx) (d : DomainIx) : (s.charge r d).mode = s.mode :=
  State.mode_of_heldByMonitor (s.charge_heldByMonitor r d)

theorem State.judge_mode (s : State) (d : DomainIx) : (s.judge d).mode = s.mode := by
  unfold State.judge
  dsimp only
  split
  · exact s.charge_mode _ _
  · rfl

theorem State.secondStep_mode (s : State) : s.secondStep.mode = s.mode := by
  unfold State.secondStep
  dsimp only
  split <;> simp only [State.mapSchedule_mode, State.mapPorts_mode, State.mapBranches_mode, State.mapRules_mode]

theorem State.parkNow_mode (s : State) : s.parkNow.mode = .parked := by
  rw [State.parkNow_eq, State.mode_of_held (foldl_held _ State.parkBranch_held _ _), State.parkLoaded,
    State.mapDomains_mode, State.parkStarted, State.mapSchedule_mode]

/-! ## Parked is left by Depart and the resets alone -/

theorem Acted.stays_parked {c : Instr} (h : Acted s c t) (hdepart : t ≠ s.departNow) (hs : s.mode = .parked) :
    t.mode = .parked := by
  cases h with
  | ruleWritten r _ x _ => exact hs
  | enableSet r on =>
    unfold State.setEnable
    dsimp only
    split <;> exact hs
  | forcedOn d => exact (State.mode_of_held (s.wake_held d _ _ _)).trans hs
  | forcedOff d => exact (State.mode_of_held (s.switchOff_held d)).trans hs
  | faultCleared d _ => exact (State.mode_of_held (by rw [State.followDomain_held, State.modDomain_held _ rfl])).trans hs
  | limitSet k _ _ _ => exact (State.mode_of_held (State.runArbiter_held _)).trans hs
  | portReleased b _ => exact (State.mode_of_held (s.leaveIsolated_held b)).trans hs
  | budgetWritten _ x _ => exact (State.recompute_steady _).1.trans hs
  | parked => exact s.parkNow_mode
  | departed => exact absurd rfl hdepart
  | _ => exact hs

theorem Effect.stays_parked {c : Instr} (h : Effect s c t) (hfull : ∀ straps, t ≠ s.fullReset straps)
    (hwarm : ∀ straps, t ≠ s.warmReset straps)
    (hdepart : ∀ code tag r data, t ≠ s.departNow.respond code tag r data) (hs : s.mode = .parked) :
    t.mode = .parked := by
  cases h with
  | answered u code tag r data h => exact h.stays_parked (fun e => hdepart code tag r data (e ▸ rfl)) hs
  | fullReset straps => exact absurd rfl (hfull straps)
  | resetByInput straps => exact absurd rfl (hwarm straps)
  | resetByRequest straps => exact absurd rfl (hwarm straps)
  | babbled p f => exact ((State.mode_of_held (State.chatterAt_held _ p)).trans (s.heardAt_steady p).1).trans hs
  | landed p f _ _ =>
    have hheard : ((s.modPort p fun ps => { ps with landing := ps.landing ++ [f] }).heardAt p).mode = .parked :=
      (State.heardAt_steady _ p).1.trans hs
    unfold State.land
    dsimp only
    rw [if_neg (by rw [hs]; decide)]
    split
    · exact hheard
    · exact (State.mode_of_heldByMonitor (State.receptionNotice_heldByMonitor _ _)).trans hheard
  | overran p f =>
    exact ((State.mode_of_held (State.chatterAt_held _ p)).trans
      ((State.mode_of_held (State.reportOverrun_held _ p)).trans (s.heardAt_steady p).1)).trans hs
  | dispatched c hc => exact (State.dispatch_steady { s with classification := none } c).1.trans hs
  | beganTrunk => exact (State.mode_of_heldByTransmitters s.beginTrunk_heldByTransmitters).trans hs
  | beganBranch b _ => exact (State.mode_of_held (s.beginBranch_held b)).trans hs
  | attemptEnded p f o _ => exact (State.mode_of_heldByTransmitters (s.endAttempt_heldByTransmitters p f o)).trans hs
  | fellBack hmode =>
    rw [hmode] at hs
    cases hs
  | faulted d level _ => exact (State.mode_of_held (State.enterFault_held _ d)).trans hs
  | settled d _ =>
    exact (State.mode_of_held (by
      rw [State.runArbiter_held, State.followDomain_held, State.modDomain_held _ rfl])).trans hs
  | lingered d _ _ _ => exact ((State.mode_of_held (State.lingerOut_held _ d)).trans (s.judge_mode d)).trans hs
  | drainLimited b _ =>
    exact (State.mode_of_held (by rw [State.settleDrain_held, State.modBranch_held _ rfl])).trans hs
  | entryExpired p place e _ _ =>
    exact (State.mode_of_held (by rw [State.settlePort_held, State.dropAt_held])).trans hs
  | accounted => exact (State.accountNow_steady _).1.trans hs
  | isolationEnded b _ => exact (State.mode_of_held (s.leaveIsolated_held b)).trans hs
  | scheduleFired i _ => exact (State.mode_of_held (s.scheduledWake_held i)).trans hs
  | secondPassed => exact s.secondStep_mode.trans hs
  | _ => exact hs

/-! ## The rules' standing -/

/-- No rule is suspect and quarantined at once. -/
def State.standing (s : State) : Prop := ∀ r : RuleIx, s.rules[r].suspect = none ∨ s.rules[r].quarantine = none

theorem State.standing.of_rules (hs : s.standing) (h : t.rules = s.rules) : t.standing := fun r => by
  rw [h]
  exact hs r

theorem State.standing.of_held (hs : s.standing) (h : t.held = s.held) : t.standing :=
  hs.of_rules (State.rules_of_held h)

/-- One rule changed to a standing that is no double one. -/
theorem State.standing.modRule (hs : s.standing) (r : RuleIx) (f : Rule → Rule)
    (h : (s.rules[r].suspect = none ∨ s.rules[r].quarantine = none) →
      (f s.rules[r]).suspect = none ∨ (f s.rules[r]).quarantine = none) : (s.modRule r f).standing := fun i => by
  rw [State.modRule_get]
  split
  · exact h (hs r)
  · exact hs i

theorem State.standing.mapRules (hs : s.standing) (f : RuleIx → Rule → Rule)
    (h : ∀ r x, (x.suspect = none ∨ x.quarantine = none) → (f r x).suspect = none ∨ (f r x).quarantine = none) :
    (s.mapRules f).standing := fun r => by
  rw [State.mapRules_get]
  exact h r _ (hs r)

theorem State.standing.charge (hs : s.standing) (r : RuleIx) (d : DomainIx) : (s.charge r d).standing := by
  unfold State.charge
  dsimp only
  split
  · rename_i hquarantine
    refine hs.modRule r _ fun h => .inl (h.resolve_right fun e => ?_)
    rw [e] at hquarantine
    cases hquarantine
  split
  · refine State.standing.of_held (s := State.dropConfirm _ r) ?_ (State.raise_held _ _ _ _ _)
    exact hs.modRule r (fun x => { x with suspect := none, quarantine := some s.quarantineTime }) fun _ => .inl rfl
  · rename_i hquarantine _
    exact hs.modRule r _ fun _ => .inr (Option.not_isSome_iff_eq_none.1 hquarantine)

theorem State.standing.judge (hs : s.standing) (d : DomainIx) : (s.judge d).standing := by
  unfold State.judge
  dsimp only
  split
  · exact hs.charge _ _
  · exact hs

theorem State.standing.receptionNotice (hs : s.standing) (b : Branch) : (s.receptionNotice b).standing := by
  refine State.standing.of_held (s := s.confirm b) ?_ (State.withdrawMarker_held _ b)
  unfold State.confirm
  refine State.standing.of_rules ?_ (State.mapDomains_rules _ _)
  refine hs.mapRules _ fun r x h => ?_
  split
  · exact .inl rfl
  · exact h

theorem Option.none_of_tick {t : Option Nat} (h : t = none) : tickDown t = none := by rw [h]; rfl

theorem State.standing.secondStep (hs : s.standing) : s.secondStep.standing := by
  have hcounted : (s.mapRules fun _ r =>
      { r with suspect := tickDown r.suspect, quarantine := tickDown r.quarantine }).standing :=
    hs.mapRules _ fun _ _ h => h.imp Option.none_of_tick Option.none_of_tick
  have hrules : s.secondStep.rules = (s.mapRules fun _ r =>
      { r with suspect := tickDown r.suspect, quarantine := tickDown r.quarantine }).rules := by
    unfold State.secondStep
    dsimp only
    split <;> simp only [State.mapSchedule_rules, State.mapPorts_rules, State.mapBranches_rules] <;> rfl
  exact hcounted.of_rules hrules

theorem State.standing.enterUnconfigured (hs : s.standing) : s.enterUnconfigured.standing :=
  hs.of_rules (by
    rw [← State.held_rules, State.enterUnconfigured_held]
    rfl)

theorem State.warmReset_standing (s : State) (straps : Fin 4) : (s.warmReset straps).standing := by
  rw [State.warmReset_eq]
  refine State.standing.of_held (s := (s.warmStart straps).recomputeSilently) (fun r => ?_) (State.runArbiter_held _)
  have hrule : (s.warmStart straps).recomputeSilently.rules[r] = s.rules[r].cleared := by
    show (s.warmStart straps).rules[r] = _
    rw [State.warmStart, State.mapDomains_rules, State.mapSchedule_rules, State.mapRules_get, State.mapBranches_rules,
      State.mapPorts_rules]
  rw [hrule]
  exact .inl rfl

theorem Acted.standing {c : Instr} (h : Acted s c t) (hs : s.standing) : t.standing := by
  cases h with
  | ruleWritten r _ x _ =>
    exact hs.modRule r (fun _ => { record := x, suspect := none, quarantine := none }) fun _ => .inl rfl
  | enableSet r on =>
    have hset := hs.modRule r (fun x => { x with record := { x.record with enabled := on } }) id
    unfold State.setEnable
    dsimp only
    split <;> exact hset
  | quarantineReleased r => exact hs.modRule r _ fun _ => .inl rfl
  | forcedOn d => exact hs.of_held (s.wake_held d _ _ _)
  | forcedOff d => exact hs.of_held (s.switchOff_held d)
  | faultCleared d _ => exact hs.of_held (by rw [State.followDomain_held, State.modDomain_held _ rfl])
  | limitSet k _ _ _ =>
    exact State.standing.of_held (s := { s with inrushLimit := k }) hs (State.runArbiter_held _)
  | portReleased b _ => exact hs.of_held (s.leaveIsolated_held b)
  | budgetWritten _ x _ =>
    exact State.standing.of_rules (s := { s with budget := x }) hs (State.recompute_steady _).2
  | parked =>
    refine State.standing.of_held ?_ (foldl_held _ State.parkBranch_held allBranches s.parkLoaded)
    refine hs.of_rules ?_
    rw [State.parkLoaded, State.mapDomains_rules, State.parkStarted, State.mapSchedule_rules]
    exact (State.recompute_steady _).2
  | departed =>
    refine hs.of_rules ?_
    rw [← State.held_rules, State.departNow_held]
    rfl
  | _ => exact hs

theorem Effect.standing {c : Instr} (h : Effect s c t) (hs : s.standing) : t.standing := by
  cases h with
  | answered u code tag r data h => exact h.standing hs
  | fullReset straps =>
    refine State.standing.enterUnconfigured (s := s.coldStart straps) fun r => ?_
    simp [State.coldStart, State.cold, Rule.reset]
  | resetByInput straps => exact s.warmReset_standing straps
  | resetByRequest straps => exact s.warmReset_standing straps
  | babbled p f =>
    exact State.standing.of_held (hs.of_rules (s.heardAt_steady p).2) (State.chatterAt_held _ p)
  | landed p f _ _ =>
    have hheard : ((s.modPort p fun ps => { ps with landing := ps.landing ++ [f] }).heardAt p).standing :=
      hs.of_rules (State.heardAt_steady _ p).2
    unfold State.land
    dsimp only
    split <;> split
    · exact hheard.enterUnconfigured
    · exact (hheard.receptionNotice _).enterUnconfigured
    · exact hheard
    · exact hheard.receptionNotice _
  | overran p f =>
    exact State.standing.of_held (State.standing.of_held (hs.of_rules (s.heardAt_steady p).2)
      (State.reportOverrun_held _ p)) (State.chatterAt_held _ p)
  | dispatched c hc =>
    exact State.standing.of_rules (s := { s with classification := none }) hs (State.dispatch_steady _ c).2
  | beganTrunk => exact hs.of_rules (State.rules_of_heldByTransmitters s.beginTrunk_heldByTransmitters)
  | beganBranch b _ => exact hs.of_held (s.beginBranch_held b)
  | attemptEnded p f o _ =>
    exact hs.of_rules (State.rules_of_heldByTransmitters (s.endAttempt_heldByTransmitters p f o))
  | fellBack =>
    refine hs.of_rules ?_
    rw [← State.held_rules, State.enterFallback_held]
    rfl
  | faulted d level _ => exact State.standing.of_held (s := s.setFaultInput d level) hs (State.enterFault_held _ d)
  | settled d _ =>
    exact hs.of_held (by rw [State.runArbiter_held, State.followDomain_held, State.modDomain_held _ rfl])
  | lingered d _ _ _ => exact (hs.judge d).of_held (State.lingerOut_held _ d)
  | drainLimited b _ => exact hs.of_held (by rw [State.settleDrain_held, State.modBranch_held _ rfl])
  | entryExpired p place e _ _ => exact hs.of_held (by rw [State.settlePort_held, State.dropAt_held])
  | accounted => exact hs.of_rules (State.accountNow_steady _).2
  | isolationEnded b _ => exact hs.of_held (s.leaveIsolated_held b)
  | suspicionEnded r => exact hs.modRule r _ fun _ => .inl rfl
  | quarantineEnded r => exact hs.modRule r _ fun _ => .inr rfl
  | scheduleFired i _ => exact State.standing.of_held (t := s.scheduledWake i) hs (s.scheduledWake_held i)
  | secondPassed => exact hs.secondStep
  | _ => exact hs

/-! ## The monitor's law -/

theorem Domain.awaits.mono {p q : Prop} {d : Domain} (h : d.awaits p) (hpq : p → q) : d.awaits q :=
  ⟨h.1, fun ha => (h.2 ha).imp_left hpq⟩

theorem confirmationLaw_iff (s : State) : ConfirmationLaw s ↔
    (∀ d : DomainIx, s.domains[d].awaits (s.mode = .parked)) ∧ s.standing := Iff.rfl

theorem Effect.awaits {c : Instr} (h : Effect s c t) (hs : ∀ d : DomainIx, s.domains[d].awaits (s.mode = .parked)) :
    ∀ d : DomainIx, t.domains[d].awaits (t.mode = .parked) := by
  have weaken : (∀ d : DomainIx, t.domains[d].awaits False) → ∀ d : DomainIx, t.domains[d].awaits (t.mode = .parked) :=
    fun h d => (h d).mono False.elim
  by_cases hfull : ∃ straps, t = s.fullReset straps
  · obtain ⟨straps, e⟩ := hfull
    refine weaken ?_
    rw [e]
    refine (State.fullReset_moves straps).awaits fun d => ?_
    rw [State.coldStart_domain]
    exact Domain.unarmed_awaits _ rfl rfl
  by_cases hwarm : ∃ straps, t = s.warmReset straps
  · obtain ⟨straps, e⟩ := hwarm
    obtain ⟨u, hu, hmoves⟩ := s.warmReset_moves straps
    refine weaken ?_
    rw [e]
    refine hmoves.awaits fun d => ?_
    rw [hu]
    unfold Domain.warmed
    dsimp only
    split <;> exact Domain.unarmed_awaits _ rfl rfl
  by_cases hdepart : ∃ code tag r data, t = s.departNow.respond code tag r data
  · obtain ⟨code, tag, r, data, e⟩ := hdepart
    refine weaken ?_
    rw [e]
    have hmoves : s.departStarted.Moves False (s.departNow.respond code tag r data) :=
      s.departNow_moves.trans (.of_eq (State.respond_domains _ _ _ _ _))
    refine hmoves.awaits fun d => ?_
    rw [s.departStarted_domains]
    exact Domain.unarmed_awaits _ rfl rfl
  have hfull' : ∀ straps, t ≠ s.fullReset straps := fun straps e => hfull ⟨straps, e⟩
  have hwarm' : ∀ straps, t ≠ s.warmReset straps := fun straps e => hwarm ⟨straps, e⟩
  have hdepart' : ∀ code tag r data, t ≠ s.departNow.respond code tag r data := fun code tag r data e =>
    hdepart ⟨code, tag, r, data, e⟩
  exact fun d => ((h.moves hfull' hwarm' hdepart').awaits hs d).mono (h.stays_parked hfull' hwarm' hdepart')

theorem State.advance_confirmationLaw (h : ConfirmationLaw s) : ConfirmationLaw s.advance := by
  have hmode : s.advance.mode = s.mode :=
    State.advance_keeps (P := fun u => u.mode = s.mode) (fun _ _ h => h)
      (fun u h => Eq.trans (by simp only [State.msStep, State.mapDomains_mode]) h)
      (fun u h => Eq.trans (by simp only [State.tenMsStep, State.mapBranches_mode]) h)
      (fun u h => Eq.trans (by unfold State.hundredMsStep; dsimp only; split <;> simp only [State.mapDomains_mode]) h)
      (fun u h => u.secondStep_mode.trans h) rfl
  have hstanding : s.advance.standing :=
    State.advance_keeps (P := State.standing) (fun _ _ h => h)
      (fun u h => h.of_rules (by simp only [State.msStep, State.mapDomains_rules]))
      (fun u h => h.of_rules (by simp only [State.tenMsStep, State.mapBranches_rules]))
      (fun u h => h.of_rules (by unfold State.hundredMsStep; dsimp only; split <;> simp only [State.mapDomains_rules]))
      (fun u h => h.secondStep) h.2
  refine ⟨?_, hstanding⟩
  rw [hmode]
  exact (State.Quietly.moves s.advance_quietly).awaits h.1

/-- Settles O12: domains move by moves that keep wakers and marks, and rules by ones that keep their standing. -/
theorem monitorStaysLawful : Obligations.MonitorStaysLawful :=
  fun _ _ hs hstep => step_keeps (P := ConfirmationLaw) (fun _ _ h => h)
    (fun _ _ _ hs he => ⟨he.awaits hs.1, he.standing hs.2⟩) (fun _ h => State.advance_confirmationLaw h) hs hstep

end

end Sys2Proof.Machine
end

section
/-! The arbiter's law (O8): quiet moves leave the count and the pending set alone, and whatever may free a place or ask
for one ends with the arbiter's grants. -/

namespace Sys2Proof.Machine

/-- No more domains are in PowerUp than K allows. -/
def State.inLimit (s : State) : Prop := s.powerUpCount ≤ s.inrushLimit

/-- Within the limit, and nothing waits beside a free place. -/
def State.balanced (s : State) : Prop := s.inLimit ∧ s.arbiterIdle

/-- A quiet move neither begins nor ends Queued or PowerUp. -/
theorem Domain.QuietMove.stage {d e : Domain} (h : d.QuietMove e) :
    (e.state = .queued ↔ d.state = .queued) ∧ (e.state = .powerUp ↔ d.state = .powerUp) := by
  cases h with
  | switchedOff h =>
    have hq : d.state ≠ .queued := fun e => by rw [e] at h; cases h
    have hp : d.state ≠ .powerUp := fun e => by rw [e] at h; cases h
    exact ⟨iff_of_false nofun hq, iff_of_false nofun hp⟩
  | unarmed => exact ⟨Iff.rfl, Iff.rfl⟩
  | asked => exact ⟨Iff.rfl, Iff.rfl⟩
  | reloaded => exact ⟨Iff.rfl, Iff.rfl⟩
  | revived n h => rw [h]; exact ⟨iff_of_false nofun nofun, iff_of_false nofun nofun⟩
  | released h => rw [h]; exact ⟨iff_of_false nofun nofun, iff_of_false nofun nofun⟩
  | cleared h => rw [h]; exact ⟨iff_of_false nofun nofun, iff_of_false nofun nofun⟩
  | unseen => exact ⟨Iff.rfl, Iff.rfl⟩
  | loaded => exact ⟨Iff.rfl, Iff.rfl⟩
  | settling => exact ⟨Iff.rfl, Iff.rfl⟩

section
variable {s t : State}

theorem State.Quietly.stage (h : s.Quietly t) (d : DomainIx) :
    (t.domains[d].state = .queued ↔ s.domains[d].state = .queued)
      ∧ (t.domains[d].state = .powerUp ↔ s.domains[d].state = .powerUp) := by
  have chain : ∀ {d e : Domain}, Relation.ReflTransGen Domain.QuietMove d e →
      (e.state = .queued ↔ d.state = .queued) ∧ (e.state = .powerUp ↔ d.state = .powerUp) := by
    intro d e h
    induction h with
    | refl => exact ⟨Iff.rfl, Iff.rfl⟩
    | tail _ hm ih => exact ⟨hm.stage.1.trans ih.1, hm.stage.2.trans ih.2⟩
  exact chain (h d)

/-- No domain has begun PowerUp. -/
def State.NonePowered (s t : State) : Prop :=
  ∀ d : DomainIx, t.domains[d].state = .powerUp → s.domains[d].state = .powerUp

theorem State.NonePowered.inLimit (h : s.NonePowered t) (hlimit : t.inrushLimit = s.inrushLimit) (hs : s.inLimit) :
    t.inLimit := by
  rw [State.inLimit, hlimit]
  exact le_trans (List.countP_mono_left fun d _ e => decide_eq_true (h d (of_decide_eq_true e))) hs

theorem State.Quietly.nonePowered (h : s.Quietly t) : s.NonePowered t := fun d => (h.stage d).2.1

theorem State.balanced.of_quiet (hs : s.balanced) (h : s.Quietly t) (hlimit : t.inrushLimit = s.inrushLimit) :
    t.balanced := by
  obtain ⟨hin, hidle⟩ := hs
  have hcount : t.powerUpCount = s.powerUpCount :=
    List.countP_congr fun d _ => by simp only [decide_eq_true_iff, (h.stage d).2]
  refine ⟨h.nonePowered.inLimit hlimit hin, ?_⟩
  rw [State.arbiterIdle, hcount, hlimit]
  exact hidle.imp id fun hnone d e => hnone d ((h.stage d).1.1 e)

theorem State.balanced.of_domains (hs : s.balanced) (h : t.domains = s.domains) (hlimit : t.inrushLimit = s.inrushLimit) :
    t.balanced := hs.of_quiet (.of_eq h) hlimit

theorem State.inLimit.runArbiter (hs : s.inLimit) : s.runArbiter.balanced := s.runArbiter_lawful hs

/-! ## Operations that end with the arbiter's grants -/

/-- One record that goes to no PowerUp. -/
theorem State.NonePowered.modDomain (s : State) (d : DomainIx) {f : Domain → Domain}
    (h : (f s.domains[d]).state = .powerUp → s.domains[d].state = .powerUp) : s.NonePowered (s.modDomain d f) :=
  fun i => by
    rw [State.modDomain_get]
    split
    · rename_i e
      rw [e]
      exact h
    · exact id

theorem State.NonePowered.of_domains (h : t.domains = s.domains) : s.NonePowered t := fun d => by
  rw [h]
  exact id

theorem State.NonePowered.trans {u : State} (h : s.NonePowered t) (h' : t.NonePowered u) : s.NonePowered u :=
  fun d => h d ∘ h' d

theorem State.enterFault_balanced (hs : s.inLimit) (d : DomainIx) : (s.enterFault d).balanced := by
  have hfault : (s.modDomain d Domain.faulted).inLimit :=
    (State.NonePowered.modDomain s d fun e => by cases e).inLimit rfl hs
  exact hfault.runArbiter.of_domains (State.reportFault_domains _ _ _)
    (State.inrushLimit_of_held (State.reportFault_held _ _ _))

theorem State.requestWake_nonePowered (s : State) (d : DomainIx) (k : WakeClass) (n : Nat) (r : Option RuleIx) :
    s.NonePowered (s.requestWake d k n r) := by
  have hqueue : s.NonePowered (s.modDomain d fun x => x.queuedFor k n r) := .modDomain s d fun e => by
    rw [(Domain.queuedFor_fields _ _ _ _).1] at e
    cases e
  unfold State.requestWake
  dsimp only
  split
  · split
    · exact hqueue
    · split
      · exact .of_domains rfl
      · exact hqueue.trans (State.branchJoined_quietly _ _).nonePowered
  · exact .modDomain s d id
  · exact .modDomain s d id
  · exact .modDomain s d id
  · have hon : s.NonePowered (s.modDomain d fun x => { x with state := .on, remaining := n }) :=
      .modDomain s d fun e => by cases e
    split
    · exact hon
    · exact hon.trans (State.withdrawMarker_quietly _ _).nonePowered
  · exact .of_domains rfl

theorem State.wake_balanced (hs : s.inLimit) (d : DomainIx) (k : WakeClass) (n : Nat) (r : Option RuleIx) :
    (s.wake d k n r).balanced :=
  ((s.requestWake_nonePowered d k n r).inLimit (State.inrushLimit_of_held (s.requestWake_held d k n r)) hs).runArbiter

theorem State.wakeGroup_balanced (hs : s.inLimit) (ds : List DomainIx) : (s.wakeGroup ds).balanced := by
  have requests : ∀ (l : List DomainIx) (u : State), u.inLimit →
      (l.foldl (fun t d => t.requestWake d .b t.domains[d].defaultLinger none) u).inLimit := by
    intro l
    induction l with
    | nil => exact fun _ => id
    | cons d l ih =>
      exact fun u hu => ih _ ((u.requestWake_nonePowered d _ _ _).inLimit
        (State.inrushLimit_of_held (u.requestWake_held d _ _ _)) hu)
  exact (requests ds s hs).runArbiter

theorem State.switchOff_balanced (hs : s.balanced) (d : DomainIx) : (s.switchOff d).balanced := by
  unfold State.switchOff
  split
  · have hoff : ((s.modDomain d Domain.switchedOff).followDomain d).inLimit :=
      ((State.NonePowered.modDomain s d fun e => by cases e).trans (.of_domains (State.followDomain_domains _ d))).inLimit
        (State.inrushLimit_of_held (by rw [State.followDomain_held, State.modDomain_held _ rfl])) hs.1
    exact hoff.runArbiter
  · exact hs

theorem State.cut_balanced (hs : s.inLimit) (g : Domain → Bool) : (s.cut g).balanced := by
  have hcut : (s.mapDomains fun _ d => if g d && d.state.active then d.switchedOff else d).inLimit := by
    refine State.NonePowered.inLimit (s := s) (fun d => ?_) (by rw [State.mapDomains_inrushLimit]) hs
    rw [State.mapDomains_get]
    split
    · exact nofun
    · exact id
  exact hcut.runArbiter

theorem State.isolating_held (s : State) (b : Branch) : (s.isolating b).held = s.held := by
  rw [State.isolating, State.stopDrain_held, State.purge_held, State.modPort_held _ rfl, State.enterBranch_held]

theorem State.isolate_balanced (hs : s.balanced) (b : Branch) (c : IsolationCause) : (s.isolate b c).balanced := by
  by_cases hmode : s.branches[b].mode = .isolated
  · rw [s.isolate_eq_self hmode]
    exact hs
  · rw [s.isolate_eq hmode]
    have hin : (s.isolating b).inLimit :=
      (hs.of_domains (s.isolating_domains b) (State.inrushLimit_of_held (s.isolating_held b))).1
    have hcut := State.cut_balanced hin fun d => d.branch = some b
    refine hcut.of_domains ?_ (State.inrushLimit_of_held ?_)
    · rw [State.raise_domains, State.modBranch_domains]
    · rw [State.raise_held, State.modBranch_held _ rfl]

theorem State.chatter_balanced (hs : s.balanced) (b : Branch) : (s.chatter b).balanced := by
  unfold State.chatter
  split
  · have hcount : (s.modBranch b fun bs => { bs with chatterCount := bs.chatterCount + 1 }).balanced := hs
    dsimp only
    split
    · exact State.isolate_balanced hcount b _
    · exact hcount
  · exact hs

theorem State.leaveIsolated_balanced (hs : s.balanced) (b : Branch) : (s.leaveIsolated b).balanced := by
  have hfreed : (s.freed b).balanced := hs
  unfold State.leaveIsolated
  dsimp only
  split
  · exact hfreed.of_domains (State.goRest_domains _ b) (State.inrushLimit_of_held (State.goRest_held _ b))
  · exact hfreed
  all_goals exact State.wakeGroup_balanced (s := (s.freed b).enterBranch b .awake) hfreed.1 _

/-! ## Admission -/

theorem State.issueWakes_balanced (hs : s.balanced) (l : Level) (x : DomainSet) (k : WakeClass) (n : Nat)
    (r : Option RuleIx) : (s.issueWakes l x k n r).balanced := by
  have wakes : ∀ (ds : List DomainIx) (u : State), u.balanced →
      (ds.foldl (fun t d => t.wake d k (t.effectiveLinger l n d) r) u).balanced := by
    intro ds
    induction ds with
    | nil => exact fun _ => id
    | cons d ds ih => exact fun u hu => ih _ (State.wake_balanced hu.1 d k _ r)
  exact wakes _ s hs

theorem State.issueChatter_balanced (hs : s.balanced) (due : Bool) (p : Port) : (s.issueChatter due p).balanced := by
  unfold State.issueChatter
  repeat' split
  · exact hs
  · exact State.chatter_balanced hs _
  · exact hs

theorem State.issueBattery_inrushLimit (s : State) (v : Option (BitVec 16)) :
    (s.issueBattery v).inrushLimit = s.inrushLimit := by
  have h := congrArg State.inrushLimit (s.issueBattery_heldByAdmission v)
  exact h

theorem State.dispatchMatch_balanced (hs : s.balanced) (p : Port) (f : Frame) (m : Match) :
    (s.dispatchMatch p f m).balanced := by
  have copies : ∀ u : State, u.balanced → ∀ l a fwd k hold v,
      (((u.issueReloads l a).offerCopies fwd f k hold).issueBattery v).balanced := fun u hu l a fwd k hold v =>
    hu.of_quiet ((u.issueReloads_quietly l a).trans ((State.offerCopies_quietly _ _ _ _ _).trans
      (State.issueBattery_quietly _ _)))
      ((State.issueBattery_inrushLimit _ _).trans
        (State.inrushLimit_of_held (by rw [State.offerCopies_held, State.issueReloads_held])))
  unfold State.dispatchMatch
  split
  · exact State.issueChatter_balanced (copies _ (State.issueWakes_balanced hs _ _ _ _ _) _ _ _ _ _ _) _ _
  · exact State.issueChatter_balanced (copies s hs _ _ _ _ _ _) _ _
  · exact State.issueChatter_balanced (hs.of_quiet (s.issueBattery_quietly _) (s.issueBattery_inrushLimit _)) _ _

theorem State.dispatch_balanced (hs : s.balanced) (c : Classification) : (s.dispatch c).balanced := by
  have copies : ∀ fwd f k hold, (s.offerCopies fwd f k hold).balanced := fun fwd f k hold =>
    hs.of_quiet (s.offerCopies_quietly fwd f k hold) (State.inrushLimit_of_held (s.offerCopies_held fwd f k hold))
  unfold State.dispatch
  split
  · unfold State.queueRequest
    split <;> exact hs
  · exact copies _ _ _ _
  · exact State.dispatchMatch_balanced hs _ _ _
  · exact State.issueChatter_balanced (copies _ _ _ _) _ _
  · exact State.issueChatter_balanced hs _ _

theorem State.scheduledWake_balanced (hs : s.balanced) (i : EntryIx) : (s.scheduledWake i).balanced := by
  unfold State.scheduledWake
  dsimp only
  split
  · exact State.issueWakes_balanced hs _ _ _ _ _
  all_goals exact hs.of_domains (State.raise_domains _ _ _ _ _) (State.inrushLimit_of_held (State.raise_held _ _ _ _ _))

/-! ## Transmitters -/

theorem State.countDiscard_balanced (hs : s.balanced) (p : Port) : (s.countDiscard p).balanced := by
  have hcount : (s.modPort p fun ps => { ps with discards := min Config.attemptLimit (ps.discards + 1) }).balanced := hs
  unfold State.countDiscard
  dsimp only
  split
  · exact hcount
  split
  · exact hcount.of_domains (State.trunkGivesUp_domains _) rfl
  split
  · exact hcount
  · exact State.isolate_balanced hcount _ _

theorem State.settlePort_balanced (hs : s.balanced) (p : Port) : (s.settlePort p).balanced :=
  hs.of_quiet (s.settlePort_quietly p) (State.inrushLimit_of_held (s.settlePort_held p))

theorem State.delivered_inrushLimit (s : State) (p : Port) : (s.delivered p).inrushLimit = s.inrushLimit := by
  have h := congrArg State.inrushLimit (s.delivered_heldByTransmitters p)
  exact h

theorem State.delivered_balanced (hs : s.balanced) (p : Port) : (s.delivered p).balanced :=
  hs.of_domains (s.delivered_domains p) (s.delivered_inrushLimit p)

theorem State.endEntry_balanced (hs : s.balanced) (p : Port) (o : AttemptOutcome) : (s.endEntry p o).balanced := by
  have hdrop : (s.dropAt p 0).balanced := hs
  have hidle : (s.headIdle p).balanced := hs
  unfold State.endEntry
  repeat' split
  · exact State.settlePort_balanced (State.delivered_balanced hdrop p) p
  · exact State.settlePort_balanced (State.countDiscard_balanced hdrop p) p
  · exact State.settlePort_balanced hdrop p
  · exact State.settlePort_balanced hidle p
  · exact hs

theorem State.endRemoved_balanced (hs : s.balanced) (p : Port) (o : AttemptOutcome) :
    (s.endRemoved p o).balanced := by
  have hfree : ({ s with freeBuffers := s.freeBuffers + 1 } : State).balanced := hs
  unfold State.endRemoved
  dsimp only
  split
  · exact State.settlePort_balanced (State.delivered_balanced hfree p) p
  · exact State.settlePort_balanced hfree p

theorem State.endResponse_balanced (hs : s.balanced) (o : AttemptOutcome) : (s.endResponse o).balanced := by
  have hfree : ({ s with response := none } : State).balanced := hs
  unfold State.endResponse
  repeat' split
  · exact hs
  · exact State.delivered_balanced hfree _
  · exact State.countDiscard_balanced hfree _
  · exact hs

theorem State.endReport_balanced (hs : s.balanced) (o : AttemptOutcome) : (s.endReport o).balanced := by
  unfold State.endReport
  split
  · exact hs
  next r rest _ =>
    have hfree : ∀ k : Bool, ({ s with reports := rest, reportsLost := k } : State).balanced := fun _ =>
      hs.of_domains rfl rfl
    repeat' split
    · have hdelivered := State.delivered_balanced (hfree s.reportsLost) trunkPort
      exact hdelivered
    · have hcounted := State.countDiscard_balanced (hfree true) trunkPort
      exact hcounted
    · exact hs

theorem State.endAttempt_balanced (hs : s.balanced) (p : Port) (f : Flight) (o : AttemptOutcome) :
    (s.endAttempt p f o).balanced := by
  have hover : (s.modPort p fun ps => { ps with flight := none }).balanced := hs
  unfold State.endAttempt
  dsimp only
  split
  · exact State.endEntry_balanced hover p o
  · exact State.endRemoved_balanced hover p o
  · exact State.endResponse_balanced hover o
  · exact State.endReport_balanced hover o

/-! ## Modes, receptions and resets -/

theorem State.enterUnconfigured_balanced (hs : s.inLimit) : s.enterUnconfigured.balanced := by
  have hin : ({ s with mode := .unconfigured, deadline := Config.configurationDeadline } : State).inLimit := hs
  have hroused := (State.NonePowered.of_domains (State.rouseBranches_domains _)).inLimit
    (State.inrushLimit_of_held (State.rouseBranches_held _)) hin
  exact State.wakeGroup_balanced hroused _

theorem State.enterFallback_balanced (hs : s.inLimit) : s.enterFallback.balanced := by
  have hcut := State.cut_balanced
    (s := { s with mode := .fallback, deadline := 0, requests := [], classification := none }) hs fun _ => true
  refine hcut.of_domains ?_ ?_
  · rw [State.enterFallback_eq, State.raise_domains, State.flushed, State.mapPorts_domains, State.flushQueues_domains,
      State.mapBranches_domains]
  · rw [State.enterFallback_eq, State.inrushLimit_of_held (State.raise_held _ _ _ _ _), State.flushed,
      State.mapPorts_inrushLimit, State.inrushLimit_of_held (State.flushQueues_held _), State.mapBranches_inrushLimit]

theorem State.departNow_balanced (hs : s.inLimit) : s.departNow.balanced := by
  refine State.wakeGroup_balanced (s := s.departStarted) ?_ _
  refine s.departStarted_quietly.nonePowered.inLimit ?_ hs
  rw [State.departStarted, State.mapDomains_inrushLimit, State.mapBranches_inrushLimit,
    State.inrushLimit_of_held (State.rouseBranches_held _)]

theorem State.parkNow_inrushLimit (s : State) : s.parkNow.inrushLimit = s.inrushLimit := by
  have h := congrArg State.inrushLimit
    (State.recompute_heldByAdmission { s with account := s.account.restarted s.budget, parkClock := 0 })
  rw [State.parkNow_eq, State.inrushLimit_of_held (foldl_held _ State.parkBranch_held _ _), State.parkLoaded,
    State.mapDomains_inrushLimit, State.parkStarted, State.mapSchedule_inrushLimit]
  exact h

theorem State.recompute_balanced (hs : s.balanced) : s.recompute.balanced := by
  have h := congrArg State.inrushLimit s.recompute_heldByAdmission
  exact hs.of_quiet s.recompute_quietly h

theorem State.chatterAt_balanced (hs : s.balanced) (p : Port) : (s.chatterAt p).balanced := by
  unfold State.chatterAt
  split
  · exact hs
  · exact State.chatter_balanced hs _

theorem State.heardAt_balanced (hs : s.balanced) (p : Port) : (s.heardAt p).balanced := by
  unfold State.heardAt
  split <;> exact hs

theorem State.receptionNotice_balanced (hs : s.balanced) (b : Branch) : (s.receptionNotice b).balanced := by
  have h := congrArg State.inrushLimit (s.receptionNotice_heldByMonitor b)
  exact hs.of_quiet (s.receptionNotice_quietly b) h

theorem State.land_balanced (hs : s.balanced) (p : Port) (f : Frame) : (s.land p f).balanced := by
  have hlanded : (s.modPort p fun ps => { ps with landing := ps.landing ++ [f] }).balanced := hs
  have hheard := State.heardAt_balanced hlanded p
  unfold State.land
  dsimp only
  split <;> split
  · exact State.enterUnconfigured_balanced hheard.1
  · exact State.enterUnconfigured_balanced (State.receptionNotice_balanced hheard _).1
  · exact hheard
  · exact State.receptionNotice_balanced hheard _

theorem Domain.warmed_nonePowered (d : Domain) : d.warmed.state = .powerUp → d.state = .powerUp := by
  unfold Domain.warmed
  dsimp only
  split
  · exact nofun
  · exact nofun
  · exact id
  all_goals exact nofun

theorem State.warmStart_domain (s : State) (straps : Fin 4) (d : DomainIx) :
    (s.warmStart straps).domains[d] = s.domains[d].warmed := by
  rw [State.warmStart, State.mapDomains_get, State.mapSchedule_domains, State.mapRules_domains,
    State.mapBranches_domains, State.mapPorts_domains]

theorem State.warmReset_balanced (hs : s.inLimit) (straps : Fin 4) : (s.warmReset straps).balanced := by
  rw [State.warmReset_eq]
  refine State.inLimit.runArbiter (State.NonePowered.inLimit (s := s) (fun d => ?_) ?_ hs)
  · show (s.warmStart straps).domains[d].state = _ → _
    rw [State.warmStart_domain]
    exact Domain.warmed_nonePowered _
  · show (s.warmStart straps).inrushLimit = _
    simp only [State.warmStart, State.mapDomains_inrushLimit, State.mapSchedule_inrushLimit,
      State.mapRules_inrushLimit, State.mapBranches_inrushLimit, State.mapPorts_inrushLimit]

theorem State.fullReset_balanced (s : State) (straps : Fin 4) : (s.fullReset straps).balanced := by
  rw [State.fullReset_eq]
  refine State.enterUnconfigured_balanced ?_
  have hzero : (s.coldStart straps).powerUpCount = 0 := List.countP_eq_zero.2 fun d _ => by
    rw [State.coldStart_domain]
    decide
  rw [State.inLimit, hzero]
  exact Nat.zero_le _

theorem State.judge_inrushLimit (s : State) (d : DomainIx) : (s.judge d).inrushLimit = s.inrushLimit := by
  have hcharge : ∀ r, (s.charge r d).inrushLimit = s.inrushLimit := fun r => by
    have h := congrArg State.inrushLimit (s.charge_heldByMonitor r d)
    exact h
  unfold State.judge
  dsimp only
  split
  · exact hcharge _
  · rfl

theorem State.recompute_inrushLimit (s : State) : s.recompute.inrushLimit = s.inrushLimit := by
  have h := congrArg State.inrushLimit s.recompute_heldByAdmission
  exact h

theorem State.accountNow_inrushLimit (s : State) : s.accountNow.inrushLimit = s.inrushLimit := by
  unfold State.accountNow
  dsimp only
  rw [State.recompute_inrushLimit, State.inrushLimit_of_held (State.clearMarks_held _)]
  split
  · rw [State.inrushLimit_of_held (State.raise_held _ _ _ _ _)]
  · rfl

theorem State.secondStep_inrushLimit (s : State) : s.secondStep.inrushLimit = s.inrushLimit := by
  unfold State.secondStep
  dsimp only
  split <;> simp only [State.mapSchedule_inrushLimit, State.mapPorts_inrushLimit, State.mapBranches_inrushLimit,
    State.mapRules_inrushLimit]

theorem State.enterUnconfigured_inrushLimit (s : State) : s.enterUnconfigured.inrushLimit = s.inrushLimit := by
  rw [← State.held_inrushLimit, State.enterUnconfigured_held]
  rfl

/-! ## Commands -/

theorem Acted.balanced {c : Instr} (h : Acted s c t) (hs : s.balanced) : t.balanced := by
  cases h with
  | ruleWritten r _ x _ =>
    exact hs.of_quiet (State.Quietly.since (State.clearWakers_quietly _ r) rfl)
      (by rw [State.putRule, State.dropConfirm, State.clearWakers, State.mapDomains_inrushLimit]; rfl)
  | enableSet r on =>
    unfold State.setEnable
    dsimp only
    split
    · exact hs
    · exact hs.of_quiet (State.Quietly.since (State.clearWakers_quietly _ r) rfl)
        (by rw [State.dropConfirm, State.clearWakers, State.mapDomains_inrushLimit]; rfl)
  | domainWritten d _ x _ hbranch => exact hs.of_quiet (State.Quietly.modDomain s d (.loaded _ x hbranch)) rfl
  | forcedOn d => exact State.wake_balanced hs.1 d _ _ _
  | forcedOff d => exact State.switchOff_balanced hs d
  | faultCleared d hfault =>
    exact hs.of_quiet (State.clearFault_quietly hfault)
      (State.inrushLimit_of_held (by rw [State.followDomain_held, State.modDomain_held _ rfl]))
  | limitSet k _ _ hnone =>
    refine State.inLimit.runArbiter (s := { s with inrushLimit := k }) ?_
    have hzero : ({ s with inrushLimit := k } : State).powerUpCount = 0 := hnone
    rw [State.inLimit, hzero]
    exact Nat.zero_le _
  | portReleased b _ => exact State.leaveIsolated_balanced hs b
  | budgetWritten _ x _ => exact State.recompute_balanced (s := { s with budget := x }) hs
  | parked => exact hs.of_quiet s.parkNow_quietly s.parkNow_inrushLimit
  | departed => exact State.departNow_balanced hs.1
  | _ => exact hs

theorem Effect.balanced {c : Instr} (h : Effect s c t) (hs : s.balanced) : t.balanced := by
  cases h with
  | answered u code tag r data h => exact h.balanced hs
  | fullReset straps => exact s.fullReset_balanced straps
  | resetByInput straps => exact State.warmReset_balanced hs.1 straps
  | resetByRequest straps => exact State.warmReset_balanced hs.1 straps
  | babbled p f => exact State.chatterAt_balanced (State.heardAt_balanced hs p) p
  | landed p f _ _ => exact State.land_balanced hs p f
  | overran p f =>
    exact State.chatterAt_balanced ((State.heardAt_balanced hs p).of_domains (State.reportOverrun_domains _ p)
      (State.inrushLimit_of_held (State.reportOverrun_held _ p))) p
  | dispatched c hc => exact State.dispatch_balanced (s := { s with classification := none }) hs c
  | beganTrunk =>
    have h := congrArg State.inrushLimit s.beginTrunk_heldByTransmitters
    exact hs.of_domains s.beginTrunk_domains h
  | beganBranch b _ => exact hs.of_domains (s.beginBranch_domains b) (State.inrushLimit_of_held (s.beginBranch_held b))
  | attemptEnded p f o _ => exact State.endAttempt_balanced hs p f o
  | fellBack => exact State.enterFallback_balanced hs.1
  | faulted d level _ => exact State.enterFault_balanced (s := s.setFaultInput d level) hs.1 d
  | settled d hstate =>
    have hin : ((s.modDomain d Domain.settled).followDomain d).inLimit :=
      ((State.NonePowered.modDomain s d fun e => by cases e).trans (.of_domains (State.followDomain_domains _ d))).inLimit
        (State.inrushLimit_of_held (by rw [State.followDomain_held, State.modDomain_held _ rfl])) hs.1
    exact hin.runArbiter
  | lingered d hmode hstate hcount =>
    have hjudged : (s.judge d).balanced := hs.of_quiet (s.judge_quietly d) (s.judge_inrushLimit d)
    refine hjudged.of_quiet (State.lingerOut_quietly _ d ?_ ?_ ?_) (State.inrushLimit_of_held (State.lingerOut_held _ d))
    · rw [s.judge_domain]
      exact hstate
    · rw [s.judge_domain]
      rfl
    · rw [s.judge_domain]
      rfl
  | drainLimited b _ =>
    rw [← State.settlePort_portOf]
    exact State.settlePort_balanced
      (s := s.modBranch b fun bs => { bs with drainTimer := none, closing := true }) hs _
  | entryExpired p place e _ _ => exact State.settlePort_balanced (s := s.dropAt p place) hs p
  | accounted =>
    have hlimit : s.reloadAccounting.accountNow.inrushLimit = s.inrushLimit := State.accountNow_inrushLimit _
    exact State.balanced.of_quiet (s := s.reloadAccounting) hs (State.accountNow_quietly _) hlimit
  | isolationEnded b _ => exact State.leaveIsolated_balanced hs b
  | scheduleFired i _ => exact State.scheduledWake_balanced hs i
  | secondPassed =>
    exact hs.of_domains s.secondStep_domains s.secondStep_inrushLimit
  | _ => exact hs

/-! ## The value of K -/

theorem Loads.inrushLimit_range {c : Instr} (h : Loads s c t) (hs : 1 ≤ s.inrushLimit ∧ s.inrushLimit ≤ 4) :
    1 ≤ t.inrushLimit ∧ t.inrushLimit ≤ 4 := by
  cases h with
  | limit n hn => exact hn
  | _ => exact hs

theorem Effect.inrushLimit_range {c : Instr} (h : Effect s c t) (hs : 1 ≤ s.inrushLimit ∧ s.inrushLimit ≤ 4) :
    1 ≤ t.inrushLimit ∧ t.inrushLimit ≤ 4 := by
  by_cases hreset : ∃ straps, c = .fullReset straps
  · obtain ⟨straps, rfl⟩ := hreset
    cases h with
    | same => exact hs
    | answered u _ _ _ _ h =>
      have hrange := h.loads.inrushLimit_range hs
      exact hrange
    | fullReset =>
      have hlimit : (s.fullReset straps).inrushLimit = 2 := by
        rw [State.fullReset_eq, State.enterUnconfigured_inrushLimit]
        rfl
      rw [hlimit]
      decide
  · have hrange := (h.loads fun straps e => hreset ⟨straps, e⟩).inrushLimit_range hs
    exact hrange

theorem State.advance_inrushLimit (s : State) : s.advance.inrushLimit = s.inrushLimit :=
  State.advance_keeps (P := fun u => u.inrushLimit = s.inrushLimit) (fun _ _ h => h)
    (fun u h => Eq.trans (by simp only [State.msStep, State.mapDomains_inrushLimit]) h)
    (fun u h => Eq.trans (by simp only [State.tenMsStep, State.mapBranches_inrushLimit]) h)
    (fun u h => Eq.trans (by unfold State.hundredMsStep; dsimp only; split <;> simp only [State.mapDomains_inrushLimit]) h)
    (fun u h => u.secondStep_inrushLimit.trans h) rfl

theorem Effect.arbiterLaw {c : Instr} (h : Effect s c t) (hs : ArbiterLaw s) : ArbiterLaw t := by
  obtain ⟨hlow, hhigh, hbalanced⟩ := hs
  obtain ⟨hlow', hhigh'⟩ := h.inrushLimit_range ⟨hlow, hhigh⟩
  exact ⟨hlow', hhigh', h.balanced hbalanced⟩

theorem State.advance_arbiterLaw (hs : ArbiterLaw s) : ArbiterLaw s.advance := by
  obtain ⟨hlow, hhigh, hbalanced⟩ := hs
  have h := State.balanced.of_quiet hbalanced s.advance_quietly s.advance_inrushLimit
  rw [ArbiterLaw, s.advance_inrushLimit]
  obtain ⟨hin, hidle⟩ := h
  rw [State.inLimit, s.advance_inrushLimit] at hin
  exact ⟨hlow, hhigh, hin, hidle⟩

/-- Settles O8: what may free a place ends with the arbiter's grants, and all else leaves the count alone. -/
theorem inrushStaysLimited : Obligations.InrushStaysLimited :=
  fun _ _ hs hstep => step_keeps (P := ArbiterLaw) (fun _ _ h => h) (fun _ _ _ hs he => he.arbiterLaw hs)
    (fun _ h => State.advance_arbiterLaw h) hs hstep

end

end Sys2Proof.Machine
end

section
/-! The vocabulary of the statements about commands: a record put in the place of another, expiries that follow their
counts (O38), the one-second step (O48), conditions (O49), and what the outputs show (O32). -/

namespace Sys2Proof.Machine

/-! ## Records in place of others -/

section
variable (s : State)

theorem State.modPort_eq_put (p : Port) (f : PortState → PortState) : s.modPort p f = s.putPort p (f s.ports[p]) := rfl

theorem State.modBranch_eq_put (b : Branch) (f : BranchState → BranchState) :
    s.modBranch b f = s.putBranch b (f s.branches[b]) := rfl

theorem State.modDomain_eq_put (d : DomainIx) (f : Domain → Domain) :
    s.modDomain d f = s.putDomain d (f s.domains[d]) := rfl

theorem State.modRule_eq_put (r : RuleIx) (f : Rule → Rule) : s.modRule r f = s.putTableRule r (f s.rules[r]) := rfl

end

theorem ofFn_get_same {α : Type} {n : Nat} (v : Vector α n) : (Vector.ofFn fun i : Fin n => v[i]) = v := by
  ext i hi
  simp

theorem ofFn_get {α : Type} {n : Nat} (f : Fin n → α) (i : Fin n) : (Vector.ofFn f)[i] = f i :=
  Vector.getElem_ofFn i.isLt

/-! ## Conditions -/

/-- Settles O49: the three cases of `State.raise` and `State.offerReport`. -/
theorem conditionIsRecorded : Obligations.ConditionIsRecorded := by
  intro s c subject x y
  dsimp only
  refine ⟨fun hmask => ?_, fun hmask hroom => ?_, fun hmask hfull => ?_⟩ <;> unfold State.raise State.offerReport
  · simp only [hmask]
    rfl
  · have hlength : s.reports.length < Config.reportDepth := hroom
    simp only [hmask, hlength, if_true]
    rfl
  · have hlength : ¬ s.reports.length < Config.reportDepth := Nat.not_lt.2 hfull
    simp only [hmask, hlength, if_true, if_false]
    rfl

/-! ## The one-second step -/

/-- Settles O48: the fields of `State.secondStep`. -/
theorem secondStepCounts : Obligations.SecondStepCounts := by
  intro s
  have hclock : min Config.max32 (s.parkClock + 1) = if s.parkClock < 4294967295 then s.parkClock + 1 else 4294967295 := by
    show min 4294967295 (s.parkClock + 1) = _
    split <;> omega
  rw [← hclock]
  show Host.Outcome.next s.secondStep = _
  by_cases hparked : s.mode = .parked
  · simp only [State.secondStep, hparked, true_and, if_true]
    rfl
  · simp only [State.secondStep, hparked, false_and, if_false, ofFn_get_same]
    rfl

/-! ## Expiries -/

/-- Settles O38: each expiry by its test, `*Due_iff`. -/
theorem expiriesFollowTheirCounts : Obligations.ExpiriesFollowTheirCounts := by
  intro s b r d p e place
  refine ⟨fun h => ?_, fun h => ?_, fun h => ?_, fun h => ?_, fun h => ?_, fun h => ?_, fun h => ?_, fun h => ?_, fun h => ?_,
    fun h => ?_, fun h => ?_, fun h => ?_, fun h => ?_, fun h => ?_, fun h => ?_, fun h => ?_⟩
  · exact congrArg Host.Outcome.next (if_pos (s.silenceDue_iff.2 h))
  · exact congrArg Host.Outcome.next (if_pos ((s.windowDue_iff b).2 h))
  · exact congrArg Host.Outcome.next (if_pos ((s.suspectDue_iff r).2 h))
  · exact congrArg Host.Outcome.next (if_pos ((s.quarantineDue_iff r).2 h))
  · exact congrArg Host.Outcome.next (if_neg (mt s.silenceDue_iff.1 h))
  · exact congrArg Host.Outcome.next (if_neg (mt (s.windowDue_iff b).1 h))
  · exact congrArg Host.Outcome.next (if_neg (mt (s.suspectDue_iff r).1 h))
  · exact congrArg Host.Outcome.next (if_neg (mt (s.quarantineDue_iff r).1 h))
  · refine congrArg Host.Outcome.next (if_neg fun hdue => ?_)
    obtain ⟨hmode, hcount⟩ := s.deadlineDue_iff.1 hdue
    exact h.elim (· hmode) (· hcount)
  · refine congrArg Host.Outcome.next (if_neg fun hdue => ?_)
    obtain ⟨hstate, hcount⟩ := (s.settleDue_iff d).1 hdue
    exact h.elim (· hstate) (· hcount)
  · refine congrArg Host.Outcome.next (if_neg fun hdue => ?_)
    obtain ⟨⟨hmode, hstate⟩, hcount⟩ := (s.lingerDue_iff d).1 hdue
    exact h.elim (· hmode) (·.elim (· hstate) (· hcount))
  · refine congrArg Host.Outcome.next (if_neg fun hdue => ?_)
    obtain ⟨hmode, hcount⟩ := (s.drainDue_iff b).1 hdue
    exact h.elim (· hmode) (· hcount)
  · refine congrArg Host.Outcome.next (if_neg fun hdue => ?_)
    obtain ⟨hmode, hcount⟩ := (s.isolationDue_iff b).1 hdue
    exact h.elim (· hmode) (· hcount)
  · refine congrArg Host.Outcome.next (if_neg fun hdue => ?_)
    obtain ⟨⟨hmode, henabled⟩, hcount⟩ := (s.scheduleDue_iff e).1 hdue
    exact h.elim (· hmode) (·.elim (fun hoff => by rw [hoff] at henabled; cases henabled) (· hcount))
  · exact congrArg Host.Outcome.next (if_neg (mt s.accountingDue_iff.1 h))
  · refine congrArg Host.Outcome.next (if_neg fun hdue => ?_)
    cases hitem : s.ports[p].queue[place]? with
    | none =>
      rw [hitem] at hdue
      cases hdue
    | some i =>
      rw [hitem] at hdue
      cases i with
      | marker => cases hdue
      | frame x =>
        simp only [Option.any_some, QueueItem.overdue_frame, Bool.and_eq_true, beq_iff_eq, Bool.not_eq_true'] at hdue
        obtain ⟨hcount, hidle⟩ := hdue
        exact (h x hitem).elim (· hcount) (fun hsending => by rw [hidle] at hsending; cases hsending)

/-! ## Outputs -/

/-- Settles O32: each output by the definition that drives its pin. -/
theorem outputsFollowState : Obligations.OutputsFollowState := by
  intro s p b d
  refine ⟨?_, rfl, ?_, ?_, ?_⟩
  · have hheld : (∃ i ∈ s.ports[trunkPort].queue, i.held = true) ↔
        ∃ e : Entry, .frame e ∈ s.ports[trunkPort].queue ∧ e.hold = true := by
      constructor
      · rintro ⟨i, hi, hhold⟩
        cases i with
        | frame e => exact ⟨e, hi, hhold⟩
        | marker => cases hhold
      · rintro ⟨e, he, hhold⟩
        exact ⟨_, he, hhold⟩
    rw [← hheld]
    simp [-Fin.getElem_fin, State.wakeLine]
  · rw [State.transceiver, branchOf_portOf]
    show s.branches[b].mode.transceiver = _
    cases s.branches[b].mode <;> rfl
  · show s.domains[d].state.enabled = true ↔ _
    cases s.domains[d].state <;> decide
  · rw [State.busOutput]
    cases s.ports[p].flight with
    | none => rfl
    | some f =>
      show some (f.frame, f.frame.format == .fd) = _
      dsimp only
      cases f.frame.format <;> rfl

end Sys2Proof.Machine
end

section
/-! The part's own steps (O2): the first that is due, and a millisecond of the time base. -/

namespace Sys2Proof.Machine

/-! ## The first step that is due -/

/-- The first command of a list whose mark is set. -/
def firstOf (l : List (Bool × Instr)) : Option Instr := (l.find? (·.1)).map (·.2)

theorem findSome?_id_cons (c : Option Instr) (l : List (Option Instr)) :
    (c :: l).findSome? id = c.or (l.findSome? id) := by
  cases c <;> rfl

theorem firstOf_append (l m : List (Bool × Instr)) : firstOf (l ++ m) = (firstOf l).or (firstOf m) := by
  rw [firstOf, List.find?_append]
  cases h : l.find? (·.1) <;> simp [firstOf, h]

theorem firstOf_single (due : Bool) (c : Instr) : firstOf [(due, c)] = if due then some c else none := by
  cases due <;> rfl

theorem firstOf_pair (due due' : Bool) (c c' : Instr) :
    firstOf [(due, c), (due', c')] = (firstOf [(due, c)]).or (firstOf [(due', c')]) := firstOf_append [_] [_]

theorem firstOf_map {α : Type} (xs : List α) (test : α → Bool) (cmd : α → Instr) :
    firstOf (xs.map fun x => (test x, cmd x)) = firstDue xs test cmd := (firstDue_eq xs test cmd).symm

theorem firstOf_flatMap {α : Type} (xs : List α) (f : α → List (Bool × Instr)) :
    firstOf (xs.flatMap f) = xs.findSome? fun x => firstOf (f x) := by
  induction xs with
  | nil => rfl
  | cons x xs ih =>
    rw [List.flatMap_cons, firstOf_append, ih, List.findSome?_cons]
    cases firstOf (f x) <;> rfl

/-- The first place of a list that meets a test is the first index whose item meets it. -/
theorem findIdx?_eq_range_find? {α : Type} (q : List α) (test : α → Bool) :
    q.findIdx? test = (List.range q.length).find? fun n => q[n]?.any test := by
  ext i
  rw [List.findIdx?_eq_some_iff_getElem, List.find?_range_eq_some]
  constructor
  · rintro ⟨hlt, hi, hbefore⟩
    refine ⟨by simpa [hlt] using hi, List.mem_range.2 hlt, fun j hj => ?_⟩
    have hjlt := hj.trans hlt
    simpa [hjlt] using hbefore j hj
  · rintro ⟨hi, hmem, hbefore⟩
    have hlt := List.mem_range.1 hmem
    refine ⟨hlt, by simpa [hlt] using hi, fun j hj => ?_⟩
    have hjlt := hj.trans hlt
    simpa [hjlt] using hbefore j hj

section
variable (s : State)

theorem State.dueDeadline_eq_firstOf : s.dueDeadline =
    firstOf (allPorts.flatMap fun p => (List.range s.ports[p].queue.length).map fun n =>
      (s.ports[p].queue[n]?.any QueueItem.overdue, Instr.deadlineExpiry p n)) := by
  rw [firstOf_flatMap, State.dueDeadline]
  congr 1
  funext p
  rw [firstOf_map, firstDue, findIdx?_eq_range_find?]

theorem State.headRequest_eq_firstOf : s.headRequest.map rowOf =
    firstOf (s.requests.head?.toList.map fun req => (s.response == none && !s.warmResetPending, rowOf req)) := by
  unfold State.headRequest
  cases s.requests.head? <;> cases s.response <;> cases s.warmResetPending <;> rfl

/-- The classifier can take a frame where one has landed. -/
theorem State.nextPort_isSome : s.nextPort.isSome = allPorts.any fun p => s.ports[p].landing != [] := by
  have hcyclic : ∀ q p : Port, p ∈ roundRobin q := by decide
  rw [Bool.eq_iff_iff, State.nextPort, List.find?_isSome, List.any_eq_true]
  constructor
  · rintro ⟨p, -, h⟩
    exact ⟨p, mem_allPorts p, by simpa using h⟩
  · rintro ⟨p, -, h⟩
    exact ⟨p, hcyclic _ p, by simpa using h⟩

/-- The head entry of a queue may have another attempt. -/
def headReady (q : List QueueItem) : Bool :=
  match q with
  | .frame e :: _ => decide (e.attempts < 3)
  | _ => false

theorem State.canBegin_trunk : s.canBegin trunkPort = s.mayBegin trunkPort := by
  unfold State.canBegin State.mayBegin
  cases s.ports[trunkPort].flight <;> cases s.response <;> cases s.trunk <;> cases s.reports <;> rfl

theorem State.mayBegin_branch (b : Branch) : s.mayBegin (portOf b) =
    (s.ports[portOf b].flight == none && ((s.branches[b].mode == .awake || s.branches[b].mode == .draining)
      && !s.branches[b].closing && headReady s.ports[portOf b].queue)) := by
  have hany : ∀ k : Branch → Bool, (allBranches.any fun c => portOf b == portOf c && k c) = k b := fun k => by
    rw [Bool.eq_iff_iff, List.any_eq_true]
    constructor
    · rintro ⟨c, -, h⟩
      rw [Bool.and_eq_true, beq_iff_eq] at h
      obtain ⟨hport, hk⟩ := h
      rwa [portOf_injective hport]
    · exact fun h => ⟨b, (by decide : ∀ c : Branch, c ∈ allBranches) b, by rw [Bool.and_eq_true]; exact ⟨beq_self_eq_true _, h⟩⟩
  have hbranch : portOf b ≠ trunkPort := by revert b; decide
  rw [← hany fun c => (s.branches[c].mode == .awake || s.branches[c].mode == .draining) && !s.branches[c].closing
    && headReady s.ports[portOf b].queue]
  unfold State.mayBegin
  simp only [if_neg hbranch, Bool.and_assoc]
  rfl

theorem State.canBegin_eq_mayBegin (p : Port) : s.canBegin p = s.mayBegin p := by
  cases hp : branchOf p with
  | none =>
    obtain rfl := (branchOf_eq_none_iff p).1 hp
    exact s.canBegin_trunk
  | some b =>
    obtain rfl := (branchOf_eq_some_iff p b).1 hp
    rw [s.mayBegin_branch]
    unfold State.canBegin State.transmits
    rw [hp]
    cases s.ports[portOf b].flight <;> rfl

theorem State.nextStep_eq_firstOf : s.nextStep = firstOf s.ownSteps := by
  have hmay : s.mayBegin = s.canBegin := funext fun p => (s.canBegin_eq_mayBegin p).symm
  have hwarm : (if s.warmResetPending = true ∧ s.response = none then some (Instr.warmResetTakesPlace s.strapPins) else none)
      = firstOf [(s.warmResetPending && s.response == none, .warmResetTakesPlace s.strapPins)] := by
    rw [firstOf_single]
    cases s.warmResetPending <;> cases s.response <;> rfl
  have htakes : (if s.classification.isNone ∧ s.mode ≠ .fallback ∧ s.nextPort.isSome then some Instr.classifierTakesFrame
      else none) = firstOf [(s.classification == none && s.mode != .fallback && allPorts.any fun p => s.ports[p].landing != [],
        .classifierTakesFrame)] := by
    rw [firstOf_single, ← s.nextPort_isSome]
    cases s.classification <;> cases s.mode <;> cases s.nextPort <;> rfl
  have hdispatch : (if s.classification.isSome then some Instr.classificationDispatch else none)
      = firstOf [(s.classification != none, .classificationDispatch)] := by
    rw [firstOf_single]
    cases s.classification <;> rfl
  unfold State.ownSteps
  dsimp only
  simp only [firstOf_append, hmay, firstOf_map, firstOf_pair, ← hwarm, ← htakes, ← hdispatch, firstOf_single]
  unfold State.nextStep State.dueSteps State.dueExpiries
  rw [s.dueDeadline_eq_firstOf, s.headRequest_eq_firstOf]
  simp only [List.cons_append, List.nil_append, findSome?_id_cons, List.findSome?_nil, Option.or_none, Option.or_assoc,
    firstOf_map]
  rfl

theorem firstOf_of_split {l earlier later : List (Bool × Instr)} {c : Instr} (h : l = earlier ++ (true, c) :: later)
    (hearlier : ∀ x ∈ earlier, x.1 = false) : firstOf l = some c := by
  have hnone : earlier.find? (·.1) = none := List.find?_eq_none.2 fun x hx => by simp [hearlier x hx]
  rw [h, firstOf, List.find?_append, hnone]
  rfl

theorem firstOf_none {l : List (Bool × Instr)} (h : ∀ x ∈ l, x.1 = false) : firstOf l = none := by
  have hnone : l.find? (·.1) = none := List.find?_eq_none.2 fun x hx => by simp [h x hx]
  rw [firstOf, hnone]
  rfl

/-! ## A millisecond -/

theorem State.belowSecond_domain (d : DomainIx) : s.belowSecond.domains[d] = s.millisecond.domains[d] := by
  have hmillisecond : s.millisecond.domains[d] = match s.domains[d].state with
      | .powerUp => { s.domains[d] with settle := s.domains[d].settle - 1 }
      | .on =>
        if s.mode = .parked ∧ (s.phase + 1) % 100 = 0 then { s.domains[d] with remaining := s.domains[d].remaining - 1 }
        else s.domains[d]
      | .off | .queued | .releasing | .fault => s.domains[d] := ofFn_get _ d
  have hms : s.msStep.domains[d] =
      if s.domains[d].state = .powerUp then { s.domains[d] with settle := s.domains[d].settle - 1 } else s.domains[d] :=
    s.mapDomains_get _ d
  have hten : ∀ u : State, u.tenMsStep.domains = u.domains := fun u => by rw [State.tenMsStep, State.mapBranches_domains]
  have hhundred : ∀ u : State, u.hundredMsStep.domains[d] =
      if u.mode = .parked ∧ u.domains[d].state = .on then { u.domains[d] with remaining := u.domains[d].remaining - 1 }
      else u.domains[d] := fun u => by
    unfold State.hundredMsStep
    by_cases hparked : u.mode = .parked
    · simp only [hparked, if_true, true_and]
      rw [State.mapDomains_get]
    · simp only [hparked, if_false, false_and]
  have hbelow : s.belowSecond.domains[d] =
      if (s.phase + 1) % 100 = 0 ∧ s.mode = .parked ∧ s.msStep.domains[d].state = .on then
        { s.msStep.domains[d] with remaining := s.msStep.domains[d].remaining - 1 }
      else s.msStep.domains[d] := by
    have hmode : s.msStep.mode = s.mode := by simp only [State.msStep, State.mapDomains_mode]
    have htenmode : ∀ u : State, u.tenMsStep.mode = u.mode := fun u => by rw [State.tenMsStep, State.mapBranches_mode]
    unfold State.belowSecond
    by_cases h10 : (s.phase + 1) % 10 = 0 <;> by_cases h100 : (s.phase + 1) % 100 = 0 <;>
      simp only [h10, h100, if_true, if_false, hhundred, hten, htenmode, hmode, true_and, false_and]
  rw [hmillisecond, hbelow, hms]
  generalize s.domains[d] = x
  cases hx : x.state <;> simp [hx, and_comm]

theorem State.hundredMsStep_branches (u : State) : u.hundredMsStep.branches = u.branches := by
  unfold State.hundredMsStep
  dsimp only
  split
  · exact State.mapDomains_branches _ _
  · rfl

theorem State.belowSecond_branches : s.belowSecond.branches = Vector.ofFn fun b : Branch =>
    { s.branches[b] with
      drainTimer := if (s.phase + 1) % 10 = 0 then s.branches[b].drainTimer.map (· - 1) else s.branches[b].drainTimer } := by
  have hms : s.msStep.branches = s.branches := by simp only [State.msStep, State.mapDomains_branches]
  have hten : ∀ u : State, u.tenMsStep.branches = Vector.ofFn fun b : Branch =>
      { u.branches[b] with drainTimer := u.branches[b].drainTimer.map (· - 1) } := fun _ => rfl
  unfold State.belowSecond
  dsimp only
  by_cases h : (s.phase + 1) % 10 = 0
  · simp only [h, if_true]
    split
    · rw [State.hundredMsStep_branches, hten, hms]
    · rw [hten, hms]
  · simp only [h, if_false]
    rw [ofFn_get_same]
    split
    · rw [State.hundredMsStep_branches, hms]
    · exact hms

/-- The shorter steps leave everything but the account's timer, the silence timer, branches and domains. -/
theorem State.belowSecond_frame : ∃ (bs : Vector BranchState 6) (ds : Vector Domain 16), s.belowSecond =
    { s with
      account := { s.account with timer := s.account.timer - 1 }
      silence := if (s.phase + 1) % 100 = 0 then s.silence.map (· - 1) else s.silence
      branches := bs, domains := ds } := by
  have hms : ∃ ds, s.msStep = { s with account := { s.account with timer := s.account.timer - 1 }, domains := ds } :=
    ⟨_, rfl⟩
  have hten : ∀ u : State, ∃ bs, u.tenMsStep = { u with branches := bs } := fun u => ⟨_, rfl⟩
  have hhundred : ∀ u : State, ∃ ds, u.hundredMsStep = { u with silence := u.silence.map (· - 1), domains := ds } :=
    fun u => by
      unfold State.hundredMsStep
      dsimp only
      split <;> exact ⟨_, rfl⟩
  obtain ⟨ds, hms⟩ := hms
  unfold State.belowSecond
  dsimp only
  rw [hms]
  split <;> split
  · obtain ⟨bs, hten⟩ := hten { s with account := { s.account with timer := s.account.timer - 1 }, domains := ds }
    rw [hten]
    obtain ⟨ds', hhundred⟩ := hhundred
      { s with account := { s.account with timer := s.account.timer - 1 }, domains := ds, branches := bs }
    exact ⟨bs, ds', hhundred⟩
  · obtain ⟨ds', hhundred⟩ := hhundred { s with account := { s.account with timer := s.account.timer - 1 }, domains := ds }
    exact ⟨s.branches, ds', hhundred⟩
  · obtain ⟨bs, hten⟩ := hten { s with account := { s.account with timer := s.account.timer - 1 }, domains := ds }
    exact ⟨bs, ds, hten⟩
  · exact ⟨s.branches, ds, rfl⟩

/-- The shorter steps of a millisecond, field by field. -/
theorem State.millisecond_eq : s.millisecond =
    { s.belowSecond with phase := if (s.phase + 1) % 1000 = 0 then 0 else s.phase + 1 } := by
  have hdomains : s.belowSecond.domains = s.millisecond.domains := by
    ext i hi
    exact s.belowSecond_domain ⟨i, hi⟩
  have hbranches := s.belowSecond_branches
  obtain ⟨bs, ds, hframe⟩ := s.belowSecond_frame
  rw [hframe] at hdomains hbranches
  obtain rfl : ds = s.millisecond.domains := hdomains
  obtain rfl := hbranches
  rw [hframe]
  rfl

/-- Settles O2: the own steps are the due ones in their order, and a millisecond of the time base is its own step. -/
theorem idleStepTakesWhatIsDue : Obligations.IdleStepTakesWhatIsDue := by
  intro s earlier later c hqueue
  have hstep : step s = match s.nextStep with
      | some c => exec c s
      | none => .next s.advance := by
    rw [step, hqueue] <;> rfl
  rw [hstep, s.nextStep_eq_firstOf]
  constructor
  · intro hsplit hearlier
    rw [firstOf_of_split hsplit hearlier]
  · intro hnone
    rw [firstOf_none hnone]
    show Host.Outcome.next s.advance = _
    rw [s.advance_eq, s.millisecond_eq]
    split
    · show _ = Host.Outcome.next _
      congr 1
      unfold State.secondStep
      by_cases hparked : s.belowSecond.mode = .parked
      · simp only [hparked, if_true]
        rfl
      · simp only [hparked, if_false]
        rfl
    · rfl

end

end Sys2Proof.Machine
end

section
/-! Classification (O22, O24), attempts that begin (O31), and responses and reports as frames (O33). -/

namespace Sys2Proof.Machine

/-! ## Searches in ascending order -/

/-- The least index that meets a test is what a search in ascending order finds. -/
theorem find?_finRange_of_least {n : Nat} {test : Fin n → Bool} {j : Fin n} (hj : test j = true)
    (hleast : ∀ k : Fin n, k < j → test k = false) : (List.finRange n).find? test = some j := by
  rw [List.find?_eq_some_iff_getElem]
  refine ⟨hj, j.val, by simp, by simp, fun k hk => ?_⟩
  have hbelow := hleast ⟨k, hk.trans j.isLt⟩ hk
  simpa using hbelow

theorem find?_of_none {α : Type} {l : List α} {test : α → Bool} (h : ∀ x, test x = false) : l.find? test = none :=
  List.find?_eq_none.2 fun x _ => by simp [h x]

/-! ## Classification -/

/-- Settles O22: the search of `State.nextPort` in ascending distance from the pointer. -/
theorem classifierTakesPortsInTurn : Obligations.ClassifierTakesPortsInTurn := by
  intro s j f rest hidle hmode
  have htake : exec .classifierTakesFrame s = match s.nextPort with
      | none => .next s
      | some p =>
        match s.ports[p].landing with
        | [] => .next s
        | f :: rest => .next (s.take p f rest) := by
    have hbusy : ¬ (s.classification.isSome ∨ s.mode = .fallback) := by
      rw [hidle]
      exact fun h => h.elim (fun h => by cases h) hmode
    exact if_neg hbusy
  have hsearch : s.nextPort =
      ((List.finRange 7).find? fun k => !s.ports[s.pointer + 1 + k].landing.isEmpty).map (s.pointer + 1 + ·) := by
    rw [State.nextPort, roundRobin, List.find?_map]
    rfl
  rw [htake, hsearch]
  dsimp only
  constructor
  · intro hbefore hlanding
    rw [find?_finRange_of_least (j := j) (by rw [hlanding]; rfl) fun k hk => by rw [hbefore k hk]; rfl]
    dsimp only [Option.map_some]
    rw [hlanding]
    have hmark : (s.ports[s.pointer + 1 + j].overrun && !rest.isEmpty) =
        if rest = [] then false else s.ports[s.pointer + 1 + j].overrun := by
      cases rest <;> simp
    rw [← hmark]
    rfl
  · intro hnone
    rw [find?_of_none fun k => by rw [hnone]; rfl]
    rfl

theorem State.isRequest_iff (s : State) (p : Port) (f : Frame) :
    s.isRequest p f = true ↔ p = trunkPort ∧ f.kind = .base ∧ f.id = Config.mreq s.strap := by
  simp [State.isRequest, and_assoc]

theorem Rule.takesPart_iff (x : Rule) :
    x.takesPart = true ↔ x.record.valid = true ∧ x.record.enabled = true ∧ x.quarantine = none := by
  simp [Rule.takesPart, and_assoc]

/-- Settles O24: the branches of `State.classify`, with the walk as a search in ascending order. -/
theorem verdictFollowsModeAndTable : Obligations.VerdictFollowsModeAndTable := by
  intro s p f r
  dsimp only
  rw [← s.isRequest_iff p f]
  have hit : ∀ q : RuleIx, (s.rules[q].record.valid = true ∧ s.rules[q].record.enabled = true
      ∧ s.rules[q].quarantine = none ∧ s.rules[q].record.accepts p f = true) ↔
        (s.rules[q].takesPart && s.rules[q].record.accepts p f) = true := fun q => by
    rw [Bool.and_eq_true, Rule.takesPart_iff, and_assoc, and_assoc]
  simp only [hit]
  have hwalked : s.isRequest p f = false → s.mode = .drive ∨ s.mode = .parked → s.classify p f = match s.walk p f with
      | some r => .matched (s.rules[r].record.toMatch r p f)
      | none =>
        match s.ports[p].params.noMatch with
        | .pass => .pass s.ports[p].params.forward
        | .drop => .dropped := by
    intro hrequest hmode
    unfold State.classify
    rw [hrequest]
    rcases hmode with h | h <;> rw [h] <;> rfl
  refine ⟨fun h => ?_, fun h hmode => ?_, fun ⟨h, hmode⟩ hhit hleast => ?_, fun ⟨h, hmode⟩ hnone => ?_⟩
  · rw [State.classify, h]
    rfl
  · rw [State.classify, Bool.eq_false_of_not_eq_true h, hmode]
    rfl
  · rw [hwalked (Bool.eq_false_of_not_eq_true h) hmode, State.walk, allRules,
      find?_finRange_of_least hhit fun k hk => Bool.eq_false_of_not_eq_true (hleast k hk)]
    rfl
  · rw [hwalked (Bool.eq_false_of_not_eq_true h) hmode, State.walk,
      find?_of_none fun k => Bool.eq_false_of_not_eq_true (hnone k)]
    dsimp only
    cases s.ports[p].params.noMatch <;> rfl

/-! ## Attempts that begin -/

theorem State.beginEntry_of_head {s : State} {p : Port} {e : Entry} {rest : List QueueItem}
    (h : s.ports[p].queue = .frame e :: rest) : s.beginEntry p =
      if e.attempts < 3 then
        s.putPort p
          { s.ports[p] with
            queue := .frame { e with attempts := e.attempts + 1, sending := true } :: rest
            flight := some { source := .entry, frame := e.frame } }
      else s := by
  rw [State.beginEntry, h]
  rfl

/-- Settles O31: the branches of `State.beginTrunk` and `State.beginBranch`. -/
theorem attemptsBeginByPreference : Obligations.AttemptsBeginByPreference := by
  intro s b p r x later e rest
  dsimp only
  have hexec : exec (.transmissionAttempt p) s = if s.ports[p].flight.isSome then .next s
      else
        match branchOf p with
        | none => .next s.beginTrunk
        | some b => .next (s.beginBranch b) := rfl
  rw [hexec]
  constructor
  · rintro rfl hqueue
    rw [branchOf_portOf]
    have hbranch : s.beginBranch b = if ((s.branches[b].mode = .awake ∨ s.branches[b].mode = .draining)
        ∧ s.branches[b].closing = false) then s.beginEntry (portOf b) else s := by
      rw [State.beginBranch, State.transmits, branchOf_portOf]
      simp only [Bool.or_eq_true, beq_iff_eq]
    dsimp only
    rw [hbranch, State.beginEntry_of_head hqueue]
    refine ⟨fun hawake hflight hleft => ?_, fun hnot => ?_⟩
    · rw [if_neg (by rw [hflight]; decide), if_pos hawake, if_pos hleft]
    · split
      · rfl
      · rename_i hflight
        have hnone : s.ports[portOf b].flight = none := Option.not_isSome_iff_eq_none.1 hflight
        dsimp only
        split
        · rename_i hawake
          rw [if_neg fun hleft => hnot ⟨hawake, hnone, hleft⟩]
        · rfl
  · rintro rfl hflight
    have hbranch : branchOf trunkPort = none := rfl
    rw [if_neg (by rw [hflight]; decide), hbranch]
    dsimp only
    refine ⟨fun hresponse hleft => ?_, fun hresponse hactive hreports hleft => ?_,
      fun hresponse hactive hreports hqueue hleft => ?_, fun hresponse hquiet => ?_⟩
    · rw [State.beginTrunk, hresponse]
      exact congrArg Host.Outcome.next (if_pos hleft)
    · rw [State.beginTrunk, hresponse]
      dsimp only
      rw [if_pos hactive, hreports]
      exact congrArg Host.Outcome.next (if_pos hleft)
    · rw [State.beginTrunk, hresponse]
      dsimp only
      rw [if_pos hactive, hreports]
      dsimp only
      rw [State.beginEntry_of_head hqueue, if_pos hleft]
    · rw [State.beginTrunk, hresponse]
      dsimp only
      rw [if_neg (by rw [hquiet]; decide)]

/-! ## Frames of responses and reports -/

/-- The least FD length that holds a number of bytes. -/
theorem fdLength_least : ∀ n : Fin 65, 8 < n.val →
    n.val ≤ fdLength n.val ∧ fdLength n.val ∈ fdLengths ∧ ∀ m ∈ fdLengths, n.val ≤ m → fdLength n.val ≤ m := by
  decide

/-- Settles O33: the layouts of `responseFrame` and `reportFrame`. -/
theorem responsesAndReportsAsFrames : Obligations.ResponsesAndReportsAsFrames := by
  intro strap bytes r
  dsimp only
  refine ⟨?_, ?_, fun hshort => ?_, fun hlong hmost => ?_, ?_⟩
  · unfold responseFrame
    split <;> rfl
  · have hid : Config.mrsp strap = BitVec.ofNat 29 ([0x6C1, 0x6D1, 0x6E1, 0x5C1].getD strap.val 0) := by
      revert strap
      decide
    rw [← hid]
    unfold responseFrame
    split <;> rfl
  · rw [responseFrame, if_pos hshort]
    exact ⟨rfl, rfl⟩
  · obtain ⟨hholds, hmem, hleast⟩ := fdLength_least ⟨bytes.length, Nat.lt_succ_of_le hmost⟩ hlong
    have hlength : (responseFrame strap bytes).payload.length = fdLength bytes.length := by
      rw [responseFrame, if_neg (Nat.not_le.2 hlong), List.length_append, List.length_replicate]
      dsimp only at hholds
      omega
    rw [hlength]
    refine ⟨?_, ?_, hholds, hmem, hleast⟩ <;> rw [responseFrame, if_neg (Nat.not_le.2 hlong)]
  · have hid : Config.mrep strap = BitVec.ofNat 29 ([0x6C2, 0x6D2, 0x6E2, 0x5C2].getD strap.val 0) := by
      revert strap
      decide
    rw [← hid]
    have hmarks : byte (flagBit r.lost 0 + flagBit r.urgent 1) = (if r.lost then 1 else 0) + (if r.urgent then 2 else 0) := by
      cases r.lost <;> cases r.urgent <;> rfl
    have hkind : byte (r.kind.index + 1) = match r.kind with
      | .domainFault => 0x01
      | .ruleQuarantined => 0x02
      | .portIsolated => 0x03
      | .levelChanged => 0x04
      | .batteryLow => 0x05
      | .holdOverflow => 0x06
      | .landingOverrun => 0x07
      | .scheduleSkipped => 0x08
      | .accountSaturated => 0x09
      | .fallbackEntered => 0x0A := by
      cases r.kind <;> rfl
    rw [reportFrame, Report.bytes, hmarks, hkind]
    simp only [be32, be16, byte, Nat.pow_zero, Nat.div_one, List.cons_append, List.nil_append]
    rfl

end Sys2Proof.Machine
end

section
/-! Records put in place of others, the rest of a branch, and the ends of attempts (O34, O35, O37, O44). -/

namespace Sys2Proof.Machine

/-! ## Puts -/

section
variable (s : State)

theorem State.putPort_get (p : Port) (x : PortState) : (s.putPort p x).ports[p] = x :=
  Vector.getElem_set_self p.isLt

theorem State.putBranch_get (b : Branch) (x : BranchState) : (s.putBranch b x).branches[b] = x :=
  Vector.getElem_set_self b.isLt

theorem State.putDomain_get (d : DomainIx) (x : Domain) : (s.putDomain d x).domains[d] = x :=
  Vector.getElem_set_self d.isLt

theorem State.putPort_get_ne {p q : Port} (x : PortState) (h : q ≠ p) : (s.putPort p x).ports[q] = s.ports[q] :=
  Vector.getElem_set_ne p.isLt q.isLt (fun e => h (Fin.ext e.symm))

theorem State.putBranch_get_ne {b c : Branch} (x : BranchState) (h : c ≠ b) :
    (s.putBranch b x).branches[c] = s.branches[c] :=
  Vector.getElem_set_ne b.isLt c.isLt (fun e => h (Fin.ext e.symm))

theorem State.putDomain_get_ne {d i : DomainIx} (x : Domain) (h : i ≠ d) :
    (s.putDomain d x).domains[i] = s.domains[i] :=
  Vector.getElem_set_ne d.isLt i.isLt (fun e => h (Fin.ext e.symm))

theorem State.putPort_putPort (p : Port) (x y : PortState) : (s.putPort p x).putPort p y = s.putPort p y := by
  simp only [State.putPort, Vector.set_set]

theorem State.putBranch_putBranch (b : Branch) (x y : BranchState) : (s.putBranch b x).putBranch b y = s.putBranch b y := by
  simp only [State.putBranch, Vector.set_set]

theorem State.putDomain_putDomain (d : DomainIx) (x y : Domain) : (s.putDomain d x).putDomain d y = s.putDomain d y := by
  simp only [State.putDomain, Vector.set_set]

theorem State.modPort_putPort (p : Port) (x : PortState) (f : PortState → PortState) :
    (s.putPort p x).modPort p f = s.putPort p (f x) := by
  rw [State.modPort_eq_put, State.putPort_get, State.putPort_putPort]

theorem State.modBranch_putBranch (b : Branch) (x : BranchState) (f : BranchState → BranchState) :
    (s.putBranch b x).modBranch b f = s.putBranch b (f x) := by
  rw [State.modBranch_eq_put, State.putBranch_get, State.putBranch_putBranch]

theorem State.modDomain_putDomain (d : DomainIx) (x : Domain) (f : Domain → Domain) :
    (s.putDomain d x).modDomain d f = s.putDomain d (f x) := by
  rw [State.modDomain_eq_put, State.putDomain_get, State.putDomain_putDomain]

theorem set_get_same {α : Type} {n : Nat} (v : Vector α n) (i : Fin n) : v.set i v[i] = v := by
  simp

theorem State.putPort_self (p : Port) : s.putPort p s.ports[p] = s := by
  rw [State.putPort, set_get_same]

theorem State.putBranch_self (b : Branch) : s.putBranch b s.branches[b] = s := by
  rw [State.putBranch, set_get_same]

theorem State.putDomain_self (d : DomainIx) : s.putDomain d s.domains[d] = s := by
  rw [State.putDomain, set_get_same]

/-! ## Rest -/

theorem State.goRest_eq_put {b : Branch} (hmode : s.mode = .parked) : s.goRest b =
    (s.putBranch b (s.branches[b].resting true)).putPort (portOf b)
      (s.ports[portOf b].resting s.branches[b].params.rest) := by
  unfold State.goRest State.enterBranch BranchState.resting PortState.resting
  dsimp only
  cases hrest : s.branches[b].params.rest with
  | off => rfl
  | listen =>
    dsimp only [RestState.mode]
    have hself := (s.putBranch b (s.branches[b].enter .listen).freshWindow).putPort_self (portOf b)
    rw [if_pos hmode, State.modBranch_eq_put, State.modBranch_eq_put, State.putBranch_get, State.putBranch_putBranch]
    exact hself.symm

/-- A working branch record that goes to rest. -/
theorem BranchState.resting_eq_rested (bs : BranchState) (h : bs.mode ≠ .listen) :
    ({ bs with drainTimer := none, closing := false } : BranchState).resting true = bs.rested := by
  have hquits : (bs.mode == .listen) = false := beq_eq_false_iff_ne.2 h
  unfold BranchState.resting BranchState.rested BranchState.enter
  cases bs.params.rest <;> simp [hquits, BranchState.freshWindow]

theorem PortState.resting_eq_rested (ps : PortState) (rest : RestState) :
    (ps.purged QueueItem.held).resting rest = ps.rested rest := by
  cases rest <;> rfl

/-- A branch with its queue purged and its drain stopped. -/
theorem State.purgeStop_eq_put (b : Branch) (keep : QueueItem → Bool) : (s.purge (portOf b) keep).stopDrain b =
    { (s.putBranch b { s.branches[b] with drainTimer := none, closing := false }).putPort (portOf b)
        (s.ports[portOf b].purged keep) with
      freeBuffers := s.freeBuffers + idleFrames (s.ports[portOf b].queue.filter fun i => !keep i) } := rfl

/-- The entry to rest of a branch whose queue has been purged and whose drain has been stopped, whatever becomes of
its domains in between. -/
theorem State.goRest_purgeStop {b : Branch} (ds : Vector Domain 16) (hparked : s.mode = .parked)
    (hmode : s.branches[b].mode ≠ .listen) :
    ({ (s.purge (portOf b) QueueItem.held).stopDrain b with domains := ds } : State).goRest b =
      { s.rest b with domains := ds } := by
  have hrest : ∀ (n : Nat) (x : BranchState) (y : PortState),
      x.resting true = s.branches[b].rested → y.resting x.params.rest = s.ports[portOf b].rested s.branches[b].params.rest →
      ({ (s.putBranch b x).putPort (portOf b) y with freeBuffers := n, domains := ds } : State).goRest b =
        { (s.putBranch b s.branches[b].rested).putPort (portOf b) (s.ports[portOf b].rested s.branches[b].params.rest) with
          freeBuffers := n, domains := ds } := by
    intro n x y hx hy
    have hbranch : ({ (s.putBranch b x).putPort (portOf b) y with freeBuffers := n, domains := ds } : State).branches[b] = x :=
      s.putBranch_get b x
    have hport : ({ (s.putBranch b x).putPort (portOf b) y with freeBuffers := n, domains := ds } : State).ports[portOf b] = y :=
      (s.putBranch b x).putPort_get (portOf b) y
    rw [State.goRest_eq_put _ (by exact hparked), hbranch, hport, hx, hy]
    simp only [State.putBranch, State.putPort, Vector.set_set]
  rw [State.purgeStop_eq_put]
  exact hrest _ _ _ (BranchState.resting_eq_rested _ hmode) (PortState.resting_eq_rested _ _)

theorem State.returnToRest_eq {b : Branch} (hparked : s.mode = .parked) (hmode : s.branches[b].mode ≠ .listen) :
    s.returnToRest b = s.rest b := s.goRest_purgeStop s.domains hparked hmode

theorem State.completeDrain_eq {b : Branch} (hparked : s.mode = .parked) (hmode : s.branches[b].mode ≠ .listen) :
    s.completeDrain b = s.slept b :=
  s.goRest_purgeStop (s.slept b).domains hparked hmode

end

/-! ## Drains that go on and drains that end -/

section
variable {s : State}

theorem State.settlePort_of_noDrainEnds {p : Port} (h : s.noDrainEnds p s.ports[p]) : s.settlePort p = s := by
  unfold State.settlePort
  split
  · rfl
  · rename_i b hb
    obtain rfl := (branchOf_eq_some_iff p b).1 hb
    refine if_neg ?_
    rintro ⟨hmode, hends⟩
    obtain ⟨hhead, hclosing⟩ := h b rfl hmode
    rcases hends with hmarker | ⟨hclosed, hflight⟩
    · exact hhead hmarker
    · have hsome := hclosing hclosed
      rw [hflight] at hsome
      cases hsome

theorem State.settlePort_of_drainEnds {b : Branch} (hparked : s.mode = .parked) (hmode : s.branches[b].mode = .draining)
    (hends : s.ports[portOf b].queue.head? = some .marker ∨
      s.branches[b].closing = true ∧ s.ports[portOf b].flight = none) : s.settlePort (portOf b) = s.slept b := by
  rw [State.settlePort_portOf, State.settleDrain, if_pos ⟨hmode, hends⟩]
  exact s.completeDrain_eq hparked (by rw [hmode]; decide)

end

/-! ## Candidates that leave -/

/-- A port left with a front end, and one more buffer free. -/
def State.putFreed (s : State) (p : Port) (x : PortState) : State :=
  { s.putPort p x with freeBuffers := s.freeBuffers + 1 }

/-- TP's silence timer is reloaded while the trunk is Active (R31). -/
def State.heardOn (s : State) (p : Port) : State :=
  if p = trunkPort ∧ s.trunk = .active then { s with silence := some s.silenceTime } else s

section
variable (s : State) (p : Port) (x : PortState)

theorem State.putFreed_get : (s.putFreed p x).ports[p] = x := s.putPort_get p x

theorem State.heardOn_ports : (s.heardOn p).ports = s.ports := by
  unfold State.heardOn
  split <;> rfl

theorem State.heardOn_branches : (s.heardOn p).branches = s.branches := by
  unfold State.heardOn
  split <;> rfl

theorem State.heardOn_mode : (s.heardOn p).mode = s.mode := by
  unfold State.heardOn
  split <;> rfl

theorem State.heardOn_portOf (b : Branch) : s.heardOn (portOf b) = s :=
  if_neg fun h => (by decide : ∀ c : Branch, portOf c ≠ trunkPort) b h.1

theorem State.dropAt_putPort {i : QueueItem} {rest : List QueueItem} (h : x.queue = i :: rest) :
    (s.putPort p x).dropAt p 0 = s.putFreed p { x with queue := rest } := by
  rw [State.dropAt, State.modPort_putPort, h]
  rfl

theorem State.delivered_putPort : (s.putPort p x).delivered p = (s.heardOn p).putPort p { x with discards := 0 } := by
  unfold State.delivered State.trunkDelivered State.heardOn
  dsimp only
  rw [State.modPort_putPort]
  by_cases hp : p = trunkPort
  · by_cases hactive : s.trunk = .active
    · have hactive' : (s.putPort p { x with discards := 0 }).trunk = .active := hactive
      rw [if_pos hp, if_pos hactive', if_pos ⟨hp, hactive⟩]
      rfl
    · have hactive' : ¬ (s.putPort p { x with discards := 0 }).trunk = .active := hactive
      rw [if_pos hp, if_neg hactive', if_neg fun h => hactive h.2]
  · rw [if_neg hp, if_neg fun h => hp h.1]

theorem State.delivered_putFreed : (s.putFreed p x).delivered p = (s.heardOn p).putFreed p { x with discards := 0 } := by
  have h := ({ s with freeBuffers := s.freeBuffers + 1 } : State).delivered_putPort p x
  refine h.trans ?_
  unfold State.heardOn State.putFreed
  dsimp only
  split <;> rfl

/-- A discard below the third is counted and nothing else follows. -/
theorem State.countDiscard_putPort (h : x.discards < 2) :
    (s.putPort p x).countDiscard p = s.putPort p { x with discards := x.discards + 1 } := by
  have hmin : min Config.attemptLimit (x.discards + 1) = x.discards + 1 := by
    show min 3 (x.discards + 1) = _
    omega
  have hbelow : ({ x with discards := x.discards + 1 } : PortState).discards < Config.attemptLimit := by
    show x.discards + 1 < 3
    omega
  unfold State.countDiscard
  dsimp only
  rw [State.modPort_putPort, hmin, State.putPort_get, if_pos hbelow]

theorem State.countDiscard_putFreed (h : x.discards < 2) :
    (s.putFreed p x).countDiscard p = s.putFreed p { x with discards := x.discards + 1 } :=
  ({ s with freeBuffers := s.freeBuffers + 1 } : State).countDiscard_putPort p x h

end

/-! ## The end of an attempt on the head entry -/

section
variable {s : State} {p : Port} {x : PortState} {e : Entry} {rest : List QueueItem}

theorem State.endEntry_delivered (h : x.queue = .frame e :: rest) : (s.putPort p x).endEntry p .delivered =
    ((s.heardOn p).putFreed p { x with queue := rest, discards := 0 }).settlePort p := by
  rw [State.endEntry, State.putPort_get, h]
  dsimp only
  rw [s.dropAt_putPort p x h, State.delivered_putFreed]

theorem State.endEntry_discarded (h : x.queue = .frame e :: rest) (hattempts : 3 ≤ e.attempts) :
    (s.putPort p x).endEntry p .failed = ((s.putFreed p { x with queue := rest }).countDiscard p).settlePort p := by
  have hlimit : Config.attemptLimit ≤ e.attempts := hattempts
  rw [State.endEntry, State.putPort_get, h]
  dsimp only
  rw [if_pos hlimit, s.dropAt_putPort p x h]

theorem State.endEntry_overdue (h : x.queue = .frame e :: rest) (hattempts : e.attempts < 3) (hdeadline : e.deadline = 0) :
    (s.putPort p x).endEntry p .failed = (s.putFreed p { x with queue := rest }).settlePort p := by
  have hlimit : ¬ Config.attemptLimit ≤ e.attempts := Nat.not_le.2 hattempts
  rw [State.endEntry, State.putPort_get, h]
  dsimp only
  rw [if_neg hlimit, if_pos hdeadline, s.dropAt_putPort p x h]

theorem State.endEntry_waits (h : x.queue = .frame e :: rest) (hattempts : e.attempts < 3) (hdeadline : 0 < e.deadline) :
    (s.putPort p x).endEntry p .failed =
      (s.putPort p { x with queue := .frame { e with sending := false } :: rest }).settlePort p := by
  have hlimit : ¬ Config.attemptLimit ≤ e.attempts := Nat.not_le.2 hattempts
  have hidle : (s.putPort p x).headIdle p = s.putPort p { x with queue := .frame { e with sending := false } :: rest } := by
    rw [State.headIdle, State.modPort_putPort, h]
  rw [State.endEntry, State.putPort_get, h]
  dsimp only
  rw [if_neg hlimit, if_neg hdeadline.ne', hidle]

theorem State.endRemoved_delivered : (s.putPort p x).endRemoved p .delivered =
    ((s.heardOn p).putFreed p { x with discards := 0 }).settlePort p :=
  congrArg (State.settlePort · p) (s.delivered_putFreed p x)

theorem State.endRemoved_failed : (s.putPort p x).endRemoved p .failed = (s.putFreed p x).settlePort p := rfl

theorem State.endResponse_delivered {r : Response} (h : s.response = some r) :
    s.endResponse .delivered = ({ s with response := none } : State).delivered trunkPort := by
  rw [State.endResponse, h]

theorem State.endResponse_kept {r : Response} (h : s.response = some r) (hleft : r.attempts < 3) :
    s.endResponse .failed = s := by
  have hlimit : ¬ Config.attemptLimit ≤ r.attempts := Nat.not_le.2 hleft
  rw [State.endResponse, h]
  exact if_neg hlimit

theorem State.endResponse_discarded {r : Response} (h : s.response = some r) (hthird : 3 ≤ r.attempts) :
    s.endResponse .failed = ({ s with response := none } : State).countDiscard trunkPort := by
  have hlimit : Config.attemptLimit ≤ r.attempts := hthird
  rw [State.endResponse, h]
  exact if_pos hlimit

theorem State.endReport_delivered {r : Report} {later : List Report} (h : s.reports = r :: later) :
    s.endReport .delivered = ({ s with reports := later } : State).delivered trunkPort := by
  rw [State.endReport, h]

theorem State.endReport_kept {r : Report} {later : List Report} (h : s.reports = r :: later) (hleft : r.attempts < 3) :
    s.endReport .failed = s := by
  have hlimit : ¬ Config.attemptLimit ≤ r.attempts := Nat.not_le.2 hleft
  rw [State.endReport, h]
  exact if_neg hlimit

theorem State.endReport_discarded {r : Report} {later : List Report} (h : s.reports = r :: later)
    (hthird : 3 ≤ r.attempts) :
    s.endReport .failed = ({ s with reports := later, reportsLost := true } : State).countDiscard trunkPort := by
  have hlimit : Config.attemptLimit ≤ r.attempts := hthird
  rw [State.endReport, h]
  exact if_pos hlimit

end

theorem exec_attemptEnd {s : State} {p : Port} {f : Flight} (o : AttemptOutcome) (h : s.ports[p].flight = some f) :
    exec (.attemptEnd p o) s = .next (match f.source with
      | .entry => (s.putPort p { s.ports[p] with flight := none }).endEntry p o
      | .removed => (s.putPort p { s.ports[p] with flight := none }).endRemoved p o
      | .response => (s.putPort p { s.ports[p] with flight := none }).endResponse o
      | .report => (s.putPort p { s.ports[p] with flight := none }).endReport o) := by
  show execAttemptEnd p o s = _
  rw [execAttemptEnd, h]
  rfl

/-- Settles O34: each kind of candidate, its drain going on where its port is a Draining branch. -/
theorem deliveredRemovesCandidate : Obligations.DeliveredRemovesCandidate := by
  intro s p f e rest hflight
  dsimp only
  rw [exec_attemptEnd _ hflight]
  have goesOn : ∀ x : PortState, s.noDrainEnds p x →
      ((s.heardOn p).putFreed p x).settlePort p = (s.heardOn p).putFreed p x := fun x hx => by
    refine State.settlePort_of_noDrainEnds ?_
    rw [State.putFreed_get]
    intro b hb hmode
    have hbranches : ((s.heardOn p).putFreed p x).branches = s.branches := s.heardOn_branches p
    rw [hbranches] at hmode ⊢
    exact hx b hb hmode
  have hfreed : ∀ x : PortState, (s.heardOn p).putFreed p x =
      { (s.heardOn p).putPort p x with freeBuffers := s.freeBuffers + 1 } := fun x => by
    unfold State.heardOn
    split <;> rfl
  refine ⟨fun hsource hqueue hdrain => ?_, fun hsource hdrain => ?_, fun hsource hp hresponse => ?_,
    fun hsource hp hreports => ?_⟩
  · rw [hsource]
    dsimp only
    rw [State.endEntry_delivered (x := { s.ports[p] with flight := none }) hqueue, goesOn _ hdrain, hfreed]
    rfl
  · rw [hsource]
    dsimp only
    rw [State.endRemoved_delivered, goesOn _ hdrain, hfreed]
    rfl
  · obtain ⟨r, hr⟩ := Option.isSome_iff_exists.1 hresponse
    rw [hsource]
    dsimp only
    rw [State.endResponse_delivered (s := s.putPort p _) hr, hp]
    have h := ({ s with response := none } : State).delivered_putPort trunkPort { s.ports[trunkPort] with flight := none }
    refine congrArg Host.Outcome.next (h.trans ?_)
    unfold State.heardOn
    dsimp only
    split <;> rfl
  · obtain ⟨r, later, hr⟩ := List.exists_cons_of_ne_nil hreports
    rw [hsource]
    dsimp only
    rw [State.endReport_delivered (s := s.putPort p _) hr, hp, hr]
    have h := ({ s with reports := later } : State).delivered_putPort trunkPort { s.ports[trunkPort] with flight := none }
    refine congrArg Host.Outcome.next (h.trans ?_)
    unfold State.heardOn
    dsimp only
    split <;> rfl

/-- Settles O35: each kind of candidate, kept below the third attempt and counted as discarded at it. -/
theorem failedAttemptKeepsOrDiscards : Obligations.FailedAttemptKeepsOrDiscards := by
  intro s p f e rest r x later hflight
  dsimp only
  rw [exec_attemptEnd _ hflight]
  have goesOn : ∀ y : PortState, s.noDrainEnds p y → (s.putPort p y).settlePort p = s.putPort p y := fun y hy => by
    refine State.settlePort_of_noDrainEnds ?_
    rw [State.putPort_get]
    exact hy
  have goesOnFreed : ∀ y : PortState, s.noDrainEnds p y → (s.putFreed p y).settlePort p = s.putFreed p y := fun y hy => by
    refine State.settlePort_of_noDrainEnds ?_
    rw [State.putFreed_get]
    exact hy
  refine ⟨fun hsource hqueue => ⟨fun hleft hdeadline hdrain => ?_, fun hleft hdeadline hdrain => ?_,
    fun hthird hcount hdrain => ?_⟩, fun hsource hdrain => ?_, fun hsource hp hr => ⟨fun hleft => ?_, fun hthird hcount => ?_⟩,
    fun hsource hp hr => ⟨fun hleft => ?_, fun hthird hcount => ?_⟩⟩ <;> rw [hsource] <;> dsimp only
  · rw [State.endEntry_waits (x := { s.ports[p] with flight := none }) hqueue hleft hdeadline, goesOn _ hdrain]
  · rw [State.endEntry_overdue (x := { s.ports[p] with flight := none }) hqueue hleft hdeadline, goesOnFreed _ hdrain]
    rfl
  · rw [State.endEntry_discarded (x := { s.ports[p] with flight := none }) hqueue hthird,
      State.countDiscard_putFreed _ _ _ (by exact hcount), goesOnFreed _ hdrain]
    rfl
  · rw [State.endRemoved_failed, goesOnFreed _ hdrain]
    rfl
  · rw [State.endResponse_kept (s := s.putPort p _) hr hleft]
  · rw [State.endResponse_discarded (s := s.putPort p _) hr hthird, hp]
    have h := ({ s with response := none } : State).countDiscard_putPort trunkPort { s.ports[trunkPort] with flight := none }
      (by rw [hp] at hcount; exact hcount)
    exact congrArg Host.Outcome.next h
  · rw [State.endReport_kept (s := s.putPort p _) hr hleft]
  · rw [State.endReport_discarded (s := s.putPort p _) hr hthird, hp]
    have h := ({ s with reports := later, reportsLost := true } : State).countDiscard_putPort trunkPort
      { s.ports[trunkPort] with flight := none } (by rw [hp] at hcount; exact hcount)
    exact congrArg Host.Outcome.next h

/-! ## Deadlines and the ends of drains -/

theorem exec_deadlineExpiry_of_overdue {s : State} {p : Port} {before after : List QueueItem} {e : Entry}
    (hqueue : s.ports[p].queue = before ++ .frame e :: after) (hdeadline : e.deadline = 0) (hidle : e.sending = false) :
    exec (.deadlineExpiry p before.length) s =
      .next ((s.putFreed p { s.ports[p] with queue := before ++ after }).settlePort p) := by
  have hitem : s.ports[p].queue[before.length]? = some (.frame e) := by
    rw [hqueue, List.getElem?_append_right le_rfl, Nat.sub_self]
    rfl
  have herase : s.ports[p].queue.eraseIdx before.length = before ++ after := by
    rw [hqueue, List.eraseIdx_append_of_length_le le_rfl, Nat.sub_self]
    rfl
  show Host.Outcome.next (if s.ports[p].queue[before.length]?.any QueueItem.overdue then _ else _) = _
  rw [hitem, if_pos (by rw [Option.any_some, QueueItem.overdue_frame, hdeadline, hidle]; rfl), ← herase]
  rfl

theorem exec_deadlineExpiry_of_not_overdue {s : State} {p : Port} {before after : List QueueItem} {i : QueueItem}
    (hqueue : s.ports[p].queue = before ++ i :: after) (hi : i.overdue = false) :
    exec (.deadlineExpiry p before.length) s = .next s := by
  have hitem : s.ports[p].queue[before.length]? = some i := by
    rw [hqueue, List.getElem?_append_right le_rfl, Nat.sub_self]
    rfl
  show Host.Outcome.next (if s.ports[p].queue[before.length]?.any QueueItem.overdue then _ else _) = _
  rw [hitem, if_neg (by rw [Option.any_some, hi]; decide)]

/-- Settles O44: the place holds an overdue entry, one in transmission, or the marker. -/
theorem deadlineRemovesEntry : Obligations.DeadlineRemovesEntry := by
  intro s p before after e
  refine ⟨fun hqueue hdeadline => ⟨fun hidle hdrain => ?_, fun hsending => ?_⟩, fun hqueue => ?_⟩
  · rw [exec_deadlineExpiry_of_overdue hqueue hdeadline hidle,
      State.settlePort_of_noDrainEnds (by rw [State.putFreed_get]; exact hdrain)]
    rfl
  · exact exec_deadlineExpiry_of_not_overdue hqueue (by rw [QueueItem.overdue_frame, hsending, Bool.not_true, Bool.and_false])
  · exact exec_deadlineExpiry_of_not_overdue hqueue rfl

/-- The rest of a branch does not read what it clears of the branch's record. -/
theorem State.slept_putBranch (s : State) (b : Branch) (timer : Option Nat) (closing : Bool) :
    (s.putBranch b { s.branches[b] with drainTimer := timer, closing := closing }).slept b = s.slept b := by
  have hrested : ({ s.branches[b] with drainTimer := timer, closing := closing } : BranchState).rested
      = s.branches[b].rested := by
    unfold BranchState.rested
    cases s.branches[b].params.rest <;> rfl
  have hrest : (s.putBranch b { s.branches[b] with drainTimer := timer, closing := closing }).rest b = s.rest b := by
    unfold State.rest
    rw [State.putBranch_get, hrested, State.putBranch_putBranch]
    rfl
  unfold State.slept
  rw [hrest]
  rfl

/-- Settles O37: at each end the drain is settled on a state in which it has ended. -/
theorem drainsEndAtRest : Obligations.DrainsEndAtRest := by
  intro s b f e rest hparked hmode
  dsimp only
  have ends : ∀ x : PortState, x.queue.head? = some .marker ∨ s.branches[b].closing = true ∧ x.flight = none →
      (s.putFreed (portOf b) x).settlePort (portOf b) = (s.putFreed (portOf b) x).slept b := fun x hx =>
    State.settlePort_of_drainEnds (s := s.putFreed (portOf b) x) hparked hmode (by rw [State.putFreed_get]; exact hx)
  have hexec : s.branches[b].drainTimer = some 0 → exec (.drainLimitExpiry b) s =
      .next ((s.putBranch b { s.branches[b] with drainTimer := none, closing := true }).settlePort (portOf b)) := by
    intro htimer
    rw [State.settlePort_portOf]
    exact congrArg Host.Outcome.next (if_pos ((s.drainDue_iff b).2 ⟨hmode, htimer⟩))
  refine ⟨fun hflight hsource hqueue => ⟨fun hend => ?_, fun hclosing hleft hdeadline => ?_⟩,
    fun hflight hsource hclosing => ?_, fun hqueue hhead hdeadline hidle => ?_, fun htimer hhead => ⟨fun hflight => ?_, fun hflight => ?_⟩⟩
  · have hends : ∀ x : PortState, x.queue = rest → x.flight = none →
        x.queue.head? = some .marker ∨ s.branches[b].closing = true ∧ x.flight = none := fun x hx hnone => by
      rw [hx]
      exact hend.imp id fun hclosing => ⟨hclosing, hnone⟩
    refine ⟨?_, fun hthird hcount => ?_, fun hleft hdeadline => ?_⟩ <;> rw [exec_attemptEnd _ hflight, hsource] <;> dsimp only
    · rw [State.endEntry_delivered (x := { s.ports[portOf b] with flight := none }) hqueue, State.heardOn_portOf,
        ends _ (hends _ rfl rfl)]
      rfl
    · rw [State.endEntry_discarded (x := { s.ports[portOf b] with flight := none }) hqueue hthird,
        State.countDiscard_putFreed _ _ _ (by exact hcount), ends _ (hends _ rfl rfl)]
      rfl
    · rw [State.endEntry_overdue (x := { s.ports[portOf b] with flight := none }) hqueue hleft hdeadline,
        ends _ (hends _ rfl rfl)]
      rfl
  · rw [exec_attemptEnd _ hflight, hsource]
    dsimp only
    rw [State.endEntry_waits (x := { s.ports[portOf b] with flight := none }) hqueue hleft hdeadline]
    refine congrArg Host.Outcome.next (State.settlePort_of_drainEnds (s := s.putPort (portOf b) _) hparked hmode ?_)
    rw [State.putPort_get]
    exact .inr ⟨hclosing, rfl⟩
  · constructor <;> rw [exec_attemptEnd _ hflight, hsource] <;> dsimp only
    · rw [State.endRemoved_delivered, State.heardOn_portOf, ends _ (.inr ⟨hclosing, rfl⟩)]
      rfl
    · rw [State.endRemoved_failed, ends _ (.inr ⟨hclosing, rfl⟩)]
      rfl
  · have hdue := exec_deadlineExpiry_of_overdue (before := []) hqueue hdeadline hidle
    refine hdue.trans ?_
    rw [ends _ (.inl (by exact hhead))]
    rfl
  · have hgoes : (s.putBranch b { s.branches[b] with drainTimer := none, closing := true }).noDrainEnds (portOf b)
        s.ports[portOf b] := fun c hc _ => ⟨hhead, fun _ => hflight⟩
    rw [hexec htimer]
    exact congrArg Host.Outcome.next (State.settlePort_of_noDrainEnds hgoes)
  · rw [hexec htimer, State.settlePort_of_drainEnds (s := s.putBranch b _) hparked (by rw [State.putBranch_get]; exact hmode)
      (.inr ⟨by rw [State.putBranch_get], hflight⟩)]
    exact congrArg Host.Outcome.next (s.slept_putBranch b none true)

end Sys2Proof.Machine
end

section
/-! What the arbiter does (R103 to R105): nothing where nothing waits or no place is free, and one grant where there is
one place or one domain that waits. -/

namespace Sys2Proof.Machine

section
variable {s : State}

/-! ## The arbiter at rest -/

theorem State.chooseGrant_of_none (h : ∀ d : DomainIx, s.domains[d].state ≠ .queued) : s.chooseGrant = none := by
  cases hchoose : s.chooseGrant with
  | none => rfl
  | some g => exact absurd (beq_iff_eq.1 (s.chooseGrant_some hchoose)) (h g)

theorem State.grantRounds_of_idle (h : s.arbiterIdle) (n : Nat) : s.grantRounds n = s := by
  cases n with
  | zero => rfl
  | succ n =>
    rw [State.grantRounds]
    split
    · rename_i hfew
      rw [State.chooseGrant_of_none (h.resolve_left (Nat.not_le.2 hfew))]
    · rfl

theorem State.runArbiter_of_idle (h : s.arbiterIdle) : s.runArbiter = s := State.grantRounds_of_idle h 16

/-! ## One grant -/

theorem searchOrder_eq (p : DomainIx) : searchOrder p = (List.finRange 16).map fun i => p - 1 - i := rfl

theorem sub_sub_self : ∀ p i : DomainIx, p - 1 - (p - 1 - i) = i := by decide

/-- The arbiter's choice is the first candidate of its search (R104). -/
theorem State.chooseGrant_of_firstCandidate {g : DomainIx} (h : s.firstCandidate g) : s.chooseGrant = some g := by
  have hcandidate : ∀ i : DomainIx,
      (if allDomains.any fun d => s.isPending d && s.domains[d].pendingClass == .a then
        fun d => s.isPending d && s.domains[d].pendingClass == .a else s.isPending) i = true ↔
      s.domains[i].state = .queued ∧ ((∃ j : DomainIx, s.domains[j].state = .queued ∧ s.domains[j].pendingClass = .a) →
        s.domains[i].pendingClass = .a) := by
    intro i
    have hany : (allDomains.any fun d => s.isPending d && s.domains[d].pendingClass == .a) = true ↔
        ∃ j : DomainIx, s.domains[j].state = .queued ∧ s.domains[j].pendingClass = .a := by
      rw [List.any_eq_true]
      constructor
      · rintro ⟨j, -, hj⟩
        rw [Bool.and_eq_true] at hj
        exact ⟨j, beq_iff_eq.1 hj.1, beq_iff_eq.1 hj.2⟩
      · rintro ⟨j, hqueued, hclass⟩
        exact ⟨j, mem_allDomains j, by rw [Bool.and_eq_true]; exact ⟨beq_iff_eq.2 hqueued, beq_iff_eq.2 hclass⟩⟩
    split
    · rename_i h
      rw [Bool.and_eq_true]
      exact and_congr beq_iff_eq ⟨fun hclass _ => beq_iff_eq.1 hclass, fun hclass => beq_iff_eq.2 (hclass (hany.1 h))⟩
    · rename_i h
      exact ⟨fun hpending => ⟨beq_iff_eq.1 hpending, fun hexists => absurd (hany.2 hexists) h⟩,
        fun ⟨hpending, _⟩ => beq_iff_eq.2 hpending⟩
  obtain ⟨hg, hfirst⟩ := h
  unfold State.chooseGrant
  dsimp only
  rw [searchOrder_eq, List.find?_map,
    find?_finRange_of_least (j := s.lastGranted - 1 - g) (by
      show _ = true
      rw [Function.comp_apply, sub_sub_self]
      exact (hcandidate g).2 hg) fun k hk => ?_]
  · rw [Option.map_some, sub_sub_self]
  · by_contra hne
    have hk' := hfirst _ ((hcandidate _).1 (Bool.eq_true_of_not_eq_false hne))
    rw [sub_sub_self] at hk'
    exact absurd hk (Nat.not_lt.2 hk')

theorem State.chooseGrant_of_only {g : DomainIx} (hg : s.domains[g].state = .queued)
    (honly : ∀ i : DomainIx, i ≠ g → s.domains[i].state ≠ .queued) : s.chooseGrant = some g := by
  refine State.chooseGrant_of_firstCandidate ⟨⟨hg, ?_⟩, ?_⟩
  · rintro ⟨j, hj, hclass⟩
    rcases eq_or_ne j g with rfl | hne
    · exact hclass
    · exact absurd hj (honly j hne)
  · rintro i ⟨hi, -⟩
    rcases eq_or_ne i g with rfl | hne
    · exact le_rfl
    · exact absurd hi (honly i hne)

/-- The count after one domain has left Queued for PowerUp. -/
theorem State.granted_powerUpCount {g : DomainIx} (h : s.domains[g].state = .queued) :
    (s.granted g).powerUpCount = s.powerUpCount + 1 := by
  refine countP_of_lost (d := g) (p := fun d => decide ((s.granted g).domains[d].state = .powerUp)) ?_ ?_
    allDomains_nodup (mem_allDomains g) fun i hi => ?_
  · have hget : (s.granted g).domains[g] = { s.domains[g] with state := .powerUp, seen := true, settle := s.domains[g].settleTime } :=
      s.putDomain_get g _
    rw [hget]
    rfl
  · rw [h]
    rfl
  · have hget : (s.granted g).domains[i] = s.domains[i] := s.putDomain_get_ne _ hi
    rw [hget]

/-- One place is free and it goes to the first candidate. -/
theorem State.runArbiter_of_firstCandidate {g : DomainIx} (hfree : s.powerUpCount + 1 = s.inrushLimit)
    (hpin : s.faultInputs.getLsbD g.val = false) (h : s.firstCandidate g) : s.runArbiter = s.granted g := by
  have hidle : (s.granted g).arbiterIdle := .inl (by
    rw [State.granted_powerUpCount h.1.1, hfree]
    exact le_rfl)
  have hfew : s.powerUpCount < s.inrushLimit := by omega
  rw [State.runArbiter, State.grantRounds, if_pos hfew, State.chooseGrant_of_firstCandidate h]
  dsimp only
  rw [if_neg (by rw [hpin]; decide)]
  exact State.grantRounds_of_idle hidle 15

/-- One domain alone waits while a place is free. -/
theorem State.runArbiter_of_only {g : DomainIx} (hfew : s.powerUpCount < s.inrushLimit)
    (hpin : s.faultInputs.getLsbD g.val = false) (hg : s.domains[g].state = .queued)
    (honly : ∀ i : DomainIx, i ≠ g → s.domains[i].state ≠ .queued) : s.runArbiter = s.granted g := by
  have hidle : (s.granted g).arbiterIdle := .inr fun i => by
    rcases eq_or_ne i g with rfl | hne
    · have hget : (s.granted i).domains[i] = _ := s.putDomain_get i _
      rw [hget]
      exact nofun
    · have hget : (s.granted g).domains[i] = s.domains[i] := s.putDomain_get_ne _ hne
      rw [hget]
      exact honly i hne
  rw [State.runArbiter, State.grantRounds, if_pos hfew, State.chooseGrant_of_only hg honly]
  dsimp only
  rw [if_neg (by rw [hpin]; decide)]
  exact State.grantRounds_of_idle hidle 15

/-- One domain alone waits while a place is free, and its fault input is asserted. -/
theorem State.runArbiter_of_faulted {g : DomainIx} (hfew : s.powerUpCount < s.inrushLimit)
    (hpin : s.faultInputs.getLsbD g.val = true) (hg : s.domains[g].state = .queued)
    (honly : ∀ i : DomainIx, i ≠ g → s.domains[i].state ≠ .queued) : s.runArbiter =
      ({ s.putDomain g s.domains[g].grantedInFault with lastGranted := g } : State).reportFault g .powerUp := by
  have hidle : ({ s.putDomain g s.domains[g].grantedInFault with lastGranted := g } : State).arbiterIdle := .inr fun i => by
    rcases eq_or_ne i g with rfl | hne
    · have hget : (s.putDomain i s.domains[i].grantedInFault).domains[i] = _ := s.putDomain_get i _
      show (s.putDomain i s.domains[i].grantedInFault).domains[i].state ≠ _
      rw [hget]
      exact nofun
    · have hget : (s.putDomain g s.domains[g].grantedInFault).domains[i] = s.domains[i] := s.putDomain_get_ne _ hne
      show (s.putDomain g s.domains[g].grantedInFault).domains[i].state ≠ _
      rw [hget]
      exact honly i hne
  rw [State.runArbiter, State.grantRounds, if_pos hfew, State.chooseGrant_of_only hg honly]
  dsimp only
  rw [if_pos hpin, State.grant_faulted]
  exact congrArg (State.reportFault · g .powerUp) (State.grantRounds_of_idle hidle 15)

end

end Sys2Proof.Machine
end

section
/-! Requests: how an assigned command refuses, the reads (O51, O53), the small settings (O55), and what joins the
request queue (O54). -/

namespace Sys2Proof.Machine

/-! ## Refusals -/

section
variable {s : State} {args : List Byte} {nargs : Nat} {modes : PartMode → Bool} {act : Action} {code tag : Byte}
  {rest : List (List Byte)} {row : Instr}

theorem State.turn.execute_of_refused {r : Result} (h : s.turn (code :: tag :: args) rest)
    (hrow : rowOf (code :: tag :: args) = row) (hargs : nargs ≤ args.length) (hmode : modes s.mode = true)
    (hact : act args s = .error r) : s.execute row nargs modes act = s.answered rest [code, tag, byte r.code] := by
  have hlength : ¬ args.length < nargs := Nat.not_lt.2 hargs
  rw [h.execute_eq hrow, State.runRequest, if_neg hlength, if_pos hmode, hact]
  exact State.respond_eq_answered h.1 code tag r []

theorem State.turn.execute_of_short (h : s.turn (code :: tag :: args) rest)
    (hrow : rowOf (code :: tag :: args) = row) (hargs : args.length < nargs) :
    s.execute row nargs modes act = s.answered rest [code, tag, 3] := by
  rw [h.execute_eq hrow, State.runRequest, if_pos hargs]
  exact State.respond_eq_answered h.1 code tag .badValue []

theorem State.turn.execute_of_untagged (h : s.turn [code] rest) (hrow : rowOf [code] = row) :
    s.execute row nargs modes act = s.answered rest [code, 0, 3] := by
  rw [h.execute_eq hrow, State.runRequest]
  exact State.respond_eq_answered h.1 code 0 .badValue []

theorem State.turn.execute_of_wrongMode (h : s.turn (code :: tag :: args) rest)
    (hrow : rowOf (code :: tag :: args) = row) (hargs : nargs ≤ args.length) (hmode : modes s.mode = false) :
    s.execute row nargs modes act = s.answered rest [code, tag, 4] := by
  have hlength : ¬ args.length < nargs := Nat.not_lt.2 hargs
  rw [h.execute_eq hrow, State.runRequest, if_neg hlength, if_neg (by rw [hmode]; decide)]
  exact State.respond_eq_answered h.1 code tag .wrongMode []

end

/-! ## Operands -/

theorem index?_of_eq {n k : Nat} {i : Fin n} (h : k = i.val) : index? n k = some i := by
  subst h
  simp [index?]

theorem index?_of_ge {n k : Nat} (h : n ≤ k) : index? n k = none := by
  simp [index?, h]

theorem byte_toNat (x : Byte) : byte x.toNat = x := by
  simp [byte]

theorem byte_of_eq {x : Byte} {n : Nat} (h : x.toNat = n) : byte n = x := by
  rw [← h, byte_toNat]

/-- Two argument bytes as one number. -/
theorem append_bytes_toNat (x y : Byte) : (x ++ y).toNat = 256 * x.toNat + y.toNat := by
  have hx := x.isLt
  have hy := y.isLt
  rw [append_bytes_eq_ofNat, BitVec.toNat_ofNat]
  omega

/-! ## Read Domain -/

/-- Settles O51: the data of the domain that the index names. -/
theorem readDomainAnswer : Obligations.ReadDomainAnswer := by
  intro s tag i d more rest hmode hturn
  have hany := (anyMode_iff _).2 hmode
  refine ⟨fun hi => ?_, fun hi => ?_⟩
  · have hact : actReadDomain (i :: more) s = .error .badIndex := by
      show (need .badIndex (index? 16 i.toNat) >>= _) = _
      rw [index?_of_ge hi]
      rfl
    exact congrArg Host.Outcome.next (hturn.execute_of_refused (row := .readDomain) (nargs := 1) rfl (by simp) hany hact)
  · have hact : actReadDomain (i :: more) s = .ok (s, s.domainData d) := by
      show (need .badIndex (index? 16 i.toNat) >>= _) = _
      rw [index?_of_eq hi]
      rfl
    have hindex : byte d.val = i := byte_of_eq hi
    have hwaker : ∀ w : Option RuleIx, byte ((w.map (·.val)).getD 0xFF) =
        match w with | none => 0xFF | some r => BitVec.ofNat 8 r.val := fun w => by
      cases w <;> rfl
    have hbranch : ∀ b : Option Branch, byte (branchCode b) =
        BitVec.ofNat 8 (match b with | none => 0 | some b => b.val + 1) := fun b => by
      cases b <;> rfl
    have hanswer := hturn.execute_of_accepted (row := .readDomain) (nargs := 1) rfl (by simp) hany hact rfl
    refine congrArg Host.Outcome.next (hanswer.trans ?_)
    unfold State.domainData Domain.paramBytes
    dsimp only
    rw [hwaker, hbranch, hindex]
    rfl

/-! ## Small settings -/

/-- Settles O55: the four actions on the bytes of their arguments. -/
theorem smallSettingsAreWritten : Obligations.SmallSettingsAreWritten := by
  intro s tag x y z w more rest hmode
  have hany := (anyMode_iff _).2 hmode
  refine ⟨fun hturn => ?_, fun hturn => ?_, fun hturn => ⟨fun hx => ?_, fun hlow hhigh hpowered => ?_, fun hlow hhigh hnone => ?_⟩,
    fun hturn => ?_⟩
  · have hact : actSetReportMasks (x :: y :: z :: w :: more) s =
        .ok ({ s with reportMask := (x ++ y).setWidth 10, urgentMask := (z ++ w).setWidth 10 }, []) := by
      rw [← kindSetOf_zero x y (z :: w :: more), ← kindSetOf_zero z w more]
      rfl
    exact congrArg Host.Outcome.next
      (hturn.execute_of_accepted (row := .setReportMasks) (nargs := 4) rfl (by simp) hany hact rfl)
  · have hact : actWriteMonitor (x :: y :: z :: w :: more) s =
        if (x ++ y).toNat = 0 ∨ (z ++ w).toNat = 0 then .error .badValue
        else .ok ({ s with suspectWindow := (x ++ y).toNat, quarantineTime := (z ++ w).toNat }, []) := by
      rw [append_bytes_toNat, append_bytes_toNat]
      rfl
    refine congrArg Host.Outcome.next ?_
    by_cases hzero : (x ++ y).toNat = 0 ∨ (z ++ w).toNat = 0
    · rw [if_pos hzero] at hact ⊢
      exact hturn.execute_of_refused rfl (by simp) hany hact
    · rw [if_neg hzero] at hact ⊢
      exact hturn.execute_of_accepted rfl (by simp) hany hact rfl
  · have hact : actSetInrushLimit (x :: more) s = .error .badValue := if_pos (hx.imp Nat.lt_one_iff.2 id)
    exact congrArg Host.Outcome.next (hturn.execute_of_refused (row := .setInrushLimit) (nargs := 1) rfl (by simp) hany hact)
  · have hcount : s.powerUpCount ≠ 0 := by
      obtain ⟨d, hd⟩ := hpowered
      exact fun h => List.countP_eq_zero.1 h d (mem_allDomains d) (decide_eq_true hd)
    have hrange : ¬ (arg8 (x :: more) 0 < 1 ∨ 4 < arg8 (x :: more) 0) := not_or.2 ⟨Nat.not_lt.2 hlow, Nat.not_lt.2 hhigh⟩
    have hact : actSetInrushLimit (x :: more) s = .error .wrongState := by
      rw [actSetInrushLimit, if_neg hrange, if_pos hcount]
    exact congrArg Host.Outcome.next (hturn.execute_of_refused (row := .setInrushLimit) (nargs := 1) rfl (by simp) hany hact)
  · have hcount : ¬ s.powerUpCount ≠ 0 :=
      not_not.2 (List.countP_eq_zero.2 fun d _ h => (hnone d).1 (of_decide_eq_true h))
    have hrange : ¬ (arg8 (x :: more) 0 < 1 ∨ 4 < arg8 (x :: more) 0) := not_or.2 ⟨Nat.not_lt.2 hlow, Nat.not_lt.2 hhigh⟩
    have hidle : ({ s with inrushLimit := x.toNat } : State).runArbiter = { s with inrushLimit := x.toNat } :=
      State.runArbiter_of_idle (.inr fun d => (hnone d).2)
    have hact : actSetInrushLimit (x :: more) s = .ok ({ s with inrushLimit := x.toNat }, []) := by
      rw [actSetInrushLimit, if_neg hrange, if_neg hcount]
      exact congrArg (fun u => Except.ok (u, [])) hidle
    exact congrArg Host.Outcome.next
      (hturn.execute_of_accepted (row := .setInrushLimit) (nargs := 1) rfl (by simp) hany hact rfl)
  · have hact : (fun (_ : List Byte) (s : State) => Except.ok ({ s with warmResetPending := true }, []) : Action) more s =
        .ok ({ s with warmResetPending := true }, []) := rfl
    exact congrArg Host.Outcome.next (hturn.execute_of_accepted (row := .warmReset) (nargs := 0) rfl (by simp) hany hact rfl)

/-! ## Reads -/

theorem be16_eq (n : Nat) : be16 n = [BitVec.ofNat 8 (n / 256 ^ 1), BitVec.ofNat 8 (n / 256 ^ 0)] := by
  simp [be16, byte]

theorem be32_eq (n : Nat) : be32 n =
    [BitVec.ofNat 8 (n / 256 ^ 3), BitVec.ofNat 8 (n / 256 ^ 2), BitVec.ofNat 8 (n / 256 ^ 1), BitVec.ofNat 8 (n / 256 ^ 0)] := by
  simp [be32, byte]

/-- The four bytes of a lane test at a place of a record, zeros where there is none. -/
def laneBytes (l : List LaneTest) (k : Nat) : List Byte :=
  match l[k]? with
  | some t => [byte t.offset, t.mask, byte t.op.code, t.operand]
  | none => [0, 0, 0, 0]

theorem padTo_lanes (l : List LaneTest) (h : l.length ≤ 4) : padTo 16 (l.flatMap LaneTest.bytes) =
    laneBytes l 0 ++ laneBytes l 1 ++ laneBytes l 2 ++ laneBytes l 3 := by
  match l, h with
  | [], _ => rfl
  | [_], _ => rfl
  | [_, _], _ => rfl
  | [_, _, _], _ => rfl
  | [_, _, _, _], _ => rfl
  | _ :: _ :: _ :: _ :: _ :: _, h =>
    simp only [List.length_cons] at h
    omega

/-- Settles O53: the data of the item, and of the page, that the index names. -/
theorem readsReturnTheirItem : Obligations.ReadsReturnTheirItem := by
  intro s tag i r b e n more rest
  refine ⟨⟨be16_eq n, be32_eq n⟩, ⟨rfl, rfl, rfl, rfl, rfl, rfl, rfl, rfl, rfl, rfl, rfl, rfl, rfl, rfl⟩,
    fun hmode hturn => ⟨fun hi => ?_, fun hi hlanes => ?_⟩, fun hmode hturn => ⟨fun hi => ?_, fun hi => ?_, fun hi => ?_⟩,
    fun hmode hturn => ⟨fun hi => ?_, fun hi => ?_⟩,
    fun hmode hturn => ⟨fun hi => ?_, fun hi => ?_, fun hi => ?_, fun hi => ?_, fun hi => ?_⟩⟩ <;>
    have hany := (anyMode_iff _).2 hmode
  · have hact : actReadRule (i :: more) s = .error .badIndex := by
      show (need .badIndex (index? 128 i.toNat) >>= _) = _
      rw [index?_of_ge hi]
      rfl
    exact congrArg Host.Outcome.next (hturn.execute_of_refused (row := .readRule) (nargs := 1) rfl (by simp) hany hact)
  · have hact : actReadRule (i :: more) s = .ok (s, s.ruleData r) := by
      show (need .badIndex (index? 128 i.toNat) >>= _) = _
      rw [index?_of_eq hi]
      rfl
    have hanswer := hturn.execute_of_accepted (row := .readRule) (nargs := 1) rfl (by simp) hany hact rfl
    refine congrArg Host.Outcome.next (hanswer.trans ?_)
    unfold State.ruleData RuleRecord.image
    dsimp only
    rw [byte_of_eq hi, padTo_lanes _ hlanes]
    simp only [List.append_assoc, List.cons_append, List.nil_append]
    cases s.rules[r].record.word <;> rfl
  · have hact : actReadPort (i :: more) s = .error .badIndex := by
      show (need .badIndex (index? 7 i.toNat) >>= _) = _
      rw [index?_of_ge hi]
      rfl
    exact congrArg Host.Outcome.next (hturn.execute_of_refused (row := .readPort) (nargs := 1) rfl (by simp) hany hact)
  · have hact : actReadPort (i :: more) s = .ok (s, s.portData trunkPort) := by
      rw [hi]
      rfl
    have hanswer := hturn.execute_of_accepted (row := .readPort) (nargs := 1) rfl (by simp) hany hact rfl
    refine congrArg Host.Outcome.next (hanswer.trans ?_)
    rfl
  · have hact : actReadPort (i :: more) s = .ok (s, s.portData (portOf b)) := by
      show (need .badIndex (index? 7 i.toNat) >>= _) = _
      rw [index?_of_eq (i := portOf b) (by rw [hi]; rfl)]
      rfl
    have hport : byte (portOf b).val = i := byte_of_eq (by rw [hi]; rfl)
    have hanswer := hturn.execute_of_accepted (row := .readPort) (nargs := 1) rfl (by simp) hany hact rfl
    refine congrArg Host.Outcome.next (hanswer.trans ?_)
    unfold State.portData
    rw [branchOf_portOf]
    dsimp only
    rw [hport]
    rfl
  · have hact : actReadSchedule (i :: more) s = .error .badIndex := by
      show (need .badIndex (index? 8 i.toNat) >>= _) = _
      rw [index?_of_ge hi]
      rfl
    exact congrArg Host.Outcome.next (hturn.execute_of_refused (row := .readSchedule) (nargs := 1) rfl (by simp) hany hact)
  · have hact : actReadSchedule (i :: more) s = .ok (s, s.scheduleData e) := by
      show (need .badIndex (index? 8 i.toNat) >>= _) = _
      rw [index?_of_eq hi]
      rfl
    have hanswer := hturn.execute_of_accepted (row := .readSchedule) (nargs := 1) rfl (by simp) hany hact rfl
    refine congrArg Host.Outcome.next (hanswer.trans ?_)
    unfold State.scheduleData
    dsimp only
    rw [byte_of_eq hi]
    simp only [List.append_assoc, List.cons_append, List.nil_append]
    rfl
  · have hact : actReadStatus (i :: more) s = .error .badValue := by
      obtain ⟨k, hk⟩ := Nat.exists_eq_add_of_lt hi
      show (need .badValue (s.statusPage i.toNat) >>= _) = _
      rw [show i.toNat = k + 4 by omega]
      rfl
    exact congrArg Host.Outcome.next (hturn.execute_of_refused (row := .readStatus) (nargs := 1) rfl (by simp) hany hact)
  · subst hi
    have hact : actReadStatus (0 :: more) s = .ok ({ s with requestOverrun := false }, s.page0) := rfl
    have hanswer := hturn.execute_of_accepted (row := .readStatus) (nargs := 1) rfl (by simp) hany hact rfl
    refine congrArg Host.Outcome.next (hanswer.trans ?_)
    unfold State.page0
    simp only [List.append_assoc, List.cons_append, List.nil_append]
    rfl
  · subst hi
    have hact : actReadStatus (1 :: more) s = .ok ({ s with requestOverrun := false }, s.page1) := rfl
    have hanswer := hturn.execute_of_accepted (row := .readStatus) (nargs := 1) rfl (by simp) hany hact rfl
    exact congrArg Host.Outcome.next hanswer
  · subst hi
    have hact : actReadStatus (2 :: more) s = .ok ({ s with requestOverrun := false }, s.page2) := rfl
    have hanswer := hturn.execute_of_accepted (row := .readStatus) (nargs := 1) rfl (by simp) hany hact rfl
    refine congrArg Host.Outcome.next (hanswer.trans ?_)
    unfold State.page2
    simp only [List.append_assoc, List.cons_append, List.nil_append]
    rfl
  · subst hi
    have hact : actReadStatus (3 :: more) s = .ok ({ s with requestOverrun := false }, s.page3) := rfl
    have hanswer := hturn.execute_of_accepted (row := .readStatus) (nargs := 1) rfl (by simp) hany hact rfl
    refine congrArg Host.Outcome.next (hanswer.trans ?_)
    unfold State.page3 Budget.bytes
    simp only [List.append_assoc, List.cons_append, List.nil_append]

/-! ## Requests that join their queue, and the first checks -/

/-- The assigned command codes, each with the argument bytes that its command takes (R175). -/
def argumentBytes : List (Nat × Nat) :=
  [(0x01, 0), (0x02, 1), (0x03, 2), (0x04, 4), (0x05, 0), (0x10, 44), (0x11, 1), (0x12, 2), (0x13, 1), (0x14, 4),
   (0x20, 7), (0x21, 1), (0x22, 2), (0x23, 1), (0x30, 15), (0x31, 1), (0x32, 1), (0x40, 20), (0x50, 16), (0x51, 1),
   (0x60, 0), (0x61, 0)]

theorem rowOf_unassigned {code : Byte} (h : argumentBytes.lookup code.toNat = none) (more : List Byte) :
    rowOf (code :: more) = .unknownCommand := by
  unfold rowOf
  dsimp only
  split
  case h_23 => rfl
  all_goals
    rename_i hcode
    rw [hcode] at h
    exact absurd h (by decide)

/-- A command whose code takes a number of argument bytes is an execution with that number. -/
theorem exec_rowOf_assigned {code : Byte} {n : Nat} (h : argumentBytes.lookup code.toNat = some n) (more : List Byte) :
    ∃ modes act, ∀ s, exec (rowOf (code :: more)) s = .next (s.execute (rowOf (code :: more)) n modes act) := by
  generalize hrow : rowOf (code :: more) = row
  unfold rowOf at hrow
  dsimp only at hrow
  split at hrow
  case h_23 =>
    have hmem : code.toNat ∈ argumentBytes.map Prod.fst := by
      by_contra hnone
      have hne : ∀ p ∈ argumentBytes, (code.toNat != p.1) = true := fun p hp =>
        bne_iff_ne.2 fun e => hnone (e ▸ List.mem_map_of_mem hp)
      rw [List.lookup_eq_none_iff.2 hne] at h
      cases h
    simp only [argumentBytes, List.map_cons, List.map_nil, List.mem_cons, List.not_mem_nil, or_false] at hmem
    grind
  case h_13 hcode =>
    rw [hcode] at h
    obtain rfl : 2 = n := Option.some.inj h
    unfold forceRow at hrow
    split at hrow <;> subst hrow <;> exact ⟨_, _, fun _ => rfl⟩
  all_goals
    rename_i hcode
    rw [hcode] at h
    subst hrow
    obtain rfl := Option.some.inj h
    exact ⟨_, _, fun _ => rfl⟩

/-- Settles O54: the queue's room, and the first checks of `State.runRequest` and `State.answerUnknown`. -/
theorem requestsAreQueuedAndChecked : Obligations.RequestsAreQueuedAndChecked := by
  intro s c code tag more rest
  have hdispatch : s.classification = some c → c.verdict = .management → exec .classificationDispatch s =
      .next (({ s with classification := none } : State).queueRequest c.frame.payload) := fun hc hv => by
    show execClassificationDispatch s = _
    rw [execClassificationDispatch, hc]
    dsimp only
    rw [State.dispatch, hv]
  refine ⟨fun hc hv hroom => ?_, fun hc hv hfull => ?_, fun hturn => ?_, fun hturn hcode => ?_, fun hturn hcode => ?_,
    fun hturn hcode => ?_, fun hturn hcode => ?_⟩
  · have hlength : s.requests.length < Config.requestDepth := hroom
    rw [hdispatch hc hv]
    exact congrArg Host.Outcome.next (if_pos hlength)
  · have hlength : ¬ s.requests.length < Config.requestDepth := Nat.not_lt.2 hfull
    rw [hdispatch hc hv]
    exact congrArg Host.Outcome.next (if_neg hlength)
  · show execEmptyRequest s = _
    rw [execEmptyRequest, hturn.headRequest_eq]
    dsimp only
    rw [hturn.1]
    rfl
  · show execUnknownCommand s = _
    rw [execUnknownCommand, hturn.headRequest_eq]
    dsimp only
    rw [if_pos (rowOf_unassigned hcode _)]
    exact congrArg Host.Outcome.next (State.respond_eq_answered hturn.1 code tag .unknown [])
  · show execUnknownCommand s = _
    rw [execUnknownCommand, hturn.headRequest_eq]
    dsimp only
    rw [if_pos (rowOf_unassigned hcode _)]
    exact congrArg Host.Outcome.next (State.respond_eq_answered hturn.1 code 0 .unknown [])
  · obtain ⟨n, hn⟩ := Option.isSome_iff_exists.1 hcode
    obtain ⟨modes, act, hexec⟩ := exec_rowOf_assigned hn []
    rw [hexec, hturn.execute_of_untagged rfl]
  · obtain ⟨n, hn, hshort⟩ := (Option.any_eq_true _ _).1 hcode
    obtain ⟨modes, act, hexec⟩ := exec_rowOf_assigned hn (tag :: more)
    rw [hexec, hturn.execute_of_short rfl (of_decide_eq_true hshort)]

end Sys2Proof.Machine
end

section
/-! What the bytes of a request decode to: each decoder as its refusals and the record it gives, and the layouts read
back (O15, O16). -/

namespace Sys2Proof.Machine

/-! ## Checks in sequence -/

theorem check_eq_ite (p : Prop) [Decidable p] : check (decide p) = if ¬ p then none else some () := by
  by_cases h : p <;> simp [check, h]

theorem bind_ite_none {α β : Type} (p : Prop) [Decidable p] (x : α) (f : α → Option β) :
    ((if p then none else some x) >>= f) = if p then none else f x := by
  split <;> rfl

theorem ite_none_or {α : Type} (p q : Prop) [Decidable p] [Decidable q] (x : Option α) :
    (if p then none else if q then none else x) = if p ∨ q then none else x := by
  by_cases hp : p <;> by_cases hq : q <;> simp [hp, hq]

/-! ## Codes -/

theorem classOf_eq (n : Nat) : classOf n = if 2 < n then none else some ([WakeClass.a, .b, .c].getD n .c) := by
  match n with
  | 0 | 1 | 2 => rfl
  | n + 3 => exact (if_pos (by omega)).symm

theorem kindOf_eq (n : Nat) : kindOf n = if 2 < n then none else some ([KindTest.base, .extended, .any].getD n .any) := by
  match n with
  | 0 | 1 | 2 => rfl
  | n + 3 => exact (if_pos (by omega)).symm

theorem formatOf_eq (n : Nat) : formatOf n = if 2 < n then none else some ([FormatTest.classic, .fd, .any].getD n .any) := by
  match n with
  | 0 | 1 | 2 => rfl
  | n + 3 => exact (if_pos (by omega)).symm

theorem comparisonOf_eq (n : Nat) :
    comparisonOf n = if 3 < n then none else some ([Comparison.eq, .ne, .ge, .le].getD n .eq) := by
  match n with
  | 0 | 1 | 2 | 3 => rfl
  | n + 4 => exact (if_pos (by omega)).symm

theorem boolOf_eq (n : Nat) : boolOf n = if 1 < n then none else some (decide (n = 1)) := by
  match n with
  | 0 | 1 => rfl
  | n + 2 => exact (if_pos (by omega)).symm

theorem scheduleModeOf_eq (n : Nat) :
    scheduleModeOf n = if 1 < n then none else some (if n = 1 then .oneShot else .repeating) := by
  match n with
  | 0 | 1 => rfl
  | n + 2 => exact (if_pos (by omega)).symm

theorem restOf_eq (n : Nat) : restOf n = if 1 < n then none else some (if n = 1 then .listen else .off) := by
  match n with
  | 0 | 1 => rfl
  | n + 2 => exact (if_pos (by omega)).symm

theorem noMatchOf_eq (n : Nat) : noMatchOf n = if 1 < n then none else some (if n = 1 then .pass else .drop) := by
  match n with
  | 0 | 1 => rfl
  | n + 2 => exact (if_pos (by omega)).symm

theorem portSetOf_eq (n : Nat) : portSetOf n = if 127 < n then none else some (BitVec.ofNat 7 n) := by
  unfold portSetOf
  by_cases h : n < 0x80
  · rw [if_pos h, if_neg (by omega)]
  · rw [if_neg h, if_pos (by omega)]

/-- The branch that a branch code names. -/
def branchNamed (n : Nat) : Option Branch := if h : n - 1 < 6 ∧ n ≠ 0 then some ⟨n - 1, h.1⟩ else none

theorem branchCodeOf_eq (n : Nat) : branchCodeOf n = if 6 < n then none else some (branchNamed n) := by
  match n with
  | 0 => rfl
  | n + 1 =>
    rw [branchCodeOf, branchNamed, index?]
    by_cases h : n < 6
    · rw [dif_pos h, if_neg (by omega), dif_pos ⟨by omega, by omega⟩]
      rfl
    · rw [dif_neg h, if_pos (by omega)]
      rfl

/-! ## Records -/

theorem budgetOf_eq (a : List Byte) : budgetOf a =
    if arg32 a 4 < arg32 a 8 ∨ 1023 < arg16 a 12 ∨ 15 < arg8 a 14 ∨ 65534 < arg16 a 16 ∨ arg16 a 18 = 0 then none
    else some
      { allowance := arg32 a 0, t1 := arg32 a 4, t2 := arg32 a 8, ibase := arg16 a 12, shift := arg8 a 14,
        hmin := arg8 a 15, vcrit := arg16 a 16, lcap := arg16 a 18 } := by
  simp only [budgetOf, check_eq_ite, bind_ite_none, ite_none_or, pure]
  exact if_congr (by omega) rfl rfl

theorem domainOf_eq (a : List Byte) : domainOf a =
    if 6 < arg8 a 1 ∨ 16383 < arg16 a 2 ∨ arg8 a 4 = 0 ∨ arg16 a 5 = 0 then none
    else some
      { branch := branchNamed (arg8 a 1), ia := arg16 a 2, settleTime := arg8 a 4, defaultLinger := arg16 a 5 } := by
  simp only [domainOf, branchCodeOf_eq, check_eq_ite, bind_ite_none, ite_none_or, pure]
  exact if_congr (by omega) rfl rfl

theorem portParamsOf_eq (p : Port) (a : List Byte) : portParamsOf p a =
    if arg8 a 2 ≠ 8 ∧ arg8 a 2 ≠ 64 ∨ 96 < arg8 a 4 ∨ arg16 a 5 = 0 ∨ 1 < arg8 a 7 ∨ 127 < arg8 a 8
      ∨ (arg8 a 8).testBit p.val = true then none
    else some
      { maxPayload := arg8 a 2, holdCap := arg8 a 4, holdAge := arg16 a 5,
        noMatch := if arg8 a 7 = 1 then .pass else .drop, forward := BitVec.ofNat 7 (arg8 a 8) } := by
  have hpayload : check (arg8 a 2 == 8 || arg8 a 2 == 64) = if arg8 a 2 ≠ 8 ∧ arg8 a 2 ≠ 64 then none else some () := by
    by_cases h : arg8 a 2 = 8 <;> by_cases h' : arg8 a 2 = 64 <;> simp [check, h, h']
  have hself : check (!(BitVec.ofNat 7 (arg8 a 8)).getLsbD p.val) = if (arg8 a 8).testBit p.val = true then none else some () := by
    rw [BitVec.getLsbD_ofNat, decide_eq_true p.isLt, Bool.true_and]
    cases (arg8 a 8).testBit p.val <;> rfl
  simp only [portParamsOf, hpayload, hself, noMatchOf_eq, portSetOf_eq, check_eq_ite, bind_ite_none, ite_none_or, pure]
  refine if_congr ?_ rfl rfl
  show _ ∨ ¬ arg8 a 4 ≤ 96 ∨ _ ↔ _
  simp only [Nat.not_le, Nat.lt_one_iff]

theorem branchParamsOf_eq (a : List Byte) : branchParamsOf a =
    if 1 < arg8 a 1 ∨ arg8 a 9 = 0 ∨ arg8 a 10 = 0 ∨ arg16 a 11 = 0 ∨ arg8 a 13 = 0 then none
    else some
      { rest := if arg8 a 1 = 1 then .listen else .off, current := arg8 a 3, chatterLimit := arg8 a 9,
        chatterWindow := arg8 a 10, isolationTime := arg16 a 11, drainLimit := arg8 a 13 } := by
  simp only [branchParamsOf, restOf_eq, check_eq_ite, bind_ite_none, ite_none_or, pure]
  exact if_congr (by omega) rfl rfl

theorem silenceOf_eq (a : List Byte) : silenceOf a = if arg8 a 14 = 0 then none else some (arg8 a 14) := by
  simp only [silenceOf, check_eq_ite, bind_ite_none, pure]
  exact if_congr (by omega) rfl rfl

theorem scheduleOf_eq (a : List Byte) : scheduleOf a =
    if 1 < arg8 a 1 ∨ 1 < arg8 a 2 ∨ arg32 a 3 = 0 ∨ 86400 < arg32 a 3 ∨ arg32 a 7 = 0 ∨ 86400 < arg32 a 7
      ∨ 2 < arg8 a 13 then none
    else some
      { enabled := decide (arg8 a 1 = 1), mode := if arg8 a 2 = 1 then .oneShot else .repeating, firstDelay := arg32 a 3,
        period := arg32 a 7, wake := BitVec.ofNat 16 (arg16 a 11), cls := [WakeClass.a, .b, .c].getD (arg8 a 13) .c,
        linger := arg16 a 14, countdown := arg32 a 3 } := by
  have hdelay : ∀ n : Nat, check (decide (1 ≤ n) && decide (n ≤ Config.maxDelay)) =
      if n = 0 ∨ 86400 < n then none else some () := fun n => by
    rw [← Bool.decide_and, check_eq_ite]
    exact if_congr (by show ¬ (1 ≤ n ∧ n ≤ 86400) ↔ _; omega) rfl rfl
  simp only [scheduleOf, boolOf_eq, scheduleModeOf_eq, classOf_eq, hdelay, bind_ite_none, ite_none_or, pure]
  exact if_congr (by omega) rfl rfl

/-! ## Bytes read back -/

theorem toNat_byte {n : Nat} (h : n ≤ 255) : (byte n).toNat = n := by
  rw [byte, BitVec.toNat_ofNat]
  omega

theorem arg16_be16 {n : Nat} (h : n ≤ 65535) : arg16 (be16 n) 0 = n := by
  show 0x100 * (byte (n / 0x100)).toNat + (byte n).toNat = n
  rw [toNat_byte (by omega), byte, BitVec.toNat_ofNat]
  omega

theorem arg32_be32 {n : Nat} (h : n ≤ 4294967295) : arg32 (be32 n) 0 = n := by
  show 0x10000 * (0x100 * (byte (n / 0x1000000)).toNat + (byte (n / 0x10000)).toNat)
    + (0x100 * (byte (n / 0x100)).toNat + (byte n).toNat) = n
  simp only [byte, BitVec.toNat_ofNat]
  omega

theorem Budget.budgetOf_bytes {b : Budget} (h : b.inRange) : budgetOf b.bytes = some b := by
  obtain ⟨hallowance, ht1, ht2, hibase, hshift, hhmin, hvcrit, hlcap, hlcap'⟩ := h
  have h0 : arg32 b.bytes 0 = b.allowance := arg32_be32 hallowance
  have h4 : arg32 b.bytes 4 = b.t1 := arg32_be32 ht1
  have h8 : arg32 b.bytes 8 = b.t2 := arg32_be32 (by omega)
  have h12 : arg16 b.bytes 12 = b.ibase := arg16_be16 (by omega)
  have h14 : arg8 b.bytes 14 = b.shift := toNat_byte (by omega)
  have h15 : arg8 b.bytes 15 = b.hmin := toNat_byte hhmin
  have h16 : arg16 b.bytes 16 = b.vcrit := arg16_be16 (by omega)
  have h18 : arg16 b.bytes 18 = b.lcap := arg16_be16 hlcap'
  rw [budgetOf_eq, h0, h4, h8, h12, h14, h15, h16, h18, if_neg (by omega)]

theorem branchNamed_code (b : Option Branch) : branchNamed (branchCode b) = b ∧ branchCode b ≤ 6 := by
  cases b with
  | none => exact ⟨rfl, by decide⟩
  | some b =>
    revert b
    decide

theorem Domain.domainOf_paramBytes {x : Domain} (h : x.inRange) (i : Byte) : domainOf (i :: x.paramBytes) =
    some { branch := x.branch, ia := x.ia, settleTime := x.settleTime, defaultLinger := x.defaultLinger } := by
  obtain ⟨hia, ⟨hsettle, hsettle'⟩, hlinger, hlinger'⟩ := h
  obtain ⟨hbranch, hcode⟩ := branchNamed_code x.branch
  have h1 : arg8 (i :: x.paramBytes) 1 = branchCode x.branch := toNat_byte (by omega)
  have h2 : arg16 (i :: x.paramBytes) 2 = x.ia := arg16_be16 (by omega)
  have h4 : arg8 (i :: x.paramBytes) 4 = x.settleTime := toNat_byte (by omega)
  have h5 : arg16 (i :: x.paramBytes) 5 = x.defaultLinger := arg16_be16 hlinger'
  rw [domainOf_eq, h1, h2, h4, h5, hbranch, if_neg (by omega)]

section
variable (s : State)

/-- The common port fields stand at the same places of TP's data and of a branch's. -/
theorem State.portData_common (p : Port) (k : Nat) (hk : k ∈ [0, 2, 4, 5, 6, 7, 8]) : arg8 (s.portData p) k =
    arg8 ([byte p.val, 0, byte s.ports[p].params.maxPayload, 0, byte s.ports[p].params.holdCap]
      ++ be16 s.ports[p].params.holdAge ++ [byte s.ports[p].params.noMatch.code, byte s.ports[p].params.forward.toNat]) k := by
  unfold State.portData
  simp only [List.mem_cons, List.not_mem_nil, or_false] at hk
  split <;> rcases hk with rfl | rfl | rfl | rfl | rfl | rfl | rfl <;> rfl

theorem State.portParamsOf_portData {p : Port} (h : s.ports[p].params.inRange p) :
    portParamsOf p (s.portData p) = some s.ports[p].params := by
  obtain ⟨hpayload, hcap, hage, hage', hself⟩ := h
  have h2 : arg8 (s.portData p) 2 = s.ports[p].params.maxPayload :=
    (s.portData_common p 2 (by simp)).trans (toNat_byte (by omega))
  have h4 : arg8 (s.portData p) 4 = s.ports[p].params.holdCap :=
    (s.portData_common p 4 (by simp)).trans (toNat_byte (by omega))
  have h5 : arg16 (s.portData p) 5 = s.ports[p].params.holdAge := by
    rw [arg16, s.portData_common p 5 (by simp), s.portData_common p 6 (by simp)]
    exact arg16_be16 hage'
  have h7 : arg8 (s.portData p) 7 = s.ports[p].params.noMatch.code :=
    (s.portData_common p 7 (by simp)).trans (toNat_byte (by cases s.ports[p].params.noMatch <;> decide))
  have hforward := s.ports[p].params.forward.isLt
  have h8 : arg8 (s.portData p) 8 = s.ports[p].params.forward.toNat :=
    (s.portData_common p 8 (by simp)).trans (toNat_byte (by omega))
  have hpolicy : s.ports[p].params.noMatch.code ≤ 1
      ∧ (if s.ports[p].params.noMatch.code = 1 then NoMatchPolicy.pass else .drop) = s.ports[p].params.noMatch := by
    cases s.ports[p].params.noMatch <;> exact ⟨by decide, rfl⟩
  have hbit : s.ports[p].params.forward.toNat.testBit p.val = false := hself
  rw [portParamsOf_eq, h2, h4, h5, h7, h8, hpolicy.2, hbit, BitVec.ofNat_toNat, BitVec.setWidth_eq]
  exact if_neg (by
    rintro (h | h | h | h | h | h)
    · exact h.1 (hpayload.resolve_right h.2)
    · omega
    · omega
    · omega
    · omega
    · cases h)

theorem State.portData_portOf (b : Branch) : s.portData (portOf b) =
    [byte (portOf b).val, byte s.branches[b].params.rest.code, byte s.ports[portOf b].params.maxPayload,
      byte s.branches[b].params.current, byte s.ports[portOf b].params.holdCap] ++ be16 s.ports[portOf b].params.holdAge
      ++ [byte s.ports[portOf b].params.noMatch.code, byte s.ports[portOf b].params.forward.toNat,
        byte s.branches[b].params.chatterLimit, byte s.branches[b].params.chatterWindow]
      ++ be16 s.branches[b].params.isolationTime ++ [byte s.branches[b].params.drainLimit, 0] := by
  rw [State.portData, branchOf_portOf]

theorem State.branchParamsOf_portData {b : Branch} (h : s.branches[b].params.inRange) :
    branchParamsOf (s.portData (portOf b)) = some s.branches[b].params := by
  obtain ⟨hcurrent, ⟨hlimit, hlimit'⟩, ⟨hwindow, hwindow'⟩, ⟨htime, htime'⟩, hdrain, hdrain'⟩ := h
  have hrest : s.branches[b].params.rest.code ≤ 1
      ∧ (if s.branches[b].params.rest.code = 1 then RestState.listen else .off) = s.branches[b].params.rest := by
    cases s.branches[b].params.rest <;> exact ⟨by decide, rfl⟩
  have h1 : arg8 (s.portData (portOf b)) 1 = s.branches[b].params.rest.code := by
    rw [s.portData_portOf]
    exact toNat_byte (by omega)
  have h3 : arg8 (s.portData (portOf b)) 3 = s.branches[b].params.current := by
    rw [s.portData_portOf]
    exact toNat_byte hcurrent
  have h9 : arg8 (s.portData (portOf b)) 9 = s.branches[b].params.chatterLimit := by
    rw [s.portData_portOf]
    exact toNat_byte hlimit'
  have h10 : arg8 (s.portData (portOf b)) 10 = s.branches[b].params.chatterWindow := by
    rw [s.portData_portOf]
    exact toNat_byte hwindow'
  have h11 : arg16 (s.portData (portOf b)) 11 = s.branches[b].params.isolationTime := by
    rw [s.portData_portOf]
    exact arg16_be16 htime'
  have h13 : arg8 (s.portData (portOf b)) 13 = s.branches[b].params.drainLimit := by
    rw [s.portData_portOf]
    exact toNat_byte hdrain'
  rw [branchParamsOf_eq, h1, h3, h9, h10, h11, h13, hrest.2, if_neg (by omega)]

theorem State.silenceOf_portData (hlow : 1 ≤ s.silenceTime) (hhigh : s.silenceTime ≤ 255) :
    silenceOf (s.portData trunkPort) = some s.silenceTime := by
  have h14 : arg8 (s.portData trunkPort) 14 = s.silenceTime := toNat_byte hhigh
  rw [silenceOf_eq, h14, if_neg (by omega)]

theorem State.scheduleOf_scheduleData {e : EntryIx} (h : s.schedule[e].inRange) : scheduleOf (s.scheduleData e) =
    some { s.schedule[e] with countdown := s.schedule[e].firstDelay } := by
  obtain ⟨⟨hfirst, hfirst'⟩, ⟨hperiod, hperiod'⟩, hlinger, -⟩ := h
  have henabled : flagBit s.schedule[e].enabled 0 ≤ 1 ∧ decide (flagBit s.schedule[e].enabled 0 = 1) = s.schedule[e].enabled := by
    cases s.schedule[e].enabled <;> decide
  have hmode : s.schedule[e].mode.code ≤ 1
      ∧ (if s.schedule[e].mode.code = 1 then ScheduleMode.oneShot else .repeating) = s.schedule[e].mode := by
    cases s.schedule[e].mode <;> exact ⟨by decide, rfl⟩
  have hcls : s.schedule[e].cls.code ≤ 2
      ∧ [WakeClass.a, .b, .c].getD s.schedule[e].cls.code .c = s.schedule[e].cls := by
    cases s.schedule[e].cls <;> exact ⟨by decide, rfl⟩
  have hwake := s.schedule[e].wake.isLt
  have h1 : arg8 (s.scheduleData e) 1 = flagBit s.schedule[e].enabled 0 := toNat_byte (by omega)
  have h2 : arg8 (s.scheduleData e) 2 = s.schedule[e].mode.code := toNat_byte (by omega)
  have h3 : arg32 (s.scheduleData e) 3 = s.schedule[e].firstDelay := arg32_be32 (by omega)
  have h7 : arg32 (s.scheduleData e) 7 = s.schedule[e].period := arg32_be32 (by omega)
  have h11 : arg16 (s.scheduleData e) 11 = s.schedule[e].wake.toNat := arg16_be16 (by omega)
  have h13 : arg8 (s.scheduleData e) 13 = s.schedule[e].cls.code := toNat_byte (by omega)
  have h14 : arg16 (s.scheduleData e) 14 = s.schedule[e].linger := arg16_be16 hlinger
  rw [scheduleOf_eq, h1, h2, h3, h7, h11, h13, h14, henabled.2, hmode.2, hcls.2, BitVec.ofNat_toNat, BitVec.setWidth_eq,
    if_neg (by omega)]

end

/-- Settles O16: each decoder on the bytes of its record. -/
theorem parameterBytesRoundTrip : Obligations.ParameterBytesRoundTrip := by
  intro a x i s p b e
  exact ⟨Budget.budgetOf_bytes, fun h => Domain.domainOf_paramBytes h i, s.portParamsOf_portData, s.branchParamsOf_portData,
    s.silenceOf_portData, s.scheduleOf_scheduleData⟩

/-! ## The image of a rule record -/

theorem laneOf_eq (a : List Byte) (i : Nat) : laneOf a i =
    if 63 < arg8 a i ∨ 3 < arg8 a (i + 2) then none
    else some
      { offset := arg8 a i, mask := a.getD (i + 1) 0, op := [Comparison.eq, .ne, .ge, .le].getD (arg8 a (i + 2)) .eq,
        operand := a.getD (i + 3) 0 } := by
  simp only [laneOf, comparisonOf_eq, check_eq_ite, bind_ite_none, ite_none_or, pure]
  exact if_congr (by omega) rfl rfl

/-- The word test that the flags of its first byte and the numbers behind them name. -/
def wordNamed (flag : Nat → Bool) (op offset mask operand : Nat) : Option WordTest :=
  if flag 0 then some
    { compare := flag 1, lowFirst := flag 2, op := [Comparison.eq, .ne, .ge, .le].getD op .eq, offset := offset,
      mask := BitVec.ofNat 16 mask, operand := BitVec.ofNat 16 operand }
  else none

theorem wordTestOf_eq (a : List Byte) : wordTestOf a =
    if argBit a 29 0 = true ∧ (3 < arg8 a 30 ∨ 62 < arg8 a 31) then none
    else some (wordNamed (argBit a 29) (arg8 a 30) (arg8 a 31) (arg16 a 32) (arg16 a 34)) := by
  unfold wordTestOf wordNamed
  cases argBit a 29 0 with
  | false => simp
  | true =>
    simp only [if_true, comparisonOf_eq, check_eq_ite, bind_ite_none, ite_none_or, pure, true_and, Nat.not_le]

/-- A rule image whose lane tests and word test decode. -/
theorem ruleOf_eq {a : List Byte} {lanes : List LaneTest} (hlanes : lanesOf a (arg8 a 12) 13 = some lanes) : ruleOf a =
    if 127 < arg8 a 1 ∨ arg8 a 2 % 4 = 3 ∨ arg8 a 2 / 4 % 4 = 3 ∨ arg8 a 2 / 16 % 4 = 3
      ∨ 2 ^ 29 ≤ arg32 a 3 ∨ 2 ^ 29 ≤ arg32 a 7 ∨ 64 < arg8 a 11 ∨ 4 < arg8 a 12
      ∨ argBit a 29 0 = true ∧ (3 < arg8 a 30 ∨ 62 < arg8 a 31) ∨ 127 < arg8 a 40
      ∨ argBit a 0 3 = true ∧ argBit a 29 0 = false then none
    else some
      { valid := argBit a 0 0, enabled := argBit a 0 1, hold := argBit a 0 2, battery := argBit a 0 3,
        confirm := argBit a 0 4, ingress := BitVec.ofNat 7 (arg8 a 1),
        kind := [KindTest.base, .extended, .any].getD (arg8 a 2 % 4) .any,
        format := [FormatTest.classic, .fd, .any].getD (arg8 a 2 / 4 % 4) .any,
        cls := [WakeClass.a, .b, .c].getD (arg8 a 2 / 16 % 4) .c,
        idValue := BitVec.ofNat 29 (arg32 a 3), idMask := BitVec.ofNat 29 (arg32 a 7), minLength := arg8 a 11,
        lanes := lanes,
        word := wordNamed (argBit a 29) (arg8 a 30) (arg8 a 31) (arg16 a 32) (arg16 a 34),
        wake := BitVec.ofNat 16 (arg16 a 36), activity := BitVec.ofNat 16 (arg16 a 38),
        forward := BitVec.ofNat 7 (arg8 a 40), linger := arg16 a 41 } := by
  have hbattery : ∀ op offset mask operand : Nat,
      check (!(argBit a 0 3) || (wordNamed (argBit a 29) op offset mask operand).isSome) =
        if argBit a 0 3 = true ∧ argBit a 29 0 = false then none else some () := fun _ _ _ _ => by
    unfold wordNamed
    cases argBit a 0 3 <;> cases argBit a 29 0 <;> rfl
  have hlanes' : ∀ (β : Type) (f : List LaneTest → Option β), (lanesOf a (arg8 a 12) 13 >>= f) = f lanes := fun β f => by
    rw [hlanes]
    rfl
  simp only [ruleOf, portSetOf_eq, kindOf_eq, formatOf_eq, classOf_eq, hlanes', wordTestOf_eq, hbattery, check_eq_ite,
    bind_ite_none, ite_none_or, pure]
  have hthree : ∀ n : Nat, 2 < n % 4 ↔ n % 4 = 3 := by omega
  exact if_congr (by simp only [hthree, Nat.not_lt, Nat.not_le]) rfl rfl

/-! ## The image read back -/

theorem arg8_append_right {l : List Byte} {n : Nat} (h : l.length = n) (m : List Byte) (k : Nat) :
    arg8 (l ++ m) (n + k) = arg8 m k := by
  subst h
  simp [arg8, List.getElem?_append_right]

theorem arg8_append_left {l : List Byte} {k : Nat} (h : k < l.length) (m : List Byte) : arg8 (l ++ m) k = arg8 l k := by
  rw [arg8, List.getD_append _ _ _ _ h, arg8]

/-- The lane tests of a list of bytes that holds their bytes one after the other. -/
theorem lanesOf_flatMap {l : List LaneTest} (h : ∀ t ∈ l, t.offset ≤ 63) : ∀ (pre post : List Byte),
    lanesOf (pre ++ (l.flatMap LaneTest.bytes ++ post)) l.length pre.length = some l := by
  induction l with
  | nil => exact fun _ _ => rfl
  | cons t l ih =>
    intro pre post
    have hoffset := h t (List.mem_cons_self ..)
    have hop : t.op.code ≤ 3 ∧ [Comparison.eq, .ne, .ge, .le].getD t.op.code .eq = t.op := by
      cases t.op <;> exact ⟨by decide, rfl⟩
    have hbytes : pre ++ ((t :: l).flatMap LaneTest.bytes ++ post) =
        (pre ++ t.bytes) ++ (l.flatMap LaneTest.bytes ++ post) := by
      simp [List.append_assoc]
    have hbyte : ∀ k, k < 4 → (pre ++ ((t :: l).flatMap LaneTest.bytes ++ post)).getD (pre.length + k) 0 = t.bytes.getD k 0 :=
      fun k hk => by
        rw [List.getD_append_right _ _ _ _ (Nat.le_add_right _ _), Nat.add_sub_cancel_left, List.flatMap_cons,
          List.append_assoc, List.getD_append _ _ _ _ (by exact hk)]
    have hlane : laneOf (pre ++ ((t :: l).flatMap LaneTest.bytes ++ post)) pre.length = some t := by
      have h0 := hbyte 0 (by decide)
      have h1 := hbyte 1 (by decide)
      have h2 := hbyte 2 (by decide)
      have h3 := hbyte 3 (by decide)
      rw [Nat.add_zero] at h0
      rw [laneOf_eq, arg8, arg8, h0, h1, h2, h3]
      show (if 63 < (byte t.offset).toNat ∨ 3 < (byte t.op.code).toNat then none else some
        { offset := (byte t.offset).toNat, mask := t.mask, op := [Comparison.eq, .ne, .ge, .le].getD (byte t.op.code).toNat .eq,
          operand := t.operand }) = some t
      rw [toNat_byte (by omega), toNat_byte (by omega), hop.2, if_neg (by omega)]
    have hrest := ih (fun u hu => h u (List.mem_cons_of_mem _ hu)) (pre ++ t.bytes) post
    rw [← hbytes, List.length_append] at hrest
    rw [List.length_cons, lanesOf, hlane]
    show (lanesOf _ l.length (pre.length + 4) >>= fun rest => some (t :: rest)) = _
    rw [show pre.length + 4 = pre.length + t.bytes.length from rfl, hrest]
    rfl



section
variable (r : RuleRecord)

/-- Bytes 0 to 12 of an image. -/
def RuleRecord.imageHead : List Byte :=
  [byte (flagBit r.valid 0 + flagBit r.enabled 1 + flagBit r.hold 2 + flagBit r.battery 3 + flagBit r.confirm 4),
    byte r.ingress.toNat, byte (r.kind.code + 4 * r.format.code + 16 * r.cls.code)]
    ++ be32 r.idValue.toNat ++ be32 r.idMask.toNat ++ [byte r.minLength, byte r.lanes.length]

/-- Bytes 36 to 42 of an image. -/
def RuleRecord.imageTail : List Byte :=
  be16 r.wake.toNat ++ be16 r.activity.toNat ++ [byte r.forward.toNat] ++ be16 r.linger

theorem RuleRecord.image_eq : r.image =
    r.imageHead ++ (padTo 16 (r.lanes.flatMap LaneTest.bytes) ++ (wordBytes r.word ++ r.imageTail)) := by
  simp only [RuleRecord.image, RuleRecord.imageHead, RuleRecord.imageTail, List.append_assoc]

theorem length_flatMap_lanes (l : List LaneTest) : (l.flatMap LaneTest.bytes).length = 4 * l.length := by
  induction l with
  | nil => rfl
  | cons t l ih =>
    rw [List.flatMap_cons, List.length_append, ih, List.length_cons]
    show 4 + 4 * l.length = _
    omega

theorem wordBytes_length (w : Option WordTest) : (wordBytes w).length = 7 := by
  cases w <;> rfl

variable {r}

theorem RuleRecord.arg8_image_head {k : Nat} (hk : k < 13) : arg8 r.image k = arg8 r.imageHead k := by
  rw [r.image_eq]
  exact arg8_append_left hk _

theorem RuleRecord.arg8_image_word (hlanes : r.lanes.length ≤ 4) {k : Nat} (hk : k < 7) :
    arg8 r.image (29 + k) = arg8 (wordBytes r.word) k := by
  have hpad : (padTo 16 (r.lanes.flatMap LaneTest.bytes)).length = 16 := by
    rw [padTo, List.length_append, List.length_replicate, length_flatMap_lanes]
    omega
  rw [r.image_eq, Nat.add_assoc 13 16 k, arg8_append_right (l := r.imageHead) (n := 13) rfl, arg8_append_right hpad,
    arg8_append_left (by rw [wordBytes_length]; exact hk)]

theorem RuleRecord.arg8_image_tail (hlanes : r.lanes.length ≤ 4) (k : Nat) :
    arg8 r.image (36 + k) = arg8 r.imageTail k := by
  have hpad : (padTo 16 (r.lanes.flatMap LaneTest.bytes)).length = 16 := by
    rw [padTo, List.length_append, List.length_replicate, length_flatMap_lanes]
    omega
  rw [r.image_eq, show 36 + k = 13 + (16 + (7 + k)) by omega, arg8_append_right (l := r.imageHead) (n := 13) rfl,
    arg8_append_right hpad, arg8_append_right (wordBytes_length _)]

theorem RuleRecord.lanesOf_image (h : r.inRange) : lanesOf r.image (arg8 r.image 12) 13 = some r.lanes := by
  obtain ⟨-, hcount, hoffsets, -⟩ := h
  have h12 : arg8 r.image 12 = r.lanes.length :=
    (RuleRecord.arg8_image_head (by decide)).trans (toNat_byte (by omega))
  rw [h12, r.image_eq, padTo, List.append_assoc]
  exact lanesOf_flatMap hoffsets r.imageHead _

/-- The flags of byte 0. -/
theorem testBit_flags (a b x d e : Bool) :
    let n := (byte (flagBit a 0 + flagBit b 1 + flagBit x 2 + flagBit d 3 + flagBit e 4)).toNat
    n.testBit 0 = a ∧ n.testBit 1 = b ∧ n.testBit 2 = x ∧ n.testBit 3 = d ∧ n.testBit 4 = e := by
  revert a b x d e
  decide

/-- The codes of byte 2. -/
theorem codes_of_byte (k : KindTest) (f : FormatTest) (x : WakeClass) :
    let n := (byte (k.code + 4 * f.code + 16 * x.code)).toNat
    n % 4 ≠ 3 ∧ n / 4 % 4 ≠ 3 ∧ n / 16 % 4 ≠ 3 ∧ [KindTest.base, .extended, .any].getD (n % 4) .any = k
      ∧ [FormatTest.classic, .fd, .any].getD (n / 4 % 4) .any = f ∧ [WakeClass.a, .b, .c].getD (n / 16 % 4) .c = x := by
  cases k <;> cases f <;> cases x <;> decide

/-- What bytes 29 to 35 of an image decode to. -/
theorem wordBytes_decode {w : Option WordTest} (h : ∀ t ∈ w, t.offset ≤ 62) :
    argBit (wordBytes w) 0 0 = w.isSome
      ∧ ¬ (argBit (wordBytes w) 0 0 = true ∧ (3 < arg8 (wordBytes w) 1 ∨ 62 < arg8 (wordBytes w) 2))
      ∧ wordNamed (argBit (wordBytes w) 0) (arg8 (wordBytes w) 1) (arg8 (wordBytes w) 2) (arg16 (wordBytes w) 3)
        (arg16 (wordBytes w) 5) = w := by
  cases w with
  | none => exact ⟨rfl, by decide, rfl⟩
  | some t =>
    have hflags : ∀ x l : Bool, let n := (byte (1 + flagBit x 1 + flagBit l 2)).toNat
        n.testBit 0 = true ∧ n.testBit 1 = x ∧ n.testBit 2 = l := by decide
    obtain ⟨hpresent, hcompare, hlow⟩ := hflags t.compare t.lowFirst
    have hop : t.op.code ≤ 3 ∧ [Comparison.eq, .ne, .ge, .le].getD t.op.code .eq = t.op := by
      cases t.op <;> exact ⟨by decide, rfl⟩
    have hoffset := h t rfl
    have hmask := t.mask.isLt
    have hoperand := t.operand.isLt
    have h0 : argBit (wordBytes (some t)) 0 0 = true := hpresent
    have h01 : argBit (wordBytes (some t)) 0 1 = t.compare := hcompare
    have h02 : argBit (wordBytes (some t)) 0 2 = t.lowFirst := hlow
    have h1 : arg8 (wordBytes (some t)) 1 = t.op.code := toNat_byte (by omega)
    have h2 : arg8 (wordBytes (some t)) 2 = t.offset := toNat_byte (by omega)
    have h3 : arg16 (wordBytes (some t)) 3 = t.mask.toNat := arg16_be16 (by omega)
    have h5 : arg16 (wordBytes (some t)) 5 = t.operand.toNat := arg16_be16 (by omega)
    rw [h1, h2, h3, h5, wordNamed, h0, h01, h02, hop.2]
    simp only [BitVec.ofNat_toNat, BitVec.setWidth_eq, if_true]
    exact ⟨rfl, by omega, trivial⟩

/-- Settles O15: every field of the image read back. -/
theorem ruleImageRoundTrip : Obligations.RuleImageRoundTrip := by
  intro r h
  have hlanes := RuleRecord.lanesOf_image h
  obtain ⟨hlength, hcount, -, hwordOffset, hbattery, hlinger⟩ := h
  have head : ∀ k, k < 13 → arg8 r.image k = arg8 r.imageHead k := fun k => RuleRecord.arg8_image_head
  have word : ∀ k, k < 7 → arg8 r.image (29 + k) = arg8 (wordBytes r.word) k := fun k =>
    RuleRecord.arg8_image_word hcount
  have tail : ∀ k, arg8 r.image (36 + k) = arg8 r.imageTail k := RuleRecord.arg8_image_tail hcount
  obtain ⟨hvalid, henabled, hhold, hbatteryBit, hconfirm⟩ := testBit_flags r.valid r.enabled r.hold r.battery r.confirm
  obtain ⟨hkind, hformat, hcls, hkind', hformat', hcls'⟩ := codes_of_byte r.kind r.format r.cls
  obtain ⟨hpresent, hgood, hword⟩ := wordBytes_decode hwordOffset
  have hingress := r.ingress.isLt
  have hvalue := r.idValue.isLt
  have hmask := r.idMask.isLt
  have hwake := r.wake.isLt
  have hactivity := r.activity.isLt
  have hforward := r.forward.isLt
  have h0 : ∀ n, argBit r.image 0 n = (byte (flagBit r.valid 0 + flagBit r.enabled 1 + flagBit r.hold 2
      + flagBit r.battery 3 + flagBit r.confirm 4)).toNat.testBit n := fun n => by
    rw [argBit, head 0 (by decide)]
    rfl
  have h1 : arg8 r.image 1 = r.ingress.toNat := (head 1 (by decide)).trans (toNat_byte (by omega))
  have h2 : arg8 r.image 2 = (byte (r.kind.code + 4 * r.format.code + 16 * r.cls.code)).toNat := head 2 (by decide)
  have h3 : arg32 r.image 3 = r.idValue.toNat := by
    simp only [arg32, arg16, head _ (show 3 < 13 by decide), head _ (show 4 < 13 by decide), head _ (show 5 < 13 by decide),
      head _ (show 6 < 13 by decide)]
    exact arg32_be32 (by omega)
  have h7 : arg32 r.image 7 = r.idMask.toNat := by
    simp only [arg32, arg16, head _ (show 7 < 13 by decide), head _ (show 8 < 13 by decide), head _ (show 9 < 13 by decide),
      head _ (show 10 < 13 by decide)]
    exact arg32_be32 (by omega)
  have h11 : arg8 r.image 11 = r.minLength := (head 11 (by decide)).trans (toNat_byte (by omega))
  have h12 : arg8 r.image 12 = r.lanes.length := (head 12 (by decide)).trans (toNat_byte (by omega))
  have h29 : argBit r.image 29 = argBit (wordBytes r.word) 0 := funext fun n => by
    rw [argBit, argBit, word 0 (by decide)]
  have h30 : arg8 r.image 30 = arg8 (wordBytes r.word) 1 := word 1 (by decide)
  have h31 : arg8 r.image 31 = arg8 (wordBytes r.word) 2 := word 2 (by decide)
  have h32 : arg16 r.image 32 = arg16 (wordBytes r.word) 3 :=
    congrArg₂ (fun x y => 0x100 * x + y) (word 3 (by decide)) (word 4 (by decide))
  have h34 : arg16 r.image 34 = arg16 (wordBytes r.word) 5 :=
    congrArg₂ (fun x y => 0x100 * x + y) (word 5 (by decide)) (word 6 (by decide))
  have h36 : arg16 r.image 36 = r.wake.toNat :=
    (congrArg₂ (fun x y => 0x100 * x + y) (tail 0) (tail 1)).trans (arg16_be16 (by omega))
  have h38 : arg16 r.image 38 = r.activity.toNat :=
    (congrArg₂ (fun x y => 0x100 * x + y) (tail 2) (tail 3)).trans (arg16_be16 (by omega))
  have h40 : arg8 r.image 40 = r.forward.toNat := (tail 4).trans (toNat_byte (by omega))
  have h41 : arg16 r.image 41 = r.linger :=
    (congrArg₂ (fun x y => 0x100 * x + y) (tail 5) (tail 6)).trans (arg16_be16 hlinger)
  have hnobattery : ¬ (r.battery = true ∧ argBit (wordBytes r.word) 0 0 = false) := fun ⟨hon, habsent⟩ => by
    rw [hpresent, hbattery hon] at habsent
    cases habsent
  rw [ruleOf_eq hlanes, h1, h2, h3, h7, h11, h12, h29, h30, h31, h32, h34, h36, h38, h40, h41]
  simp only [h0, hvalid, henabled, hhold, hbatteryBit, hconfirm, hkind', hformat', hcls', hword, BitVec.ofNat_toNat,
    BitVec.setWidth_eq]
  refine if_neg ?_
  rintro (h | h | h | h | h | h | h | h | h | h | h)
  · omega
  · exact hkind h
  · exact hformat h
  · exact hcls h
  · omega
  · omega
  · omega
  · omega
  · exact hgood h
  · omega
  · exact hnobattery h

end

end Sys2Proof.Machine
end

section
/-! The requests that write parameters: each from its bytes, or refused (sections 2.2, 3.4, 6.1, 8.1 and 10.1). -/

namespace Sys2Proof.Machine

variable {s : State}

/-! ## The recomputation of the account -/

/-- A raised condition touches the flags and the report queue alone. -/
theorem State.raise_frame (c : Condition) (x : Option Nat) (y z : Nat) :
    ∃ f r l, s.raise c x y z = { s with flags := f, reports := r, reportsLost := l } := by
  unfold State.raise State.offerReport
  dsimp only
  split
  · split
    · exact ⟨_, _, _, rfl⟩
    · exact ⟨_, _, _, rfl⟩
  · exact ⟨_, _, _, rfl⟩

theorem Level.capping_iff (l : Level) : l.capping = true ↔ l = .red ∨ l = .exhausted := by
  cases l <;> decide

/-- The cap order as a record of domains that the state before the conditions determines. -/
theorem State.capOrder_of_domains {t : State} (hdomains : t.domains = s.domains) (hbudget : t.budget = s.budget) :
    t.capOrder = { t with
      domains := Vector.ofFn fun i =>
        let x := s.domains[i]
        match x.state with
        | .on => { x with remaining := min x.remaining s.budget.lcap }
        | .queued | .powerUp => { x with pending := min x.pending s.budget.lcap }
        | .off | .releasing | .fault => x } := by
  unfold State.capOrder State.mapDomains
  rw [hdomains, hbudget]
  rfl

/-- The recomputation is the account's new record with what it tells and orders. -/
theorem State.recompute_eq :
    s.recompute = State.levelTold { s with account := s.account.recomputed s.budget } s.account := by
  unfold State.recompute State.levelTold
  dsimp only
  generalize s.account.recomputed s.budget = a
  have hlow : (if (a.override && !s.account.override) = true then
        ({ s with account := a } : State).raise .batteryLow none a.vb 0 else { s with account := a }) =
      if a.override = true ∧ s.account.override = false then
        ({ s with account := a } : State).raise .batteryLow none a.vb 0 else { s with account := a } :=
    if_congr (by simp) rfl rfl
  rw [hlow]
  generalize hu : (if a.override = true ∧ s.account.override = false then
    ({ s with account := a } : State).raise .batteryLow none a.vb 0 else { s with account := a }) = u
  have hframe : u.domains = s.domains ∧ u.budget = s.budget := by
    rw [← hu]
    split
    · obtain ⟨f, r, l, h⟩ := State.raise_frame (s := { s with account := a }) .batteryLow none a.vb 0
      rw [h]
      exact ⟨rfl, rfl⟩
    · exact ⟨rfl, rfl⟩
  split
  · rfl
  · obtain ⟨f, r, l, h⟩ := State.raise_frame (s := u) .levelChanged none s.account.effective.code a.effective.code
    refine if_congr (Level.capping_iff _) ?_ rfl
    exact State.capOrder_of_domains (by rw [h]; exact hframe.1) (by rw [h]; exact hframe.2)

theorem State.recompute_requests : s.recompute.requests = s.requests := by
  have h := congrArg State.requests s.recompute_heldByAdmission
  exact h

/-! ## Parameters of domains, ports, the budget and the schedule -/

theorem DomainState.active_iff (k : DomainState) : k.active = true ↔ k ≠ .off ∧ k ≠ .fault := by
  cases k <;> decide

/-- The bytes behind a request's arguments change none of them. -/
theorem arg8_append_of_lt {args : List Byte} {n k : Nat} (h : args.length = n) (hk : k < n) (more : List Byte) :
    arg8 (args ++ more) k = arg8 args k :=
  arg8_append_left (h ▸ hk) more

theorem le_length_append {args : List Byte} {n : Nat} (h : args.length = n) (more : List Byte) :
    n ≤ (args ++ more).length := by
  rw [List.length_append, h]
  exact Nat.le_add_right _ _

/-- Write Domain's part of O58. -/
theorem exec_writeDomain {tag : Byte} {args more : List Byte} {rest : List (List Byte)} (d : DomainIx)
    (hmode : s.mode ≠ .fallback) (hturn : s.turn (0x20 :: tag :: (args ++ more)) rest) (hlength : args.length = 7) :
    (15 < arg8 args 0 → exec .writeDomain s = .next (s.answered rest [0x20, tag, 2]))
      ∧ (arg8 args 0 = d.val → ∀ x : Option DomainParams, domainOf args = x →
        match x with
        | none => exec .writeDomain s = .next (s.answered rest [0x20, tag, 3])
        | some x =>
          if x.branch ≠ s.domains[d].branch ∧ s.domains[d].state ≠ .off ∧ s.domains[d].state ≠ .fault then
            exec .writeDomain s = .next (s.answered rest [0x20, tag, 5])
          else exec .writeDomain s =
            .next ((s.putDomain d (s.domains[d].withParams x)).answered rest [0x20, tag, 0])) := by
  have hany := (anyMode_iff _).2 hmode
  have hargs := le_length_append hlength more
  have h0 : arg8 (args ++ more) 0 = arg8 args 0 := arg8_append_of_lt hlength (by decide) more
  have hdecode : domainOf (args ++ more) = domainOf args := by
    simp only [domainOf, arg16, arg8_append_of_lt hlength, Nat.reduceLT, Nat.reduceAdd]
    congr!
  refine ⟨fun hi => ?_, fun hi x hx => ?_⟩
  · have hact : actWriteDomain (args ++ more) s = .error .badIndex := by
      show (need .badIndex (index? 16 (arg8 (args ++ more) 0)) >>= _) = _
      rw [h0, index?_of_ge hi]
      rfl
    exact congrArg Host.Outcome.next (hturn.execute_of_refused (row := .writeDomain) rfl hargs hany hact)
  · have hact : actWriteDomain (args ++ more) s = (need .badValue x >>= fun x =>
        if x.branch ≠ s.domains[d].branch ∧ s.domains[d].state.active = true then .error .wrongState
        else pure (s.modDomain d fun y => y.withParams x, [])) := by
      show (need .badIndex (index? 16 (arg8 (args ++ more) 0)) >>= fun d => need .badValue (domainOf (args ++ more)) >>= _) = _
      rw [h0, index?_of_eq hi, hdecode, hx]
      rfl
    cases x with
    | none => exact congrArg Host.Outcome.next (hturn.execute_of_refused (row := .writeDomain) rfl hargs hany hact)
    | some x =>
      simp only [DomainState.active_iff] at hact
      dsimp only
      split
      next hmoved =>
        exact congrArg Host.Outcome.next
          (hturn.execute_of_refused (row := .writeDomain) rfl hargs hany (hact.trans (if_pos hmoved)))
      next hmoved =>
        exact congrArg Host.Outcome.next
          (hturn.execute_of_accepted (row := .writeDomain) rfl hargs hany (hact.trans (if_neg hmoved)) rfl)


/-- Write Budget's part of O58. -/
theorem exec_writeBudget {tag : Byte} {args more : List Byte} {rest : List (List Byte)}
    (hmode : s.mode ≠ .fallback) (hturn : s.turn (0x40 :: tag :: (args ++ more)) rest) (hlength : args.length = 20)
    (x : Option Budget) (hx : budgetOf args = x) :
    match x with
    | none => exec .writeBudget s = .next (s.answered rest [0x40, tag, 3])
    | some x => exec .writeBudget s = .next
        ((State.levelTold { s with budget := x, account := s.account.recomputed x } s.account).answered rest
          [0x40, tag, 0]) := by
  have hany := (anyMode_iff _).2 hmode
  have hargs := le_length_append hlength more
  have hdecode : budgetOf (args ++ more) = budgetOf args := by
    simp only [budgetOf, arg16, arg32, arg8_append_of_lt hlength, Nat.reduceLT, Nat.reduceAdd]
    congr!
  have hact : actWriteBudget (args ++ more) s =
      (need .badValue x >>= fun x => pure (({ s with budget := x } : State).recompute, [])) := by
    show (need .badValue (budgetOf (args ++ more)) >>= _) = _
    rw [hdecode, hx]
  cases x with
  | none => exact congrArg Host.Outcome.next (hturn.execute_of_refused (row := .writeBudget) rfl hargs hany hact)
  | some x =>
    have hkept : ({ s with budget := x } : State).recompute.requests = s.requests := State.recompute_requests
    have hanswer := hturn.execute_of_accepted (row := .writeBudget) rfl hargs hany hact hkept
    rw [State.recompute_eq] at hanswer
    exact congrArg Host.Outcome.next hanswer

/-- Write Schedule's part of O58. -/
theorem exec_writeSchedule {tag : Byte} {args more : List Byte} {rest : List (List Byte)} (e : EntryIx)
    (hmode : s.mode ≠ .fallback) (hturn : s.turn (0x50 :: tag :: (args ++ more)) rest) (hlength : args.length = 16) :
    (7 < arg8 args 0 → exec .writeSchedule s = .next (s.answered rest [0x50, tag, 2]))
      ∧ (arg8 args 0 = e.val → ∀ x : Option ScheduleEntry, scheduleOf args = x →
        match x with
        | none => exec .writeSchedule s = .next (s.answered rest [0x50, tag, 3])
        | some x => exec .writeSchedule s =
            .next ({ s with schedule := s.schedule.set e x }.answered rest [0x50, tag, 0])) := by
  have hany := (anyMode_iff _).2 hmode
  have hargs := le_length_append hlength more
  have h0 : arg8 (args ++ more) 0 = arg8 args 0 := arg8_append_of_lt hlength (by decide) more
  have hdecode : scheduleOf (args ++ more) = scheduleOf args := by
    simp only [scheduleOf, arg16, arg32, arg8_append_of_lt hlength, Nat.reduceLT, Nat.reduceAdd]
    congr!
  refine ⟨fun hi => ?_, fun hi x hx => ?_⟩
  · have hact : actWriteSchedule (args ++ more) s = .error .badIndex := by
      show (need .badIndex (index? 8 (arg8 (args ++ more) 0)) >>= _) = _
      rw [h0, index?_of_ge hi]
      rfl
    exact congrArg Host.Outcome.next (hturn.execute_of_refused (row := .writeSchedule) rfl hargs hany hact)
  · have hact : actWriteSchedule (args ++ more) s = (need .badValue x >>= fun x => pure (s.modEntry e fun _ => x, [])) := by
      show (need .badIndex (index? 8 (arg8 (args ++ more) 0)) >>= fun i => need .badValue (scheduleOf (args ++ more)) >>= _) = _
      rw [h0, index?_of_eq hi, hdecode, hx]
      rfl
    cases x with
    | none => exact congrArg Host.Outcome.next (hturn.execute_of_refused (row := .writeSchedule) rfl hargs hany hact)
    | some x => exact congrArg Host.Outcome.next (hturn.execute_of_accepted (row := .writeSchedule) rfl hargs hany hact rfl)

/-- Write Port's part of O58. -/
theorem exec_writePort {tag : Byte} {args more : List Byte} {rest : List (List Byte)} (b : Branch)
    (hmode : s.mode ≠ .fallback) (hturn : s.turn (0x30 :: tag :: (args ++ more)) rest) (hlength : args.length = 15) :
    (6 < arg8 args 0 → exec .writePort s = .next (s.answered rest [0x30, tag, 2]))
      ∧ (arg8 args 0 = 0 → ∀ (x : Option PortParams) (t : Option Nat),
        portParamsOf trunkPort args = x → silenceOf args = t →
        match x, t with
        | some x, some t => exec .writePort s = .next
            ({ s.putPort trunkPort { s.ports[trunkPort] with params := x } with silenceTime := t }.answered rest
              [0x30, tag, 0])
        | _, _ => exec .writePort s = .next (s.answered rest [0x30, tag, 3]))
      ∧ (arg8 args 0 = b.val + 1 → ∀ (x : Option PortParams) (y : Option BranchParams),
        portParamsOf (portOf b) args = x → branchParamsOf args = y →
        match x, y with
        | some x, some y => exec .writePort s = .next
            (((s.putPort (portOf b) { s.ports[portOf b] with params := x }).putBranch b
              { s.branches[b] with params := y }).answered rest [0x30, tag, 0])
        | _, _ => exec .writePort s = .next (s.answered rest [0x30, tag, 3])) := by
  have hany := (anyMode_iff _).2 hmode
  have hargs := le_length_append hlength more
  have h0 : arg8 (args ++ more) 0 = arg8 args 0 := arg8_append_of_lt hlength (by decide) more
  have hport : ∀ p : Port, portParamsOf p (args ++ more) = portParamsOf p args := fun p => by
    simp only [portParamsOf, arg16, arg8_append_of_lt hlength, Nat.reduceLT, Nat.reduceAdd]
    congr!
  have hbranch : branchParamsOf (args ++ more) = branchParamsOf args := by
    simp only [branchParamsOf, arg16, arg8_append_of_lt hlength, Nat.reduceLT, Nat.reduceAdd]
    congr!
  have hsilence : silenceOf (args ++ more) = silenceOf args := by
    simp only [silenceOf, arg8_append_of_lt hlength, Nat.reduceLT]
  refine ⟨fun hi => ?_, fun hi x t hx ht => ?_, fun hi x y hx hy => ?_⟩
  · have hact : actWritePort (args ++ more) s = .error .badIndex := by
      show (need .badIndex (index? 7 (arg8 (args ++ more) 0)) >>= _) = _
      rw [h0, index?_of_ge hi]
      rfl
    exact congrArg Host.Outcome.next (hturn.execute_of_refused (row := .writePort) rfl hargs hany hact)
  · have hact : actWritePort (args ++ more) s = (need .badValue x >>= fun x => need .badValue t >>= fun t =>
        pure ({ s.modPort trunkPort (fun ps => { ps with params := x }) with silenceTime := t }, [])) := by
      show (need .badIndex (index? 7 (arg8 (args ++ more) 0)) >>= fun p =>
        need .badValue (portParamsOf p (args ++ more)) >>= _) = _
      rw [h0, index?_of_eq (i := trunkPort) hi, ← hx, ← ht, ← hport, ← hsilence]
      rfl
    cases x with
    | none => exact congrArg Host.Outcome.next (hturn.execute_of_refused (row := .writePort) rfl hargs hany hact)
    | some x =>
      cases t with
      | none => exact congrArg Host.Outcome.next (hturn.execute_of_refused (row := .writePort) rfl hargs hany hact)
      | some t => exact congrArg Host.Outcome.next (hturn.execute_of_accepted (row := .writePort) rfl hargs hany hact rfl)
  · have hact : actWritePort (args ++ more) s = (need .badValue x >>= fun x => need .badValue y >>= fun y =>
        pure ((s.modPort (portOf b) fun ps => { ps with params := x }).modBranch b fun bs => { bs with params := y }, [])) := by
      show (need .badIndex (index? 7 (arg8 (args ++ more) 0)) >>= fun p =>
        need .badValue (portParamsOf p (args ++ more)) >>= fun x =>
          match branchOf p with
          | none => need .badValue (silenceOf (args ++ more)) >>= _
          | some b => need .badValue (branchParamsOf (args ++ more)) >>= _) = _
      rw [h0, index?_of_eq (i := portOf b) hi, ← hx, ← hy, ← hport, ← hbranch]
      show (need .badValue (portParamsOf (portOf b) (args ++ more)) >>= fun x =>
          match branchOf (portOf b) with
          | none => need .badValue (silenceOf (args ++ more)) >>= fun t =>
            pure ({ s.modPort (portOf b) (fun ps => { ps with params := x }) with silenceTime := t }, [])
          | some b => need .badValue (branchParamsOf (args ++ more)) >>= fun y =>
            pure ((s.modPort (portOf b) fun ps => { ps with params := x }).modBranch b fun bs => { bs with params := y }, [])) = _
      rw [branchOf_portOf]
    cases x with
    | none => exact congrArg Host.Outcome.next (hturn.execute_of_refused (row := .writePort) rfl hargs hany hact)
    | some x =>
      cases y with
      | none => exact congrArg Host.Outcome.next (hturn.execute_of_refused (row := .writePort) rfl hargs hany hact)
      | some y => exact congrArg Host.Outcome.next (hturn.execute_of_accepted (row := .writePort) rfl hargs hany hact rfl)

/-- A common field of Write Port's arguments that R18 refuses. -/
abbrev badPort (a : List Byte) : Prop :=
  arg8 a 2 ≠ 8 ∧ arg8 a 2 ≠ 64 ∨ 96 < arg8 a 4 ∨ arg16 a 5 = 0 ∨ 1 < arg8 a 7 ∨ 127 < arg8 a 8
    ∨ (arg8 a 8).testBit (arg8 a 0) = true

theorem portParamsOf_of_index {p : Port} {a : List Byte} (h : arg8 a 0 = p.val) : portParamsOf p a =
    if badPort a then none
    else some
      { maxPayload := arg8 a 2, holdCap := arg8 a 4, holdAge := arg16 a 5,
        noMatch := if arg8 a 7 = 1 then .pass else .drop, forward := BitVec.ofNat 7 (arg8 a 8) } := by
  unfold badPort
  rw [h]
  exact portParamsOf_eq p a

/-- Settles O58: the four decoders, and the checks in their order. -/
theorem recordWritesReplaceWhole : Obligations.RecordWritesReplaceWhole := by
  intro s tag args more rest b e d hmode
  refine ⟨fun hturn hlength => ?_, fun hturn hlength => ?_, fun hturn hlength => ?_, fun hturn hlength => ?_⟩
  · obtain ⟨hindex, hwrite⟩ := exec_writeDomain d hmode hturn hlength
    refine ⟨hindex, fun hi hbad => ?_, fun hi hbad hmoved => ?_, fun hi hbad hmoved => ?_⟩
    · exact hwrite hi none ((domainOf_eq args).trans (if_pos hbad))
    · exact (if_pos hmoved).mp (hwrite hi (some _) ((domainOf_eq args).trans (if_neg hbad)))
    · exact (if_neg hmoved).mp (hwrite hi (some _) ((domainOf_eq args).trans (if_neg hbad)))
  · exact ⟨fun hbad => exec_writeBudget hmode hturn hlength none ((budgetOf_eq args).trans (if_pos hbad)),
      fun hbad => exec_writeBudget hmode hturn hlength (some _) ((budgetOf_eq args).trans (if_neg hbad))⟩
  · obtain ⟨hindex, hwrite⟩ := exec_writeSchedule e hmode hturn hlength
    exact ⟨hindex, fun hi hbad => hwrite hi none ((scheduleOf_eq args).trans (if_pos hbad)),
      fun hi hbad => hwrite hi (some _) ((scheduleOf_eq args).trans (if_neg hbad))⟩
  · obtain ⟨hindex, htrunk, hbranch⟩ := exec_writePort b hmode hturn hlength
    refine ⟨hindex, fun hi => ⟨fun hbad => ?_, fun hbad => ?_⟩, fun hi => ⟨fun hbad => ?_, fun hbad => ?_⟩⟩
    · by_cases hcommon : badPort args
      · exact htrunk hi none _ ((portParamsOf_of_index (p := trunkPort) (a := args) hi).trans (if_pos hcommon)) rfl
      · exact htrunk hi (some _) none ((portParamsOf_of_index (p := trunkPort) (a := args) hi).trans (if_neg hcommon))
          ((silenceOf_eq args).trans (if_pos (hbad.resolve_left hcommon)))
    · obtain ⟨hcommon, hsilence⟩ := not_or.1 hbad
      exact htrunk hi (some _) (some _) ((portParamsOf_of_index (p := trunkPort) (a := args) hi).trans (if_neg hcommon))
        ((silenceOf_eq args).trans (if_neg hsilence))
    · by_cases hcommon : badPort args
      · exact hbranch hi none _ ((portParamsOf_of_index (p := portOf b) (a := args) hi).trans (if_pos hcommon)) rfl
      · exact hbranch hi (some _) none ((portParamsOf_of_index (p := portOf b) (a := args) hi).trans (if_neg hcommon))
          ((branchParamsOf_eq args).trans (if_pos (hbad.resolve_left hcommon)))
    · obtain ⟨hcommon, hfields⟩ := not_or.1 hbad
      exact hbranch hi (some _) (some _) ((portParamsOf_of_index (p := portOf b) (a := args) hi).trans (if_neg hcommon))
        ((branchParamsOf_eq args).trans (if_neg hfields))

end Sys2Proof.Machine
end

section
/-! The requests on the rule table (sections 3.4, 9.5 and 9.6). -/

namespace Sys2Proof.Machine

variable {s : State}

/-! ## The lane tests of an image -/

/-- A lane test whose offset or operator R48 refuses. -/
abbrev badLane (a : List Byte) (i : Nat) : Prop := 63 < arg8 a i ∨ 3 < arg8 a (i + 2)

/-- The lane test at a place of an image, whatever its bytes. -/
def laneNamed (a : List Byte) (i : Nat) : LaneTest :=
  { offset := arg8 a i, mask := a.getD (i + 1) 0, op := [Comparison.eq, .ne, .ge, .le].getD (arg8 a (i + 2)) .eq,
    operand := a.getD (i + 3) 0 }

theorem lanesOf_of_badLane {a : List Byte} {n k : Nat} (hk : k < n) : ∀ {i : Nat}, badLane a (i + 4 * k) →
    lanesOf a n i = none := by
  induction n generalizing k with
  | zero => exact absurd hk (Nat.not_lt_zero k)
  | succ n ih =>
    intro i h
    rw [lanesOf, laneOf_eq]
    by_cases hhead : 63 < arg8 a i ∨ 3 < arg8 a (i + 2)
    · rw [if_pos hhead]
      rfl
    · rw [if_neg hhead]
      cases k with
      | zero => exact absurd h hhead
      | succ k =>
        have hrest : lanesOf a n (i + 4) = none := ih (Nat.lt_of_succ_lt_succ hk) (by
          rw [show i + 4 + 4 * k = i + 4 * (k + 1) by omega]
          exact h)
        show (lanesOf a n (i + 4) >>= _) = _
        rw [hrest]
        rfl

theorem lanesOf_of_lanes {a : List Byte} {n : Nat} : ∀ {i : Nat}, (∀ k, k < n → ¬ badLane a (i + 4 * k)) →
    lanesOf a n i = some ((List.range n).map fun k => laneNamed a (i + 4 * k)) := by
  induction n with
  | zero => exact fun _ => rfl
  | succ n ih =>
    intro i h
    have hrest := ih (i := i + 4) fun k hk => by
      rw [show i + 4 + 4 * k = i + 4 * (k + 1) by omega]
      exact h (k + 1) (Nat.succ_lt_succ hk)
    have hhead : ¬ (63 < arg8 a i ∨ 3 < arg8 a (i + 2)) := h 0 n.succ_pos
    rw [lanesOf, laneOf_eq, if_neg hhead, List.range_succ_eq_map, List.map_cons, List.map_map]
    show (lanesOf a n (i + 4) >>= fun rest => some (laneNamed a i :: rest)) = _
    rw [hrest]
    refine congrArg (fun l => some (laneNamed a i :: l)) (List.map_congr_left fun k _ => ?_)
    show laneNamed a (i + 4 + 4 * k) = laneNamed a (i + 4 * (k + 1))
    rw [show i + 4 + 4 * k = i + 4 * (k + 1) by omega]

/-- A decoded record has a count of lane tests in range, and each of them decodes. -/
theorem ruleOf_none_of_lanes {a : List Byte} (h : lanesOf a (arg8 a 12) 13 = none) : ruleOf a = none := by
  have hnone : ∀ (β : Type) (f : List LaneTest → Option β), (lanesOf a (arg8 a 12) 13 >>= f) = none := fun β f => by
    rw [h]
    rfl
  simp only [ruleOf, portSetOf_eq, kindOf_eq, formatOf_eq, classOf_eq, hnone, check_eq_ite, bind_ite_none, ite_self]

/-- A count past the four lane tests is refused, whatever they are. -/
theorem ruleOf_none_of_count {a : List Byte} (h : 4 < arg8 a 12) : ruleOf a = none := by
  have hcount : ¬ arg8 a 12 ≤ 4 := Nat.not_le.2 h
  simp only [ruleOf, portSetOf_eq, kindOf_eq, formatOf_eq, classOf_eq, check_eq_ite, bind_ite_none, hcount,
    not_false_eq_true, if_true, Option.bind_eq_bind, Option.bind_none, ite_self]

/-- An image that R48 refuses: a code, a set or a value out of range. -/
abbrev badRule (a : List Byte) : Prop :=
  127 < arg8 a 1 ∨ arg8 a 2 % 4 = 3 ∨ arg8 a 2 / 4 % 4 = 3 ∨ arg8 a 2 / 16 % 4 = 3
    ∨ 2 ^ 29 ≤ arg32 a 3 ∨ 2 ^ 29 ≤ arg32 a 7 ∨ 64 < arg8 a 11 ∨ 4 < arg8 a 12
    ∨ (∃ k : Fin 4, k.val < arg8 a 12 ∧ (63 < arg8 a (13 + 4 * k.val) ∨ 3 < arg8 a (15 + 4 * k.val)))
    ∨ argBit a 29 0 = true ∧ (3 < arg8 a 30 ∨ 62 < arg8 a 31) ∨ 127 < arg8 a 40
    ∨ argBit a 0 3 = true ∧ argBit a 29 0 = false

/-- The record that the bytes of an image name. -/
def ruleNamed (a : List Byte) : RuleRecord :=
  { valid := argBit a 0 0, enabled := argBit a 0 1, hold := argBit a 0 2, battery := argBit a 0 3,
    confirm := argBit a 0 4, ingress := BitVec.ofNat 7 (arg8 a 1),
    kind := [KindTest.base, .extended, .any].getD (arg8 a 2 % 4) .any,
    format := [FormatTest.classic, .fd, .any].getD (arg8 a 2 / 4 % 4) .any,
    cls := [WakeClass.a, .b, .c].getD (arg8 a 2 / 16 % 4) .c,
    idValue := BitVec.ofNat 29 (arg32 a 3), idMask := BitVec.ofNat 29 (arg32 a 7), minLength := arg8 a 11,
    lanes := (List.range (arg8 a 12)).map fun k =>
      { offset := arg8 a (13 + 4 * k), mask := a.getD (14 + 4 * k) 0,
        op := [Comparison.eq, .ne, .ge, .le].getD (arg8 a (15 + 4 * k)) .eq, operand := a.getD (16 + 4 * k) 0 },
    word := wordNamed (argBit a 29) (arg8 a 30) (arg8 a 31) (arg16 a 32) (arg16 a 34),
    wake := BitVec.ofNat 16 (arg16 a 36), activity := BitVec.ofNat 16 (arg16 a 38),
    forward := BitVec.ofNat 7 (arg8 a 40), linger := arg16 a 41 }

/-- The places of a lane test's four bytes in an image. -/
theorem lane_places (k : Nat) : 13 + 4 * k + 1 = 14 + 4 * k ∧ 13 + 4 * k + 2 = 15 + 4 * k ∧ 13 + 4 * k + 3 = 16 + 4 * k := by
  omega

theorem laneNamed_at (a : List Byte) (k : Nat) : laneNamed a (13 + 4 * k) =
    { offset := arg8 a (13 + 4 * k), mask := a.getD (14 + 4 * k) 0,
      op := [Comparison.eq, .ne, .ge, .le].getD (arg8 a (15 + 4 * k)) .eq, operand := a.getD (16 + 4 * k) 0 } := by
  obtain ⟨hmask, hop, hoperand⟩ := lane_places k
  rw [laneNamed, hmask, hop, hoperand]

theorem ruleOf_eq_ite (a : List Byte) : ruleOf a = if badRule a then none else some (ruleNamed a) := by
  by_cases hcount : 4 < arg8 a 12
  · rw [ruleOf_none_of_count hcount,
      if_pos (.inr (.inr (.inr (.inr (.inr (.inr (.inr (.inl hcount))))))))]
  · by_cases hlanes : ∃ k : Fin 4, k.val < arg8 a 12 ∧ (63 < arg8 a (13 + 4 * k.val) ∨ 3 < arg8 a (15 + 4 * k.val))
    · rw [if_pos (.inr (.inr (.inr (.inr (.inr (.inr (.inr (.inr (.inl hlanes)))))))))]
      obtain ⟨k, hk, hlane⟩ := hlanes
      rw [← (lane_places k.val).2.1] at hlane
      exact ruleOf_none_of_lanes (lanesOf_of_badLane hk hlane)
    · have hall : ∀ k, k < arg8 a 12 → ¬ badLane a (13 + 4 * k) := fun k hk h => by
        rw [badLane, (lane_places k).2.1] at h
        exact hlanes ⟨⟨k, by omega⟩, hk, h⟩
      rw [ruleOf_eq (lanesOf_of_lanes hall), List.map_congr_left fun k _ => laneNamed_at a k]
      refine if_congr ?_ rfl rfl
      unfold badRule
      rw [or_iff_right (a := ∃ k : Fin 4, _) hlanes]

theorem laneOf_append {a : List Byte} {i : Nat} (h : i + 4 ≤ a.length) (more : List Byte) :
    laneOf (a ++ more) i = laneOf a i := by
  have hbyte : ∀ k, k < 4 → (a ++ more).getD (i + k) 0 = a.getD (i + k) 0 := fun k hk =>
    List.getD_append _ _ _ _ (by omega)
  have h0 := hbyte 0 (by decide)
  rw [Nat.add_zero] at h0
  rw [laneOf_eq, laneOf_eq, arg8, arg8, h0, hbyte 1 (by decide), hbyte 2 (by decide), hbyte 3 (by decide)]
  rfl

theorem lanesOf_append {a : List Byte} {n : Nat} (more : List Byte) : ∀ {i : Nat}, i + 4 * n ≤ a.length →
    lanesOf (a ++ more) n i = lanesOf a n i := by
  induction n with
  | zero => exact fun _ => rfl
  | succ n ih =>
    intro i h
    rw [lanesOf, lanesOf, laneOf_append (by omega), ih (by omega)]

/-- The bytes behind an image change nothing of what it decodes to. -/
theorem ruleOf_append {image : List Byte} (hlength : image.length = 43) (more : List Byte) :
    ruleOf (image ++ more) = ruleOf image := by
  have h8 : ∀ k, k < 43 → arg8 (image ++ more) k = arg8 image k := fun k hk => arg8_append_of_lt hlength hk more
  by_cases hcount : 4 < arg8 image 12
  · rw [ruleOf_none_of_count hcount, ruleOf_none_of_count (by rw [h8 12 (by decide)]; exact hcount)]
  · have hlanes : lanesOf (image ++ more) (arg8 image 12) 13 = lanesOf image (arg8 image 12) 13 :=
      lanesOf_append more (by omega)
    simp only [ruleOf, wordTestOf, argBit, arg16, arg32, arg8_append_of_lt hlength, hlanes, Nat.reduceLT, Nat.reduceAdd]
    congr!

/-! ## A rule's arming taken back -/

/-- The wakers that name a rule cleared, and the match in flight that names it dispatched with confirm no (R49, R50,
R51). -/
theorem State.clearWakers_dropConfirm (r : RuleIx) : (s.clearWakers r).dropConfirm r = { s with
    domains := Vector.ofFn fun d : DomainIx =>
      if s.domains[d].waker = some r then { s.domains[d] with waker := none, awaiting := false }
      else s.domains[d]
    classification := s.classification.map fun c : Classification =>
      match c.verdict with
      | .matched m => if m.rule = r then { c with verdict := .matched { m with confirm := false } } else c
      | _ => c } := by
  unfold State.clearWakers State.mapDomains State.dropConfirm
  dsimp only
  congr 1
  refine congrArg (fun f => s.classification.map f) (funext fun c => ?_)
  cases c.verdict <;> rfl

theorem State.putRule_eq (r : RuleIx) (x : RuleRecord) : s.putRule r x =
    ((s.clearWakers r).dropConfirm r).putTableRule r { record := x, suspect := none, quarantine := none } := rfl

theorem State.setEnable_false (r : RuleIx) : s.setEnable r false = ((s.clearWakers r).dropConfirm r).putTableRule r
    { s.rules[r] with record := { s.rules[r].record with enabled := false } } := rfl

theorem State.putRule_requests (r : RuleIx) (x : RuleRecord) : (s.putRule r x).requests = s.requests := rfl

/-! ## The three requests -/

theorem exec_writeRule {tag i : Byte} {image more : List Byte} {rest : List (List Byte)} (r : RuleIx)
    (hmode : s.mode ≠ .fallback) (hturn : s.turn (0x10 :: tag :: i :: (image ++ more)) rest)
    (hlength : image.length = 43) :
    (127 < i.toNat → exec .writeRule s = .next (s.answered rest [0x10, tag, 2]))
      ∧ (i.toNat = r.val → ∀ x : Option RuleRecord, ruleOf image = x →
        match x with
        | none => exec .writeRule s = .next (s.answered rest [0x10, tag, 3])
        | some x => exec .writeRule s = .next
            ((((s.clearWakers r).dropConfirm r).putTableRule r
              { record := x, suspect := none, quarantine := none }).answered rest [0x10, tag, 0])) := by
  have hany := (anyMode_iff _).2 hmode
  have hargs : 44 ≤ (i :: (image ++ more)).length := Nat.succ_le_succ (le_length_append hlength more)
  have hdecode : ruleOf (image ++ more) = ruleOf image := ruleOf_append hlength more
  refine ⟨fun hi => ?_, fun hi x hx => ?_⟩
  · have hact : actWriteRule (i :: (image ++ more)) s = .error .badIndex := by
      show (need .badIndex (index? 128 i.toNat) >>= _) = _
      rw [index?_of_ge hi]
      rfl
    exact congrArg Host.Outcome.next (hturn.execute_of_refused (row := .writeRule) rfl hargs hany hact)
  · have hact : actWriteRule (i :: (image ++ more)) s = (need .badValue x >>= fun x => pure (s.putRule r x, [])) := by
      show (need .badIndex (index? 128 i.toNat) >>= fun r => need .badValue (ruleOf (image ++ more)) >>= fun x =>
        pure (s.putRule r x, [])) = _
      rw [index?_of_eq hi, hdecode, hx]
      rfl
    cases x with
    | none => exact congrArg Host.Outcome.next (hturn.execute_of_refused (row := .writeRule) rfl hargs hany hact)
    | some x =>
      have hanswer := hturn.execute_of_accepted (row := .writeRule) rfl hargs hany hact (State.putRule_requests r x)
      rw [State.putRule_eq] at hanswer
      exact congrArg Host.Outcome.next hanswer

theorem exec_setRuleEnable {tag i v : Byte} {more : List Byte} {rest : List (List Byte)} (r : RuleIx)
    (hmode : s.mode ≠ .fallback) (hturn : s.turn (0x12 :: tag :: i :: v :: more) rest) :
    (127 < i.toNat → exec .setRuleEnable s = .next (s.answered rest [0x12, tag, 2]))
      ∧ (i.toNat = r.val → 1 < v.toNat → exec .setRuleEnable s = .next (s.answered rest [0x12, tag, 3]))
      ∧ (i.toNat = r.val → ∀ on : Bool, v.toNat = on.toNat →
          exec .setRuleEnable s = .next ((s.setEnable r on).answered rest [0x12, tag, 0])) := by
  have hany := (anyMode_iff _).2 hmode
  have hargs : 2 ≤ (i :: v :: more).length := by simp
  have hact : i.toNat = r.val → actSetRuleEnable (i :: v :: more) s =
      (need .badValue (boolOf v.toNat) >>= fun on => pure (s.setEnable r on, [])) := fun hi => by
    show (need .badIndex (index? 128 i.toNat) >>= fun r => need .badValue (boolOf v.toNat) >>= fun on =>
      pure (s.setEnable r on, [])) = _
    rw [index?_of_eq hi]
    rfl
  refine ⟨fun hi => ?_, fun hi hv => ?_, fun hi on hv => ?_⟩
  · have hrefused : actSetRuleEnable (i :: v :: more) s = .error .badIndex := by
      show (need .badIndex (index? 128 i.toNat) >>= _) = _
      rw [index?_of_ge hi]
      rfl
    exact congrArg Host.Outcome.next (hturn.execute_of_refused (row := .setRuleEnable) rfl hargs hany hrefused)
  · have hrefused : actSetRuleEnable (i :: v :: more) s = .error .badValue := by
      rw [hact hi, boolOf_eq, if_pos hv]
      rfl
    exact congrArg Host.Outcome.next (hturn.execute_of_refused (row := .setRuleEnable) rfl hargs hany hrefused)
  · have haccepted : actSetRuleEnable (i :: v :: more) s = .ok (s.setEnable r on, []) := by
      rw [hact hi, hv]
      cases on <;> rfl
    exact congrArg Host.Outcome.next
      (hturn.execute_of_accepted (row := .setRuleEnable) rfl hargs hany haccepted (by cases on <;> rfl))

theorem exec_releaseQuarantine {tag i : Byte} {more : List Byte} {rest : List (List Byte)} (r : RuleIx)
    (hmode : s.mode ≠ .fallback) (hturn : s.turn (0x13 :: tag :: i :: more) rest) :
    (127 < i.toNat → exec .releaseQuarantine s = .next (s.answered rest [0x13, tag, 2]))
      ∧ (i.toNat = r.val → exec .releaseQuarantine s = .next
          ((s.putTableRule r { s.rules[r] with suspect := none, quarantine := none }).answered rest [0x13, tag, 0])) := by
  have hany := (anyMode_iff _).2 hmode
  have hargs : 1 ≤ (i :: more).length := by simp
  refine ⟨fun hi => ?_, fun hi => ?_⟩
  · have hact : actReleaseQuarantine (i :: more) s = .error .badIndex := by
      show (need .badIndex (index? 128 i.toNat) >>= _) = _
      rw [index?_of_ge hi]
      rfl
    exact congrArg Host.Outcome.next (hturn.execute_of_refused (row := .releaseQuarantine) rfl hargs hany hact)
  · have hact : actReleaseQuarantine (i :: more) s =
        .ok (s.modRule r fun x => { x with suspect := none, quarantine := none }, []) := by
      show (need .badIndex (index? 128 i.toNat) >>= _) = _
      rw [index?_of_eq hi]
      rfl
    exact congrArg Host.Outcome.next (hturn.execute_of_accepted (row := .releaseQuarantine) rfl hargs hany hact rfl)

/-- Settles O56: the decoder of the image, and what each action replaces. -/
theorem ruleRequestsChangeTheirRule : Obligations.RuleRequestsChangeTheirRule := by
  intro s tag i v image more r rest hmode
  refine ⟨fun hturn hlength => ?_, fun hturn => ?_, fun hturn => ?_⟩
  · obtain ⟨hindex, hwrite⟩ := exec_writeRule r hmode hturn hlength
    refine ⟨hindex, fun hi hbad => hwrite hi none ((ruleOf_eq_ite image).trans (if_pos hbad)), fun hi hbad => ?_⟩
    have h := hwrite hi (some _) ((ruleOf_eq_ite image).trans (if_neg hbad))
    dsimp only at h
    rw [State.clearWakers_dropConfirm] at h
    exact h
  · obtain ⟨hindex, hvalue, hset⟩ := exec_setRuleEnable r hmode hturn
    refine ⟨hindex, hvalue, fun hi hv => ?_, fun hi hv => ?_⟩
    · have h := hset hi false (by rw [hv]; rfl)
      rw [State.setEnable_false, State.clearWakers_dropConfirm] at h
      exact h
    · exact hset hi true (by rw [hv]; rfl)
  · exact exec_releaseQuarantine r hmode hturn

end Sys2Proof.Machine
end

section
/-! Wake requests and the withdrawal of a marker (sections 5.4 and 6.3), and the grants that follow them. -/

namespace Sys2Proof.Machine

variable {s t : State} {b : Branch} {d : DomainIx}

/-! ## Entries of a branch to a state -/

theorem BranchState.enter_awake_of_working {bs : BranchState} (h : bs.mode = .waking ∨ bs.mode = .draining) :
    bs.enter .awake = { bs with mode := .awake } := by
  rcases h with h | h <;> simp [BranchState.enter, h]

theorem BranchState.enter_waking_of_off {bs : BranchState} (h : bs.mode = .off) :
    bs.enter .waking = { bs with mode := .waking, seen := true } := by
  simp [BranchState.enter, h]

theorem BranchState.enter_waking_of_listen {bs : BranchState} (h : bs.mode = .listen) :
    bs.enter .waking = { bs with mode := .waking, seen := true, chatterCount := 0, windowTimer := none } := by
  simp [BranchState.enter, h]

theorem capLinger_effective (n : Nat) : capLinger s.account.effective s.budget.lcap n = s.cappedAt n :=
  if_congr (Level.capping_iff _) rfl rfl

theorem State.cappedDefault_eq (d : DomainIx) : s.cappedDefault d = s.cappedAt s.domains[d].defaultLinger :=
  capLinger_effective _

/-! ## The withdrawal of a marker -/

theorem State.modBranch_twice (s : State) (b : Branch) (f g : BranchState → BranchState) :
    (s.modBranch b f).modBranch b g = s.putBranch b (g (f s.branches[b])) := s.modBranch_putBranch b _ g

/-- The state with other domain records. -/
def State.withDomains (s : State) (ds : Vector Domain 16) : State := { s with domains := ds }

theorem State.unmarked_eq_put (h : s.branches[b].mode = .draining) : s.unmarked b =
    (s.putBranch b { s.branches[b] with mode := .awake, drainTimer := none, closing := false }).putPort (portOf b)
      { s.ports[portOf b] with queue := s.ports[portOf b].queue.filter QueueItem.isFrame } := by
  have henter := BranchState.enter_awake_of_working
    (bs := { s.branches[b] with drainTimer := none, closing := false }) (.inr h)
  have hport := (s.modPort (portOf b) fun ps => { ps with queue := ps.queue.filter QueueItem.isFrame }).modBranch_twice b
    (fun bs => { bs with drainTimer := none, closing := false }) (fun bs => bs.enter .awake)
  refine hport.trans ?_
  exact congrArg (fun x => (s.modPort (portOf b) fun ps => { ps with queue := ps.queue.filter QueueItem.isFrame }).putBranch b x)
    henter

/-- The withdrawal of a marker on the records of the branch, its port and its domains (R89). -/
theorem State.withdrawMarker_eq_put (h : s.branches[b].mode = .draining) : s.withdrawMarker b =
    { (s.putBranch b { s.branches[b] with mode := .awake, drainTimer := none, closing := false }).putPort (portOf b)
        { s.ports[portOf b] with queue := s.ports[portOf b].queue.filter QueueItem.isFrame } with
      domains := Vector.ofFn fun i =>
        if s.domains[i].branch = some b ∧ s.domains[i].state = .releasing then
          { s.domains[i] with state := .on, remaining := s.cappedAt s.domains[i].defaultLinger }
        else s.domains[i] } := by
  rw [s.withdrawMarker_eq h, State.unmarked_eq_put h, State.reviveReleasing, State.mapDomains]
  refine congrArg (State.withDomains ((s.putBranch b _).putPort (portOf b) _)) (congrArg Vector.ofFn (funext fun i => ?_))
  rw [State.cappedDefault_eq]
  rfl

/-- An Off or Releasing domain that leaves its state on its branch in Parked (R89, R121). -/
theorem State.branchJoined_putDomain {q : Domain} (hparked : s.mode = .parked) (hmode : s.branches[b].mode ≠ .isolated)
    (hq : q.state ≠ .releasing) : (s.putDomain d q).branchJoined b = s.joined d b q := by
  unfold State.branchJoined State.joined
  dsimp only
  rw [if_pos (show (s.putDomain d q).mode = .parked from hparked)]
  have hput : (s.putDomain d q).branches[b].mode = s.branches[b].mode := rfl
  rw [hput]
  cases hm : s.branches[b].mode with
  | off =>
    show (s.putDomain d q).enterBranch b .waking = (s.putDomain d q).putBranch b _
    exact congrArg ((s.putDomain d q).putBranch b) (BranchState.enter_waking_of_off hm)
  | listen =>
    show (s.putDomain d q).enterBranch b .waking = (s.putDomain d q).putBranch b _
    exact congrArg ((s.putDomain d q).putBranch b) (BranchState.enter_waking_of_listen hm)
  | waking => rfl
  | awake => rfl
  | isolated => exact absurd hm hmode
  | draining =>
    refine (State.withdrawMarker_eq_put (s := s.putDomain d q) hm).trans ?_
    refine congrArg (State.withDomains ((s.putBranch b _).putPort (portOf b) _)) (congrArg Vector.ofFn (funext fun i => ?_))
    by_cases hi : i = d
    · subst hi
      rw [if_pos rfl, State.putDomain_get, if_neg fun h => hq h.2]
    · rw [if_neg hi, s.putDomain_get_ne q hi]
      rfl

/-! ## Domains that wait or are powering up -/

/-- The domains that wait and the domains in PowerUp are the same in both states, a domain apart. -/
def State.sameWaiting (s t : State) (d : Option DomainIx) : Prop :=
  t.inrushLimit = s.inrushLimit ∧ ∀ i : DomainIx, some i ≠ d →
    (t.domains[i].state = .queued ↔ s.domains[i].state = .queued) ∧
    (t.domains[i].state = .powerUp ↔ s.domains[i].state = .powerUp)

theorem State.sameWaiting.idle (h : s.sameWaiting t none) (hidle : s.arbiterIdle) : t.arbiterIdle := by
  obtain ⟨hlimit, hsame⟩ := h
  have hcount : t.powerUpCount = s.powerUpCount := List.countP_congr fun i _ => by
    rw [decide_eq_true_iff, decide_eq_true_iff]
    exact (hsame i nofun).2
  rcases hidle with hfull | hnone
  · exact .inl (by rw [hlimit, hcount]; exact hfull)
  · exact .inr fun i => mt (hsame i nofun).1.1 (hnone i)

theorem State.sameWaiting.powerUpCount (h : s.sameWaiting t (some d)) (hs : s.domains[d].state ≠ .powerUp)
    (ht : t.domains[d].state ≠ .powerUp) : t.powerUpCount = s.powerUpCount := by
  refine List.countP_congr fun i _ => ?_
  rw [decide_eq_true_iff, decide_eq_true_iff]
  by_cases hi : i = d
  · subst hi
    exact iff_of_false ht hs
  · exact (h.2 i fun e => hi (Option.some.inj e)).2

/-- An Off domain joins the pending set while no place is free. -/
theorem State.sameWaiting.runArbiter_full (h : s.sameWaiting t (some d)) (hs : s.domains[d].state = .off)
    (ht : t.domains[d].state = .queued) (hfull : s.inrushLimit ≤ s.powerUpCount) : t.runArbiter = t := by
  refine State.runArbiter_of_idle (.inl ?_)
  rw [h.1, h.powerUpCount (by rw [hs]; decide) (by rw [ht]; decide)]
  exact hfull

section
variable (h : s.sameWaiting t (some d)) (hs : s.domains[d].state = .off) (ht : t.domains[d].state = .queued)
  (hidle : s.arbiterIdle) (hfree : s.powerUpCount < s.inrushLimit)
include h hs ht hidle hfree

/-- An Off domain that joins the pending set while a place is free is the only one that waits. -/
theorem State.sameWaiting.only : t.powerUpCount < t.inrushLimit ∧
    ∀ i : DomainIx, i ≠ d → t.domains[i].state ≠ .queued := by
  refine ⟨?_, fun i hi => ?_⟩
  · rw [h.1, h.powerUpCount (by rw [hs]; decide) (by rw [ht]; decide)]
    exact hfree
  · have hnone := hidle.resolve_left (Nat.not_le.2 hfree) i
    exact mt (h.2 i fun e => hi (Option.some.inj e)).1.1 hnone

theorem State.sameWaiting.runArbiter_free (hpin : t.faultInputs.getLsbD d.val = false) : t.runArbiter = t.granted d :=
  have hone := h.only hs ht hidle hfree
  State.runArbiter_of_only hone.1 hpin ht hone.2

theorem State.sameWaiting.runArbiter_faulted (hpin : t.faultInputs.getLsbD d.val = true) : t.runArbiter =
    ({ t.putDomain d t.domains[d].grantedInFault with lastGranted := d } : State).reportFault d .powerUp :=
  have hone := h.only hs ht hidle hfree
  State.runArbiter_of_faulted hone.1 hpin ht hone.2

end

theorem State.sameWaiting.putDomain (h : s.sameWaiting t none) (d : DomainIx) (x : Domain) :
    s.sameWaiting (t.putDomain d x) (some d) :=
  ⟨h.1, fun i hi => by
    have hne : i ≠ d := fun e => hi (congrArg some e)
    rw [t.putDomain_get_ne x hne]
    exact h.2 i nofun⟩

theorem State.sameWaiting_putDomain (d : DomainIx) (x : Domain) : s.sameWaiting (s.putDomain d x) (some d) :=
  ⟨rfl, fun i hi => by
    have hne : i ≠ d := fun e => hi (congrArg some e)
    rw [s.putDomain_get_ne x hne]
    exact ⟨Iff.rfl, Iff.rfl⟩⟩

/-- A record that neither waits nor powers up, before and after. -/
theorem State.arbiterIdle.putDomain (h : s.arbiterIdle) {x : Domain}
    (hqueued : x.state = .queued ↔ s.domains[d].state = .queued)
    (hpower : x.state = .powerUp ↔ s.domains[d].state = .powerUp) : (s.putDomain d x).arbiterIdle := by
  refine State.sameWaiting.idle (s := s) ⟨rfl, fun i _ => ?_⟩ h
  by_cases hi : i = d
  · subst hi
    rw [s.putDomain_get]
    exact ⟨hqueued, hpower⟩
  · rw [s.putDomain_get_ne x hi]
    exact ⟨Iff.rfl, Iff.rfl⟩

/-! ## A domain that joins its branch -/

theorem ofFn_set {α : Type} {n : Nat} (f : Fin n → α) (d : Fin n) (x : α) :
    (Vector.ofFn f).set d x = Vector.ofFn fun i => if i = d then x else f i := by
  refine Vector.ext fun i hi => ?_
  rw [Vector.getElem_set, Vector.getElem_ofFn, Vector.getElem_ofFn]
  exact if_congr ⟨fun h => Fin.ext h.symm, fun h => (congrArg Fin.val h).symm⟩ rfl rfl

theorem State.withDomains_putDomain_ofFn (u : State) (f : DomainIx → Domain) (d : DomainIx) (q : Domain) :
    (u.withDomains (Vector.ofFn f)).putDomain d q = u.withDomains (Vector.ofFn fun i => if i = d then q else f i) :=
  congrArg u.withDomains (ofFn_set f d q)

theorem State.joined_of_draining (h : s.branches[b].mode = .draining) (d : DomainIx) (q : Domain) :
    s.joined d b q = (s.withdrawMarker b).putDomain d q := by
  rw [State.withdrawMarker_eq_put h]
  unfold State.joined
  dsimp only
  rw [h]
  exact (State.withDomains_putDomain_ofFn ((s.putBranch b _).putPort (portOf b) _) _ d q).symm

/-- The withdrawal of a marker turns Releasing domains On alone. -/
theorem State.withdrawMarker_sameWaiting (h : s.branches[b].mode = .draining) :
    s.sameWaiting (s.withdrawMarker b) none ∧ (s.withdrawMarker b).faultInputs = s.faultInputs := by
  rw [State.withdrawMarker_eq_put h]
  refine ⟨⟨rfl, fun i _ => ?_⟩, rfl⟩
  dsimp only
  rw [ofFn_get]
  split
  next hi =>
    rw [hi.2]
    exact ⟨⟨nofun, nofun⟩, nofun, nofun⟩
  next => exact ⟨Iff.rfl, Iff.rfl⟩

/-- What joining a branch does but for the domain's own record: it leaves K, the pins and the domains that wait or are
powering up as they are. -/
theorem State.joined_frame (hmode : s.branches[b].mode ≠ .isolated) (d : DomainIx) : ∃ u : State,
    s.sameWaiting u none ∧ u.faultInputs = s.faultInputs ∧ ∀ q : Domain, s.joined d b q = u.putDomain d q := by
  by_cases hm : s.branches[b].mode = .draining
  · obtain ⟨hsame, hpins⟩ := State.withdrawMarker_sameWaiting hm
    exact ⟨s.withdrawMarker b, hsame, hpins, State.joined_of_draining hm d⟩
  unfold State.joined
  dsimp only
  cases hm' : s.branches[b].mode with
  | draining => exact absurd hm' hm
  | isolated => exact absurd hm' hmode
  | off => exact ⟨s.putBranch b _, ⟨rfl, fun _ _ => ⟨Iff.rfl, Iff.rfl⟩⟩, rfl, fun _ => rfl⟩
  | listen => exact ⟨s.putBranch b _, ⟨rfl, fun _ _ => ⟨Iff.rfl, Iff.rfl⟩⟩, rfl, fun _ => rfl⟩
  | waking => exact ⟨s, ⟨rfl, fun _ _ => ⟨Iff.rfl, Iff.rfl⟩⟩, rfl, fun _ => rfl⟩
  | awake => exact ⟨s, ⟨rfl, fun _ _ => ⟨Iff.rfl, Iff.rfl⟩⟩, rfl, fun _ => rfl⟩

theorem State.putDomain_granted (u : State) (d : DomainIx) (q : Domain) : (u.putDomain d q).granted d =
    { u.putDomain d { q with state := .powerUp, seen := true, settle := q.settleTime } with lastGranted := d } := by
  rw [State.granted, State.putDomain_putDomain, State.putDomain_get]

/-! ## A wake request of an Off domain with the grant it allows -/

section
variable {q : Domain} (hoff : s.domains[d].state = .off) (hq : q.state = .queued)
include hoff hq

theorem State.runArbiter_putDomain_full (hfull : s.inrushLimit ≤ s.powerUpCount) :
    (s.putDomain d q).runArbiter = s.putDomain d q :=
  (s.sameWaiting_putDomain d q).runArbiter_full hoff (by rw [s.putDomain_get]; exact hq) hfull

theorem State.runArbiter_putDomain_free (hidle : s.arbiterIdle) (hfree : s.powerUpCount < s.inrushLimit)
    (hpin : s.faultInputs.getLsbD d.val = false) : (s.putDomain d q).runArbiter =
      { s.putDomain d { q with state := .powerUp, seen := true, settle := q.settleTime } with lastGranted := d } :=
  ((s.sameWaiting_putDomain d q).runArbiter_free hoff (by rw [s.putDomain_get]; exact hq) hidle hfree hpin).trans
    (s.putDomain_granted d q)

theorem State.runArbiter_joined_full (hmode : s.branches[b].mode ≠ .isolated) (hfull : s.inrushLimit ≤ s.powerUpCount) :
    (s.joined d b q).runArbiter = s.joined d b q := by
  obtain ⟨u, hsame, -, hjoined⟩ := State.joined_frame hmode d
  rw [hjoined]
  exact (hsame.putDomain d q).runArbiter_full hoff (by rw [u.putDomain_get]; exact hq) hfull

theorem State.runArbiter_joined_free (hmode : s.branches[b].mode ≠ .isolated) (hidle : s.arbiterIdle)
    (hfree : s.powerUpCount < s.inrushLimit) (hpin : s.faultInputs.getLsbD d.val = false) :
    (s.joined d b q).runArbiter =
      { s.joined d b { q with state := .powerUp, seen := true, settle := q.settleTime } with lastGranted := d } := by
  obtain ⟨u, hsame, hpins, hjoined⟩ := State.joined_frame hmode d
  rw [hjoined, hjoined, ← u.putDomain_granted]
  exact (hsame.putDomain d q).runArbiter_free hoff (by rw [u.putDomain_get]; exact hq) hidle hfree
    (by rw [← hpin, ← hpins]; rfl)

end

/-! ## A wake request by the state of its domain -/

section
variable {k : WakeClass} {n : Nat} {r : Option RuleIx}

theorem State.requestWake_off (hoff : s.domains[d].state = .off)
    (h : s.domains[d].branch = none ∨ s.domains[d].branch = some b ∧
      (s.branches[b].mode = .waking ∨ s.branches[b].mode = .awake ∨ s.branches[b].mode ≠ .isolated ∧ s.mode ≠ .parked)) :
    s.requestWake d k n r = s.putDomain d (s.domains[d].queuedFor k n r) := by
  unfold State.requestWake
  dsimp only
  rw [hoff]
  dsimp only
  rcases h with h | ⟨h, hmode⟩
  · rw [h]
    rfl
  · rw [h]
    dsimp only
    have hput : (s.modDomain d fun x => x.queuedFor k n r).branches[b].mode = s.branches[b].mode := rfl
    have hopen : s.branches[b].mode ≠ .isolated := by
      rcases hmode with hm | hm | hm
      · exact hm ▸ nofun
      · exact hm ▸ nofun
      · exact hm.1
    rw [if_neg hopen, State.branchJoined, hput]
    rcases hmode with hm | hm | ⟨-, hm⟩
    · rw [hm]
      exact ite_self _
    · rw [hm]
      exact ite_self _
    · exact if_neg hm

theorem State.requestWake_off_isolated (hoff : s.domains[d].state = .off) (hbranch : s.domains[d].branch = some b)
    (hmode : s.branches[b].mode = .isolated) : s.requestWake d k n r = s := by
  unfold State.requestWake
  dsimp only
  rw [hoff, hbranch]
  exact if_pos hmode

theorem Domain.queuedFor_state (x : Domain) : (x.queuedFor k n r).state = .queued := by
  unfold Domain.queuedFor
  dsimp only
  split <;> rfl

theorem State.requestWake_off_parked (hoff : s.domains[d].state = .off) (hbranch : s.domains[d].branch = some b)
    (hmode : s.branches[b].mode ≠ .isolated) (hparked : s.mode = .parked) :
    s.requestWake d k n r = s.joined d b (s.domains[d].queuedFor k n r) := by
  unfold State.requestWake
  dsimp only
  rw [hoff, hbranch]
  exact (if_neg hmode).trans (State.branchJoined_putDomain hparked hmode (by rw [Domain.queuedFor_state]; decide))

theorem State.requestWake_waiting (h : s.domains[d].state = .queued ∨ s.domains[d].state = .powerUp) :
    s.requestWake d k n r = s.putDomain d
      { s.domains[d] with pending := max s.domains[d].pending n, pendingClass := s.domains[d].pendingClass.higher k } := by
  have hmod : s.requestWake d k n r = s.modDomain d fun x =>
      { x with pending := max x.pending n, pendingClass := x.pendingClass.higher k } := by
    unfold State.requestWake
    dsimp only
    rcases h with h | h <;> rw [h]
  exact hmod

theorem State.requestWake_on (h : s.domains[d].state = .on) :
    s.requestWake d k n r = s.putDomain d { s.domains[d] with remaining := max s.domains[d].remaining n } := by
  have hmod : s.requestWake d k n r = s.modDomain d fun x => { x with remaining := max x.remaining n } := by
    unfold State.requestWake
    dsimp only
    rw [h]
  exact hmod

theorem State.requestWake_releasing_of_branch (h : s.domains[d].state = .releasing) (hbranch : s.domains[d].branch = some b) :
    s.requestWake d k n r = (s.modDomain d fun x => { x with state := .on, remaining := n }).withdrawMarker b := by
  unfold State.requestWake
  dsimp only
  rw [h, hbranch]

theorem State.requestWake_releasing (h : s.domains[d].state = .releasing)
    (hbranch : s.domains[d].branch = none ∨ s.domains[d].branch = some b ∧ s.branches[b].mode ≠ .draining) :
    s.requestWake d k n r = s.putDomain d { s.domains[d] with state := .on, remaining := n } := by
  rcases hbranch with hb | ⟨hb, hm⟩
  · have hmod : s.requestWake d k n r = s.modDomain d fun x => { x with state := .on, remaining := n } := by
      unfold State.requestWake
      dsimp only
      rw [h, hb]
    exact hmod
  · rw [State.requestWake_releasing_of_branch h hb]
    exact if_neg hm

/-- A Releasing domain of a Draining branch that returns to On (R89). -/
theorem State.withdrawMarker_putDomain {q : Domain} (hmode : s.branches[b].mode = .draining) (hq : q.state ≠ .releasing) :
    (s.putDomain d q).withdrawMarker b = s.joined d b q := by
  rw [State.joined_of_draining hmode, State.withdrawMarker_eq_put hmode, State.withdrawMarker_eq_put (s := s.putDomain d q) hmode]
  refine Eq.trans ?_ (State.withDomains_putDomain_ofFn ((s.putBranch b _).putPort (portOf b) _) _ d q).symm
  refine congrArg (State.withDomains ((s.putBranch b _).putPort (portOf b) _)) (congrArg Vector.ofFn (funext fun i => ?_))
  by_cases hi : i = d
  · subst hi
    rw [if_pos rfl, State.putDomain_get, if_neg fun h => hq h.2]
  · rw [if_neg hi, s.putDomain_get_ne q hi]
    rfl

theorem State.requestWake_revived (h : s.domains[d].state = .releasing) (hbranch : s.domains[d].branch = some b)
    (hmode : s.branches[b].mode = .draining) :
    s.requestWake d k n r = s.joined d b { s.domains[d] with state := .on, remaining := n } := by
  rw [State.requestWake_releasing_of_branch h hbranch]
  exact State.withdrawMarker_putDomain hmode nofun

theorem State.requestWake_fault (h : s.domains[d].state = .fault) : s.requestWake d k n r = s := by
  unfold State.requestWake
  dsimp only
  rw [h]

end

end Sys2Proof.Machine
end

section
/-! Dispatches of single items: a wake request, an activity reload, a forward copy, a battery figure (chapter 4). -/

namespace Sys2Proof.Machine

variable {s t : State} {b : Branch} {d : DomainIx}

/-! ## Sets of one member -/

theorem filter_twoPow {n : Nat} (l : List (Fin n)) (hl : l.Nodup) {i : Fin n} (hi : i ∈ l) :
    (l.filter fun j => (BitVec.twoPow n i.val).getLsbD j.val) = [i] := by
  have hiff : ∀ j : Fin n, (BitVec.twoPow n i.val).getLsbD j.val = decide (j = i) := fun j => by
    rw [BitVec.getLsbD_twoPow]
    simp [Fin.ext_iff, eq_comm]
  simp only [hiff]
  rw [List.filter_eq, List.count_eq_one_of_mem hl hi]
  rfl

theorem twoPow_beq_zero : ∀ d : DomainIx, (BitVec.twoPow 16 d.val == (0 : BitVec 16)) = false := by decide

theorem filter_zero {n : Nat} (l : List (Fin n)) : (l.filter fun j => (0 : BitVec n).getLsbD j.val) = [] :=
  List.filter_eq_nil_iff.2 fun j _ => by simp

/-! ## The parts of a dispatch -/

theorem State.issueWakes_single {l : Level} {k : WakeClass} {n : Nat} {r : Option RuleIx} (d : DomainIx) :
    s.issueWakes l (BitVec.twoPow 16 d.val) k n r = s.wake d k (s.effectiveLinger l n d) r := by
  rw [State.issueWakes, filter_twoPow _ allDomains_nodup (mem_allDomains d)]
  rfl

theorem State.issueWakes_none {l : Level} {k : WakeClass} {n : Nat} {r : Option RuleIx} : s.issueWakes l 0 k n r = s := by
  rw [State.issueWakes, filter_zero]
  rfl

theorem State.issueReloads_single {l : Level} (d : DomainIx) : s.issueReloads l (BitVec.twoPow 16 d.val) =
    s.reloadActivity d (capLinger l s.budget.lcap s.domains[d].defaultLinger) := by
  rw [State.issueReloads, filter_twoPow _ allDomains_nodup (mem_allDomains d)]
  rfl

theorem State.issueReloads_none {l : Level} : s.issueReloads l 0 = s := by
  rw [State.issueReloads, filter_zero]
  rfl

theorem State.offerCopies_single {f : Frame} {k : WakeClass} {hold : Bool} (p : Port) :
    s.offerCopies (BitVec.twoPow 7 p.val) f k hold = s.offerCopy p f k hold := by
  rw [State.offerCopies, filter_twoPow _ allPorts_nodup (mem_allPorts p)]
  rfl

theorem State.offerCopies_none {f : Frame} {k : WakeClass} {hold : Bool} : s.offerCopies 0 f k hold = s := by
  rw [State.offerCopies, filter_zero]
  rfl

theorem State.issueChatter_false (p : Port) : s.issueChatter false p = s := by
  unfold State.issueChatter
  cases branchOf p <;> rfl

theorem State.inListen_of_countsNoChatter {p : Port} (h : s.countsNoChatter p) : s.inListen p = false := by
  unfold State.inListen
  cases hb : branchOf p with
  | none => rfl
  | some b =>
    have hmode := h b ((branchOf_eq_some_iff p b).1 hb)
    refine Bool.eq_false_iff.2 fun hlisten => hmode ?_
    obtain ⟨hparked, hlisten⟩ := Bool.and_eq_true_iff.1 hlisten
    exact ⟨beq_iff_eq.1 hparked, beq_iff_eq.1 hlisten⟩

/-! ## The outcome -/

theorem State.outcomeFor_of_honours {k : WakeClass} (h : s.honours k) : s.outcomeFor k = .honour := by
  unfold State.outcomeFor
  rcases h with hdrive | ⟨hparked, hclass⟩
  · rw [hdrive]
    rfl
  · rw [if_pos hparked]
    rcases hclass with rfl | ⟨rfl, hlevel | hlevel⟩ | ⟨rfl, hlevel, hreserve⟩
    · rfl
    · unfold State.matrix; rw [hlevel]
    · unfold State.matrix; rw [hlevel]
    · unfold State.matrix; rw [hlevel]
      exact if_pos (decide_eq_true hreserve)

theorem State.outcomeFor_of_not_honours {k : WakeClass} (hparked : s.mode = .parked) (h : ¬ s.honours k) :
    s.outcomeFor k = if k = .c ∧ (s.account.effective = .red ∨ s.account.effective = .exhausted) then .drop
      else .deliverOnly := by
  have hclass := fun hclass => h (.inr ⟨hparked, hclass⟩)
  unfold State.outcomeFor
  rw [if_pos hparked]
  cases k with
  | a => exact absurd (.inl rfl) hclass
  | b =>
    rw [if_neg nofun]
    cases hlevel : s.account.effective with
    | green => exact absurd (.inr (.inl ⟨rfl, .inl hlevel⟩)) hclass
    | amber => exact absurd (.inr (.inl ⟨rfl, .inr hlevel⟩)) hclass
    | red => unfold State.matrix; rw [hlevel]
    | exhausted => unfold State.matrix; rw [hlevel]
  | c =>
    cases hlevel : s.account.effective with
    | green =>
      unfold State.matrix
      rw [hlevel]
      exact (if_neg fun hreserve => hclass (.inr (.inr ⟨rfl, hlevel, of_decide_eq_true hreserve⟩))).trans rfl
    | amber =>
      unfold State.matrix; rw [hlevel]
      rfl
    | red =>
      unfold State.matrix; rw [hlevel]
      rfl
    | exhausted =>
      unfold State.matrix; rw [hlevel]
      rfl

theorem exec_classificationDispatch {c : Classification} (h : s.classification = some c) :
    exec .classificationDispatch s = .next (({ s with classification := none } : State).dispatch c) := by
  show execClassificationDispatch s = _
  rw [execClassificationDispatch, h]

theorem State.dispatch_matched {c : Classification} {m : Match} (h : c.verdict = .matched m) :
    s.dispatch c = s.dispatchMatch c.port c.frame m := by
  rw [State.dispatch, h]

section
variable {m : Match} {p : Port} {f : Frame}

theorem State.dispatchMatch_honoured (h : s.honours m.cls) : s.dispatchMatch p f m = s.honour p f m := by
  rw [State.dispatchMatch, State.outcomeFor_of_honours h]

/-- An Honour of a wake request alone. -/
theorem State.honour_wake (hwake : m.wake = BitVec.twoPow 16 d.val) (hactivity : m.activity = 0) (hforward : m.forward = 0)
    (hbattery : m.battery = none) : s.honour p f m =
      s.wake d m.cls (s.cappedAt (if m.linger = 0 then s.domains[d].defaultLinger else m.linger)) (s.armedBy m) := by
  have hnonzero := twoPow_beq_zero d
  unfold State.honour
  dsimp only
  rw [hwake, hactivity, hforward, hbattery, hnonzero, Bool.and_false, State.issueChatter_false, State.issueBattery,
    State.offerCopies_none, State.issueReloads_none, State.issueWakes_single, State.effectiveLinger, capLinger_effective]

end

/-! ## A domain asked for by an Honoured dispatch -/

theorem Domain.queuedFor_armed (x : Domain) (k : WakeClass) (n : Nat) (r : RuleIx) (p q : Prop) [Decidable p] [Decidable q] :
    x.queuedFor k n (if p ∧ q then some r else none) =
      { x with
        state := .queued, pending := n, pendingClass := k,
        waker := if p ∧ q ∧ x.branch.isSome = true then some r else x.waker
        awaiting := if p ∧ q ∧ x.branch.isSome = true then true else x.awaiting } := by
  unfold Domain.queuedFor
  by_cases h : p ∧ q
  · cases hbranch : x.branch <;> simp [h.1, h.2]
  · have hall : ¬ (p ∧ q ∧ x.branch.isSome = true) := fun hall => h ⟨hall.1, hall.2.1⟩
    rw [if_neg h, if_neg hall, if_neg hall]

theorem WakeClass.higher_eq (x y : WakeClass) : x.higher y =
    if x = .a ∨ y = .a then .a else if x = .b ∨ y = .b then .b else .c := by
  cases x <;> cases y <;> rfl

end Sys2Proof.Machine
end

section
/-! What a wake request does with the grant it allows, by the state of its domain (sections 4.4, 6.3 and 6.4). -/

namespace Sys2Proof.Machine

variable {s : State} {b : Branch} {d : DomainIx}

/-- The place that a granted domain would take is given up again where its fault input is asserted, and a domain
without branch leaves it at the report (R112). -/
theorem State.runArbiter_putDomain_faulted {q : Domain} (hoff : s.domains[d].state = .off) (hq : q.state = .queued)
    (hidle : s.arbiterIdle) (hfree : s.powerUpCount < s.inrushLimit) (hpin : s.faultInputs.getLsbD d.val = true)
    (hbranch : q.branch = none) : (s.putDomain d q).runArbiter =
      ({ s.putDomain d { q.dark with state := .fault, seen := true } with lastGranted := d } : State).raise .domainFault
        (some d.val) 2 0 := by
  have hfault := (s.sameWaiting_putDomain d q).runArbiter_faulted hoff (by rw [s.putDomain_get]; exact hq) hidle hfree hpin
  rw [State.putDomain_get, State.putDomain_putDomain] at hfault
  rw [hfault, State.reportFault, State.followDomain]
  have hget : (s.putDomain d q.grantedInFault).domains[d].branch = none := by
    rw [s.putDomain_get]
    exact hbranch
  dsimp only
  rw [hget]
  rfl

section
variable {k : WakeClass} {n : Nat} {r : Option RuleIx}

/-- The branch of a domain lets a wake request through without following it: there is none, or it is at work, or the
part is outside Parked and the branch is not Isolated. -/
def State.standsBeside (s : State) (d : DomainIx) (b : Branch) : Prop :=
  s.domains[d].branch = none ∨ s.domains[d].branch = some b ∧
    (s.branches[b].mode = .waking ∨ s.branches[b].mode = .awake ∨ s.branches[b].mode ≠ .isolated ∧ s.mode ≠ .parked)

theorem Domain.queuedFor_dark {x : Domain} : (x.queuedFor k n r).dark = x.dark := by
  unfold Domain.queuedFor
  dsimp only
  split <;> rfl

theorem Domain.queuedFor_branch {x : Domain} : (x.queuedFor k n r).branch = x.branch := by
  unfold Domain.queuedFor
  dsimp only
  split <;> rfl

theorem Domain.queuedFor_settleTime {x : Domain} : (x.queuedFor k n r).settleTime = x.settleTime := by
  unfold Domain.queuedFor
  dsimp only
  split <;> rfl

theorem State.joined_isolated (hmode : s.branches[b].mode = .isolated) (q : Domain) : s.joined d b q = s := by
  unfold State.joined
  dsimp only
  rw [hmode]

theorem State.wake_full (hoff : s.domains[d].state = .off) (h : s.standsBeside d b)
    (hfull : s.inrushLimit ≤ s.powerUpCount) : s.wake d k n r = s.putDomain d (s.domains[d].queuedFor k n r) := by
  rw [State.wake, State.requestWake_off hoff h]
  exact State.runArbiter_putDomain_full hoff (Domain.queuedFor_state _) hfull

theorem State.wake_full_parked (hoff : s.domains[d].state = .off) (hbranch : s.domains[d].branch = some b)
    (hmode : s.branches[b].mode ≠ .isolated) (hparked : s.mode = .parked) (hfull : s.inrushLimit ≤ s.powerUpCount) :
    s.wake d k n r = s.joined d b (s.domains[d].queuedFor k n r) := by
  rw [State.wake, State.requestWake_off_parked hoff hbranch hmode hparked]
  exact State.runArbiter_joined_full hoff (Domain.queuedFor_state _) hmode hfull

theorem State.wake_isolated (hidle : s.arbiterIdle) (hoff : s.domains[d].state = .off)
    (hbranch : s.domains[d].branch = some b) (hmode : s.branches[b].mode = .isolated) : s.wake d k n r = s := by
  rw [State.wake, State.requestWake_off_isolated hoff hbranch hmode, State.runArbiter_of_idle hidle]

theorem State.wake_free (hidle : s.arbiterIdle) (hoff : s.domains[d].state = .off) (h : s.standsBeside d b)
    (hfree : s.powerUpCount < s.inrushLimit) (hpin : s.faultInputs.getLsbD d.val = false) : s.wake d k n r =
      { s.putDomain d { s.domains[d].queuedFor k n r with
          state := .powerUp, seen := true, settle := (s.domains[d].queuedFor k n r).settleTime } with lastGranted := d } := by
  rw [State.wake, State.requestWake_off hoff h]
  exact State.runArbiter_putDomain_free hoff (Domain.queuedFor_state _) hidle hfree hpin

theorem State.wake_free_parked (hidle : s.arbiterIdle) (hoff : s.domains[d].state = .off)
    (hbranch : s.domains[d].branch = some b) (hmode : s.branches[b].mode ≠ .isolated) (hparked : s.mode = .parked)
    (hfree : s.powerUpCount < s.inrushLimit) (hpin : s.faultInputs.getLsbD d.val = false) : s.wake d k n r =
      { s.joined d b { s.domains[d].queuedFor k n r with
          state := .powerUp, seen := true, settle := (s.domains[d].queuedFor k n r).settleTime } with lastGranted := d } := by
  rw [State.wake, State.requestWake_off_parked hoff hbranch hmode hparked]
  exact State.runArbiter_joined_free hoff (Domain.queuedFor_state _) hmode hidle hfree hpin

theorem State.wake_faulted (hidle : s.arbiterIdle) (hoff : s.domains[d].state = .off) (hbranch : s.domains[d].branch = none)
    (hfree : s.powerUpCount < s.inrushLimit) (hpin : s.faultInputs.getLsbD d.val = true) : s.wake d k n r =
      ({ s.putDomain d { s.domains[d].dark with state := .fault, seen := true } with lastGranted := d } : State).raise
        .domainFault (some d.val) 2 0 := by
  rw [State.wake, State.requestWake_off (b := 0) hoff (.inl hbranch), ← Domain.queuedFor_dark (k := k) (n := n) (r := r)]
  exact State.runArbiter_putDomain_faulted hoff (Domain.queuedFor_state _) hidle hfree hpin
    (Domain.queuedFor_branch.trans hbranch)

theorem State.wake_waiting (hidle : s.arbiterIdle) (h : s.domains[d].state = .queued ∨ s.domains[d].state = .powerUp) :
    s.wake d k n r = s.putDomain d
      { s.domains[d] with pending := max s.domains[d].pending n, pendingClass := s.domains[d].pendingClass.higher k } := by
  rw [State.wake, State.requestWake_waiting h]
  exact State.runArbiter_of_idle (hidle.putDomain Iff.rfl Iff.rfl)

theorem State.wake_on (hidle : s.arbiterIdle) (h : s.domains[d].state = .on) :
    s.wake d k n r = s.putDomain d { s.domains[d] with remaining := max s.domains[d].remaining n } := by
  rw [State.wake, State.requestWake_on h]
  exact State.runArbiter_of_idle (hidle.putDomain Iff.rfl Iff.rfl)

theorem State.wake_releasing (hidle : s.arbiterIdle) (h : s.domains[d].state = .releasing)
    (hbranch : s.domains[d].branch = none ∨ s.domains[d].branch = some b ∧ s.branches[b].mode ≠ .draining) :
    s.wake d k n r = s.putDomain d { s.domains[d] with state := .on, remaining := n } := by
  rw [State.wake, State.requestWake_releasing h hbranch]
  exact State.runArbiter_of_idle (hidle.putDomain (by rw [h]; exact ⟨nofun, nofun⟩) (by rw [h]; exact ⟨nofun, nofun⟩))

theorem State.joined_idle {q : Domain} (hidle : s.arbiterIdle) (h : s.domains[d].state = .releasing)
    (hmode : s.branches[b].mode = .draining) (hq : q.state = .on) : (s.joined d b q).arbiterIdle := by
  rw [State.joined_of_draining hmode]
  obtain ⟨hsame, -⟩ := State.withdrawMarker_sameWaiting hmode
  have hd := hsame.2 d nofun
  rw [h] at hd
  refine (hsame.idle hidle).putDomain ⟨fun e => ?_, fun e => ?_⟩ ⟨fun e => ?_, fun e => ?_⟩
  · exact absurd (hq.symm.trans e) nofun
  · exact absurd (hd.1.1 e) nofun
  · exact absurd (hq.symm.trans e) nofun
  · exact absurd (hd.2.1 e) nofun

theorem State.wake_revived (hidle : s.arbiterIdle) (h : s.domains[d].state = .releasing)
    (hbranch : s.domains[d].branch = some b) (hmode : s.branches[b].mode = .draining) :
    s.wake d k n r = s.joined d b { s.domains[d] with state := .on, remaining := n } := by
  rw [State.wake, State.requestWake_revived h hbranch hmode]
  exact State.runArbiter_of_idle (State.joined_idle hidle h hmode rfl)

theorem State.wake_fault (hidle : s.arbiterIdle) (h : s.domains[d].state = .fault) : s.wake d k n r = s := by
  rw [State.wake, State.requestWake_fault h, State.runArbiter_of_idle hidle]

end

/-! ## The wake request of a dispatch -/

/-- The classifier is free again (R25). -/
def State.unclassified (s : State) : State := { s with classification := none }

theorem exec_classificationDispatch_honoured {c : Classification} {m : Match} (hc : s.classification = some c)
    (hverdict : c.verdict = .matched m) (h : s.honours m.cls) :
    exec .classificationDispatch s = .next (s.unclassified.honour c.port c.frame m) := by
  have hhonours : s.unclassified.honours m.cls := h
  rw [← State.dispatchMatch_honoured hhonours, ← State.dispatch_matched hverdict]
  exact exec_classificationDispatch hc

/-- Settles O25: the wake request by the state of the domain, then the arbiter. -/
theorem honouredWakeByDomainState : Obligations.HonouredWakeByDomainState := by
  intro s c m d b hc hverdict hhonours hwake hactivity hforward hbattery hidle
  have hexec : exec .classificationDispatch s = .next (s.unclassified.wake d m.cls
      (s.cappedAt (if m.linger = 0 then s.domains[d].defaultLinger else m.linger))
      (if s.mode = .parked ∧ m.confirm = true then some m.rule else none)) := by
    rw [exec_classificationDispatch_honoured hc hverdict hhonours, State.honour_wake hwake hactivity hforward hbattery]
    rfl
  rw [hexec]
  dsimp only
  generalize s.cappedAt (if m.linger = 0 then s.domains[d].defaultLinger else m.linger) = n
  have hidle' : s.unclassified.arbiterIdle := hidle
  have hqueued := s.domains[d].queuedFor_armed m.cls n m.rule (s.mode = .parked) (m.confirm = true)
  refine ⟨fun hoff hfull => ⟨fun hb => ?_, fun hb hmode => ?_, fun hb hparked => ?_⟩, fun hoff hb hmode => ?_,
    fun hoff hfree => ⟨fun hpin => ⟨fun hb => ?_, fun hb hparked hmode => ?_⟩, fun hpin hb => ?_⟩, fun h => ?_, fun h => ?_,
    fun h hb => ?_, fun h => ?_⟩
  · have hwake := State.wake_full (s := s.unclassified) (b := b) (k := m.cls) (n := n)
      (r := if s.mode = .parked ∧ m.confirm = true then some m.rule else none) hoff (.inl hb) hfull
    exact congrArg Host.Outcome.next (hwake.trans (congrArg (s.unclassified.putDomain d) hqueued))
  · have hwake := State.wake_full (s := s.unclassified) (b := b) (k := m.cls) (n := n)
      (r := if s.mode = .parked ∧ m.confirm = true then some m.rule else none) hoff
      (.inr ⟨hb, hmode.imp id .inl⟩) hfull
    exact congrArg Host.Outcome.next (hwake.trans (congrArg (s.unclassified.putDomain d) hqueued))
  · by_cases hmode : s.branches[b].mode = .isolated
    · exact congrArg Host.Outcome.next ((State.wake_isolated (s := s.unclassified) hidle' hoff hb hmode).trans
        (State.joined_isolated (s := s.unclassified) hmode _).symm)
    · have hwake := State.wake_full_parked (s := s.unclassified) (k := m.cls) (n := n)
        (r := if s.mode = .parked ∧ m.confirm = true then some m.rule else none) hoff hb hmode hparked hfull
      exact congrArg Host.Outcome.next (hwake.trans (congrArg (s.unclassified.joined d b) hqueued))
  · exact congrArg Host.Outcome.next (State.wake_isolated (s := s.unclassified) hidle' hoff hb hmode)
  · have hstands : s.unclassified.standsBeside d b := hb.imp id fun h => ⟨h.1, h.2.imp id .inl⟩
    have hwake := State.wake_free (s := s.unclassified) (k := m.cls) (n := n)
      (r := if s.mode = .parked ∧ m.confirm = true then some m.rule else none) hidle' hoff hstands hfree hpin
    rw [Domain.queuedFor_settleTime] at hwake
    exact congrArg Host.Outcome.next (hwake.trans (congrArg (fun q : Domain =>
      { s.unclassified.putDomain d { q with state := .powerUp, seen := true, settle := s.domains[d].settleTime } with
        lastGranted := d }) hqueued))
  · have hwake := State.wake_free_parked (s := s.unclassified) (k := m.cls) (n := n)
      (r := if s.mode = .parked ∧ m.confirm = true then some m.rule else none) hidle' hoff hb hmode hparked hfree hpin
    rw [Domain.queuedFor_settleTime] at hwake
    exact congrArg Host.Outcome.next (hwake.trans (congrArg (fun q : Domain =>
      { s.unclassified.joined d b { q with state := .powerUp, seen := true, settle := s.domains[d].settleTime } with
        lastGranted := d }) hqueued))
  · exact congrArg Host.Outcome.next (State.wake_faulted (s := s.unclassified) hidle' hoff hb hfree hpin)
  · rw [← WakeClass.higher_eq]
    exact congrArg Host.Outcome.next (State.wake_waiting (s := s.unclassified) hidle' h)
  · exact congrArg Host.Outcome.next (State.wake_on (s := s.unclassified) hidle' h)
  · exact congrArg Host.Outcome.next (State.wake_releasing (s := s.unclassified) (b := b) hidle' h (.inl hb))
  · exact congrArg Host.Outcome.next (State.wake_fault (s := s.unclassified) hidle' h)

end Sys2Proof.Machine
end

section
/-! Activity reloads and battery figures of a dispatch (sections 4.4 and 4.5). -/

namespace Sys2Proof.Machine

variable {s : State} {b : Branch} {d : DomainIx}

/-! ## Reloads -/

theorem State.reloadActivity_on {n : Nat} (h : s.domains[d].state = .on) :
    s.reloadActivity d n = s.putDomain d { s.domains[d] with remaining := max s.domains[d].remaining n } := by
  have hmod : s.reloadActivity d n = s.modDomain d fun x => { x with remaining := max x.remaining n } := by
    unfold State.reloadActivity
    dsimp only
    rw [h]
  exact hmod

theorem State.reloadActivity_of_else {n : Nat} (hon : s.domains[d].state ≠ .on) (hreleasing : s.domains[d].state ≠ .releasing) :
    s.reloadActivity d n = s := by
  unfold State.reloadActivity
  dsimp only
  cases h : s.domains[d].state with
  | on => exact absurd h hon
  | releasing => exact absurd h hreleasing
  | off | queued | powerUp | fault => rfl

theorem State.reloadActivity_revived {n : Nat} (h : s.domains[d].state = .releasing) (hbranch : s.domains[d].branch = some b)
    (hmode : s.branches[b].mode = .draining) : s.reloadActivity d n =
      s.joined d b { s.domains[d] with state := .on, remaining := max s.domains[d].remaining n } := by
  have hmod : s.reloadActivity d n =
      (s.modDomain d fun x => { x with state := .on, remaining := max x.remaining n }).withdrawMarker b := by
    unfold State.reloadActivity
    dsimp only
    rw [h, hbranch]
  rw [hmod]
  exact State.withdrawMarker_putDomain hmode nofun

/-! ## The outcomes of a match -/

section
variable {c : Classification} {m : Match} {p : Port} {f : Frame}

theorem exec_classificationDispatch_unhonoured (hc : s.classification = some c) (hverdict : c.verdict = .matched m)
    (hparked : s.mode = .parked) (h : ¬ s.honours m.cls) : exec .classificationDispatch s =
      .next (if m.cls = .c ∧ (s.account.effective = .red ∨ s.account.effective = .exhausted) then
        s.unclassified.dropMatched c.port m else s.unclassified.deliverOnly c.port c.frame m) := by
  have hexec := exec_classificationDispatch hc
  rw [State.dispatch_matched hverdict, State.dispatchMatch] at hexec
  have houtcome : s.unclassified.outcomeFor m.cls = _ := State.outcomeFor_of_not_honours hparked h
  change exec .classificationDispatch s = .next (match s.unclassified.outcomeFor m.cls with
    | .honour => s.unclassified.honour c.port c.frame m
    | .deliverOnly => s.unclassified.deliverOnly c.port c.frame m
    | .drop => s.unclassified.dropMatched c.port m) at hexec
  rw [houtcome] at hexec
  rw [hexec]
  show Host.Outcome.next (match (if m.cls = .c ∧ (s.account.effective = .red ∨ s.account.effective = .exhausted) then
    AdmissionOutcome.drop else AdmissionOutcome.deliverOnly) with
    | .honour => _
    | .deliverOnly => _
    | .drop => _) = _
  split_ifs <;> rfl

theorem State.honour_of_wake_none (hwake : m.wake = 0) : s.honour p f m =
    ((s.issueReloads s.account.effective m.activity).offerCopies m.forward f m.cls m.hold |>.issueBattery m.battery).issueChatter
      (s.inListen p) p := by
  unfold State.honour
  dsimp only
  rw [hwake, State.issueWakes_none]
  congr 1
  exact Bool.and_true _

end

/-! ## The withdrawal of a marker by a revival -/

theorem State.joined_eq_of_draining (h : s.branches[b].mode = .draining) (d : DomainIx) (q : Domain) : s.joined d b q =
    ((s.putPort (portOf b)
      { s.ports[portOf b] with queue := s.ports[portOf b].queue.filter QueueItem.isFrame }).putBranch b
      { s.branches[b] with mode := .awake, drainTimer := none, closing := false }).withDomains
      (Vector.ofFn fun i => if i = d then q else if s.domains[i].branch = some b ∧ s.domains[i].state = .releasing then
          { s.domains[i] with state := .on, remaining := s.cappedAt s.domains[i].defaultLinger }
        else s.domains[i]) := by
  unfold State.joined
  dsimp only
  rw [h]
  rfl

/-- Settles O26: the wake request and the reload are both a joining of the branch. -/
theorem revivalWithdrawsMarker : Obligations.RevivalWithdrawsMarker := by
  intro s c m d b hc hverdict hidle
  dsimp only
  intro hkind hforward hbattery hreleasing hbranch hmode hquiet
  have hidle' : s.unclassified.arbiterIdle := hidle
  have hlisten : s.unclassified.inListen c.port = false := State.inListen_of_countsNoChatter hquiet
  have hexec : exec .classificationDispatch s = .next (s.unclassified.joined d b { s.domains[d] with
      state := .on, remaining := if m.activity = 0 then
        s.cappedAt (if m.linger = 0 then s.domains[d].defaultLinger else m.linger)
        else max s.domains[d].remaining (s.cappedAt s.domains[d].defaultLinger) }) := by
    rcases hkind with ⟨hhonours, hwake, hactivity⟩ | ⟨hkind, hactivity⟩
    · rw [exec_classificationDispatch_honoured hc hverdict hhonours, State.honour_wake hwake hactivity hforward hbattery,
        if_pos hactivity]
      exact congrArg Host.Outcome.next (State.wake_revived (s := s.unclassified) hidle' hreleasing hbranch hmode)
    · have hnonzero : m.activity ≠ 0 := hactivity ▸ beq_eq_false_iff_ne.1 (twoPow_beq_zero d)
      have hreload := State.reloadActivity_revived (s := s.unclassified)
        (n := s.cappedAt s.domains[d].defaultLinger) hreleasing hbranch hmode
      rw [if_neg hnonzero]
      refine Eq.trans ?_ (congrArg Host.Outcome.next hreload)
      rcases hkind with ⟨hhonours, hwake⟩ | ⟨hparked, hhonours, hdropped⟩
      · rw [exec_classificationDispatch_honoured hc hverdict hhonours, State.honour_of_wake_none hwake, hlisten,
          State.issueChatter_false, hbattery, State.issueBattery, hforward, State.offerCopies_none, hactivity,
          State.issueReloads_single, capLinger_effective]
        rfl
      · rw [exec_classificationDispatch_unhonoured hc hverdict hparked hhonours, if_neg hdropped, State.deliverOnly, hlisten,
          State.issueChatter_false, hbattery, State.issueBattery, hforward, State.offerCopies_none, hactivity,
          State.issueReloads_single, capLinger_effective]
        rfl
  refine ⟨_, hexec, ?_⟩
  rw [State.joined_eq_of_draining (s := s.unclassified) hmode]
  refine ⟨rfl, ?_, fun i hi => ?_⟩
  · exact (ofFn_get _ d).trans (if_pos rfl)
  · exact (ofFn_get _ i).trans (if_neg hi)

/-- Settles O28: the figure is recomputed with its effects. -/
theorem batteryFigureIsTaken : Obligations.BatteryFigureIsTaken := by
  intro s c m vb hc hverdict hmode hwake hactivity hforward hbattery hquiet
  have hlisten : s.unclassified.inListen c.port = false := State.inListen_of_countsNoChatter hquiet
  have hexec : exec .classificationDispatch s = .next (s.unclassified.takeBattery vb) := by
    by_cases hhonours : s.honours m.cls
    · rw [exec_classificationDispatch_honoured hc hverdict hhonours, State.honour_of_wake_none hwake, hlisten,
        State.issueChatter_false, hbattery, State.issueBattery, hforward, State.offerCopies_none, hactivity,
        State.issueReloads_none]
    · have hparked : s.mode = .parked := hmode.resolve_left fun hdrive => hhonours (.inl hdrive)
      rw [exec_classificationDispatch_unhonoured hc hverdict hparked hhonours]
      split
      · rw [State.dropMatched, hlisten, State.issueChatter_false, hbattery, State.issueBattery]
      · rw [State.deliverOnly, hlisten, State.issueChatter_false, hbattery, State.issueBattery, hforward,
          State.offerCopies_none, hactivity, State.issueReloads_none]
  rw [hexec, State.takeBattery, State.recompute_eq]
  rfl

end Sys2Proof.Machine
end

section
/-! Forward copies (sections 4.6, 5.1 and 5.2). -/

namespace Sys2Proof.Machine

variable {s : State} {b : Branch} {q : Port} {f : Frame} {k : WakeClass} {hold : Bool}

theorem State.acceptsCopy_iff : s.acceptsCopy q hold = true ↔ s.takesCopy q hold := by
  unfold State.acceptsCopy State.takesCopy
  cases hb : branchOf q with
  | none =>
    have htrunk := (branchOf_eq_none_iff q).1 hb
    subst htrunk
    have hnone : ∀ b : Branch, trunkPort ≠ portOf b := fun b h => by
      rw [h, branchOf_portOf] at hb
      cases hb
    simp [hnone]
  | some b =>
    obtain rfl := (branchOf_eq_some_iff q b).1 hb
    have htrunk : portOf b ≠ trunkPort := fun h => by
      rw [h] at hb
      cases hb
    have hsame : ∀ c : Branch, portOf b = portOf c ↔ c = b := fun c => by
      rw [← branchOf_eq_some_iff, branchOf_portOf]
      exact ⟨fun h => (Option.some.inj h).symm, fun h => congrArg some h.symm⟩
    simp only [htrunk, hsame, false_and, false_or, exists_eq_left]
    cases s.branches[b].mode <;> simp

theorem State.room_iff : (s.queueRoom q && s.poolRoom k) = true ↔ s.hasRoom q k := by
  have hpool : s.poolRoom k = true ↔ (if k = .a then 1 else 9) ≤ s.freeBuffers := by
    cases k <;> exact decide_eq_true_iff
  rw [Bool.and_eq_true, hpool, State.queueRoom, decide_eq_true_iff]
  exact Iff.rfl

theorem State.enqueue_eq : s.enqueue q f k hold =
    { s.putPort q { s.ports[q] with queue := s.ports[q].queue ++ [s.newEntry q f k hold] } with
      freeBuffers := s.freeBuffers - 1 } := rfl

theorem State.offerCopy_of_room (htakes : s.takesCopy q hold) (hroom : s.hasRoom q k) :
    s.offerCopy q f k hold = s.enqueue q f k hold := by
  unfold State.offerCopy
  rw [if_pos (State.acceptsCopy_iff.2 htakes), if_pos (State.room_iff.2 hroom)]

theorem State.offerCopy_of_overflow (htakes : s.takesCopy q hold) (hroom : ¬ s.hasRoom q k) (hclass : k ≠ .a) :
    s.offerCopy q f k hold = s.raise .holdOverflow (some q.val) 0 k.code := by
  unfold State.offerCopy
  rw [if_pos (State.acceptsCopy_iff.2 htakes), if_neg (mt State.room_iff.1 hroom)]
  cases k with
  | a => exact absurd rfl hclass
  | b | c => rfl

theorem State.offerCopy_of_dropped (htakes : ¬ s.takesCopy q hold) : s.offerCopy q f k hold = s := by
  unfold State.offerCopy
  rw [if_neg (mt State.acceptsCopy_iff.1 htakes)]

theorem State.offerCopy_of_classA (htakes : s.takesCopy q hold) (hroom : ¬ s.hasRoom q .a) :
    s.offerCopy q f .a hold = s.evictFor q f hold := by
  unfold State.offerCopy
  rw [if_pos (State.acceptsCopy_iff.2 htakes), if_neg (mt State.room_iff.1 hroom)]

/-! ## Eviction -/

theorem evictionPlace_of_first {before after : List QueueItem} {i : QueueItem}
    (hbefore : ∀ j ∈ before, j.evictable = false) (hi : i.evictable = true) :
    evictionPlace (before ++ i :: after) = some before.length := by
  rw [evictionPlace, List.findIdx?_append, List.findIdx?_eq_none_iff.2 hbefore, List.findIdx?_cons, hi]
  simp

theorem State.evictFor_of_refused (h : (∀ i ∈ s.ports[q].queue, i.evictable = false) ∨
    s.ports[q].params.holdCap < frameCount s.ports[q].queue) :
    s.evictFor q f hold = s.raise .holdOverflow (some q.val) 0 0 := by
  unfold State.evictFor
  cases hplace : evictionPlace s.ports[q].queue with
  | none => rfl
  | some place =>
    rcases h with h | h
    · exact absurd (hplace.symm.trans (List.findIdx?_eq_none_iff.2 h)) nofun
    · exact if_neg (Nat.not_le.2 h)

/-- A copy takes the buffer that an entry has just left. -/
theorem State.enqueue_putFreed (x : PortState) : (s.putFreed q x).enqueue q f k hold =
    s.putPort q { x with
      queue := x.queue ++ [.frame { frame := f, cls := k, hold := hold, attempts := 0, sending := false,
                                    deadline := x.params.holdAge }] } := by
  rw [State.enqueue_eq, State.newEntry, State.putFreed_get]
  exact congrArg (fun u : State => { u with freeBuffers := s.freeBuffers }) (s.putPort_putPort q x _)

/-- The candidate leaves, the copy stands at the tail, and the drain is settled (R77, R78; log entry 15). -/
theorem State.evictFor_eq {before after : List QueueItem} {e : Entry}
    (hcap : frameCount s.ports[q].queue ≤ s.ports[q].params.holdCap)
    (hqueue : s.ports[q].queue = before ++ .frame e :: after) (hbefore : ∀ i ∈ before, i.evictable = false)
    (hclass : e.cls ≠ .a) (hsending : e.sending = false) : s.evictFor q f hold =
      ((s.putPort q { s.ports[q] with queue := before ++ after ++ [s.newEntry q f .a hold] }).raise .holdOverflow
        (some q.val) 1 0).settlePort q := by
  have hevictable : (QueueItem.frame e).evictable = true := by
    show (e.cls != .a && !e.sending) = true
    rw [hsending, bne_iff_ne.2 hclass]
    rfl
  have hdrop : s.dropAt q before.length =
      s.putFreed q { s.ports[q] with queue := before ++ after } := by
    have herase : s.ports[q].queue.eraseIdx before.length = before ++ after := by
      rw [hqueue, List.eraseIdx_append_of_length_le le_rfl, Nat.sub_self]
      rfl
    rw [← herase]
    rfl
  have henqueue : (s.dropAt q before.length).enqueue q f .a hold =
      s.putPort q { s.ports[q] with queue := before ++ after ++ [s.newEntry q f .a hold] } := by
    rw [hdrop]
    exact State.enqueue_putFreed _
  unfold State.evictFor
  rw [hqueue, evictionPlace_of_first hbefore hevictable, ← hqueue]
  dsimp only
  rw [if_pos hcap, henqueue]
  rfl

/-! ## The copy of a dispatch -/

/-- A dispatch of one forward copy is the offer of that copy (R61, R66, R46). -/
theorem exec_classificationDispatch_copy {c : Classification} {m : Match} (hc : s.classification = some c)
    (hquiet : s.countsNoChatter c.port)
    (hkind : (c.verdict = .matched m ∧ m.forward = BitVec.twoPow 7 q.val ∧ m.cls = k ∧ m.activity = 0 ∧ m.battery = none
        ∧ (s.honours k ∧ m.wake = 0 ∧ m.hold = hold ∨ (s.mode = .parked ∧ ¬ s.honours k
          ∧ ¬ (k = .c ∧ (s.account.effective = .red ∨ s.account.effective = .exhausted))) ∧ hold = false))
      ∨ (c.verdict = .transparent (BitVec.twoPow 7 q.val) ∨ c.verdict = .pass (BitVec.twoPow 7 q.val))
        ∧ k = .b ∧ hold = false) :
    exec .classificationDispatch s = .next (s.unclassified.offerCopy q c.frame k hold) := by
  have hlisten : s.unclassified.inListen c.port = false := State.inListen_of_countsNoChatter hquiet
  rcases hkind with ⟨hverdict, hforward, rfl, hactivity, hbattery, houtcome⟩ | ⟨hverdict, rfl, rfl⟩
  · rcases houtcome with ⟨hhonours, hwake, rfl⟩ | ⟨⟨hparked, hhonours, hdropped⟩, rfl⟩
    · rw [exec_classificationDispatch_honoured hc hverdict hhonours, State.honour_of_wake_none hwake, hlisten,
        State.issueChatter_false, hbattery, State.issueBattery, hforward, State.offerCopies_single, hactivity,
        State.issueReloads_none]
    · rw [exec_classificationDispatch_unhonoured hc hverdict hparked hhonours, if_neg hdropped, State.deliverOnly, hlisten,
        State.issueChatter_false, hbattery, State.issueBattery, hforward, State.offerCopies_single, hactivity,
        State.issueReloads_none]
  · have hexec : exec .classificationDispatch s = .next (s.unclassified.dispatch c) := exec_classificationDispatch hc
    rw [hexec]
    rcases hverdict with hverdict | hverdict <;> rw [State.dispatch, hverdict]
    · exact congrArg Host.Outcome.next (State.offerCopies_single q)
    · dsimp only
      rw [hlisten, State.issueChatter_false, State.offerCopies_single]

theorem State.settlePort_raise_of_noDrainEnds {x : PortState} (h : s.noDrainEnds q x) (c : Condition) (d : Option Nat)
    (m n : Nat) : ((s.putPort q x).raise c d m n).settlePort q = (s.putPort q x).raise c d m n := by
  obtain ⟨fl, r, l, hraise⟩ := (s.putPort q x).raise_frame c d m n
  rw [hraise]
  refine State.settlePort_of_noDrainEnds ?_
  rw [show ({ s.putPort q x with flags := fl, reports := r, reportsLost := l } : State).ports[q] = x from s.putPort_get q x]
  exact h

theorem State.settlePort_raise_of_drainEnds {x : PortState} (hparked : s.mode = .parked)
    (hmode : s.branches[b].mode = .draining) (hhead : x.queue.head? = some .marker) (c : Condition) (d : Option Nat)
    (m n : Nat) : ((s.putPort (portOf b) x).raise c d m n).settlePort (portOf b) =
      ((s.putPort (portOf b) x).raise c d m n).slept b := by
  obtain ⟨fl, r, l, hraise⟩ := (s.putPort (portOf b) x).raise_frame c d m n
  rw [hraise]
  refine State.settlePort_of_drainEnds hparked hmode (.inl ?_)
  rw [show ({ s.putPort (portOf b) x with flags := fl, reports := r, reportsLost := l } : State).ports[portOf b] = x from
    s.putPort_get (portOf b) x]
  exact hhead

/-- Settles O29: the offer by state and room, and the eviction with the drain it may end. -/
theorem forwardCopyByTarget : Obligations.ForwardCopyByTarget := by
  intro s c m q cls hold before after e b hc hquiet
  dsimp only
  intro hkind
  rw [exec_classificationDispatch_copy hc hquiet hkind]
  refine ⟨fun htakes hroom => ?_, fun htakes hroom hclass => ?_, fun htakes => ?_, fun htakes hroom hclass =>
    ⟨fun hcap hqueue hbefore he hsending => ⟨fun hgoes => ?_, fun hparked hq hmode hhead => ?_⟩, fun hrefused => ?_⟩⟩
  · exact congrArg Host.Outcome.next (State.offerCopy_of_room (s := s.unclassified) htakes hroom)
  · exact congrArg Host.Outcome.next (State.offerCopy_of_overflow (s := s.unclassified) htakes hroom hclass)
  · exact congrArg Host.Outcome.next (State.offerCopy_of_dropped (s := s.unclassified) htakes)
  · subst hclass
    refine congrArg Host.Outcome.next ?_
    rw [State.offerCopy_of_classA (s := s.unclassified) htakes hroom,
      State.evictFor_eq (s := s.unclassified) hcap hqueue hbefore he hsending]
    exact State.settlePort_raise_of_noDrainEnds (s := s.unclassified) hgoes _ _ _ _
  · subst hclass hq
    refine congrArg Host.Outcome.next ?_
    rw [State.offerCopy_of_classA (s := s.unclassified) htakes hroom,
      State.evictFor_eq (s := s.unclassified) hcap hqueue hbefore he hsending]
    refine State.settlePort_raise_of_drainEnds (s := s.unclassified) hparked hmode ?_ _ _ _ _
    show (before ++ after ++ _).head? = some .marker
    rw [List.head?_append, hhead]
    rfl
  · subst hclass
    exact congrArg Host.Outcome.next ((State.offerCopy_of_classA (s := s.unclassified) htakes hroom).trans
      (State.evictFor_of_refused (s := s.unclassified) hrefused))

end Sys2Proof.Machine
end

section
/-! A dispatch as the dispatches of its single items, one after the other (sections 4.4 to 4.7). -/

namespace Sys2Proof.Machine

variable {s t u : State}

theorem State.account_of_held (h : t.held = u.held) : t.account = u.account := by
  have haccount := congrArg State.account h
  exact haccount

theorem State.budget_of_held (h : t.held = u.held) : t.budget = u.budget := by
  have hbudget := congrArg State.budget h
  exact hbudget

theorem State.classification_of_held (h : t.held = u.held) : t.classification = u.classification := by
  have hclassification := congrArg State.classification h
  exact hclassification

/-! ## Several dispatches -/

theorem State.unclassified_of_none (h : t.classification = none) : t.unclassified = t := by
  rw [State.unclassified, ← h]

theorem State.unclassified_classified (c : Classification) (h : t.classification = none) :
    ({ t with classification := some c } : State).unclassified = t := State.unclassified_of_none h

theorem State.dispatchEach_unclassified (cs : List Classification) : s.unclassified.dispatchEach cs = s.dispatchEach cs :=
  s.dispatchEach_free cs

theorem State.dispatchEach_one (c : Classification) (rest : List Classification) (h : t.classification = none) :
    t.dispatchEach (c :: rest) = (t.dispatch c).dispatchEach rest := by
  refine t.dispatchEach_cons rest ((exec_classificationDispatch rfl).trans (congrArg Host.Outcome.next ?_))
  exact congrArg (State.dispatch · c) (State.unclassified_classified c h)

/-- Items of one kind, each with an effect that leaves alone what the next ones look at. -/
theorem State.dispatchEach_map {α : Type} (item : α → Classification) (op : State → α → State) (rest : List Classification)
    (hheld : ∀ (t : State) (a : α), (op t a).held = t.held)
    (hop : ∀ (t : State) (a : α), t.held = u.held → t.dispatch (item a) = op t a) (hfree : u.classification = none) :
    ∀ (l : List α) (t : State), t.held = u.held →
      t.dispatchEach (l.map item ++ rest) = (l.foldl op t).dispatchEach rest ∧ (l.foldl op t).held = u.held
  | [], _, ht => ⟨rfl, ht⟩
  | a :: l, t, ht => by
    have hnone : t.classification = none := (State.classification_of_held ht).trans hfree
    obtain ⟨heach, hlast⟩ := State.dispatchEach_map item op rest hheld hop hfree l (op t a) ((hheld t a).trans ht)
    refine ⟨?_, hlast⟩
    rw [List.map_cons, List.cons_append, State.dispatchEach_one _ _ hnone, hop t a ht]
    exact heach

/-! ## What the held part fixes of a decision -/

section
variable (h : t.held = u.held)
include h

theorem State.outcomeFor_of_held (k : WakeClass) : t.outcomeFor k = u.outcomeFor k := by
  have hmode : t.mode = u.mode := State.mode_of_held h
  have haccount : t.account = u.account := State.account_of_held h
  have hbudget : t.budget = u.budget := State.budget_of_held h
  unfold State.outcomeFor State.matrix State.reserveCheck
  rw [hmode, haccount, hbudget]

theorem State.armedBy_of_held (m : Match) : t.armedBy m = u.armedBy m := by
  have hmode : t.mode = u.mode := State.mode_of_held h
  unfold State.armedBy
  rw [hmode]

end

/-! ## The single items -/

/-- The item of a classification with nothing but a verdict of its own, as if from TP. -/
def Classification.alone (c : Classification) (v : Verdict) : Classification := { c with port := trunkPort, verdict := v }

/-- A match with nothing to do. -/
def Match.bare (m : Match) : Match := { m with wake := 0, activity := 0, forward := 0, battery := none }

section
variable {c : Classification} {m : Match}

theorem State.dispatch_wake (houtcome : t.outcomeFor m.cls = .honour) (i : DomainIx) :
    t.dispatch (c.alone (.matched { m.bare with wake := BitVec.twoPow 16 i.val })) =
      t.wake i m.cls (t.effectiveLinger t.account.effective m.linger i) (t.armedBy m) := by
  show t.dispatchMatch trunkPort c.frame { m.bare with wake := BitVec.twoPow 16 i.val } = _
  have hmatch : ∀ x : Match, x.cls = m.cls → t.dispatchMatch trunkPort c.frame x = t.honour trunkPort c.frame x := fun x hx => by
    rw [State.dispatchMatch, hx, houtcome]
  rw [hmatch { m.bare with wake := BitVec.twoPow 16 i.val } rfl, State.honour_wake rfl rfl rfl rfl, ← capLinger_effective]
  rfl

/-- An item without wake request, of an Honour or a Deliver-only. -/
theorem State.dispatch_item (houtcome : t.outcomeFor m.cls = .honour ∨ t.outcomeFor m.cls = .deliverOnly) (x : Match)
    (hclass : x.cls = m.cls) (hwake : x.wake = 0) : t.dispatch (c.alone (.matched x)) =
      ((t.issueReloads t.account.effective x.activity).offerCopies x.forward c.frame m.cls
        (t.outcomeFor m.cls == .honour && x.hold)).issueBattery x.battery := by
  show t.dispatchMatch trunkPort c.frame x = _
  rw [State.dispatchMatch, hclass]
  rcases houtcome with h | h <;> rw [h]
  · dsimp only
    rw [State.honour_of_wake_none hwake, hclass]
    exact State.issueChatter_false trunkPort
  · dsimp only
    rw [State.deliverOnly, hclass]
    exact State.issueChatter_false trunkPort

/-- A figure alone, under every outcome. -/
theorem State.dispatch_figure (vb : BitVec 16) :
    t.dispatch (c.alone (.matched { m.bare with battery := some vb })) = t.takeBattery vb := by
  by_cases houtcome : t.outcomeFor m.cls = .honour ∨ t.outcomeFor m.cls = .deliverOnly
  · rw [State.dispatch_item houtcome { m.bare with battery := some vb } rfl rfl]
    dsimp only [Match.bare]
    rw [State.issueReloads_none, State.offerCopies_none, State.issueBattery]
  · have hdrop : t.outcomeFor m.cls = .drop := by
      cases h : t.outcomeFor m.cls with
      | honour => exact absurd (.inl h) houtcome
      | deliverOnly => exact absurd (.inr h) houtcome
      | drop => rfl
    show t.dispatchMatch trunkPort c.frame { m.bare with battery := some vb } = _
    have hmatch : ∀ x : Match, x.cls = m.cls → t.dispatchMatch trunkPort c.frame x = t.dropMatched trunkPort x := fun x hx => by
      rw [State.dispatchMatch, hx, hdrop]
    rw [hmatch { m.bare with battery := some vb } rfl]
    exact State.issueChatter_false trunkPort

theorem State.dispatchEach_figure (figure : Option (BitVec 16)) (rest : List Classification) (hfree : t.classification = none) :
    t.dispatchEach ((figure.toList.map fun vb => c.alone (.matched { m.bare with battery := some vb })) ++ rest) =
      (t.issueBattery figure).dispatchEach rest := by
  cases figure with
  | none => rfl
  | some vb =>
    show t.dispatchEach (_ :: rest) = _
    rw [State.dispatchEach_one _ _ hfree, State.dispatch_figure]
    rfl

end

/-! ## The items of a kind -/

section
variable {c : Classification} {m : Match} (hfree : u.classification = none) (rest : List Classification)
include hfree

theorem State.dispatchEach_wakes (houtcome : u.outcomeFor m.cls = .honour) (ht : t.held = u.held) :
    t.dispatchEach (((allDomains.filter fun i => m.wake.getLsbD i.val).map fun i =>
        c.alone (.matched { m.bare with wake := BitVec.twoPow 16 i.val })) ++ rest) =
      (t.issueWakes u.account.effective m.wake m.cls m.linger (u.armedBy m)).dispatchEach rest :=
  (State.dispatchEach_map _ (fun t d => t.wake d m.cls (t.effectiveLinger u.account.effective m.linger d) (u.armedBy m)) rest
    (fun t d => t.wake_held d _ _ _) (fun t d h => by
      rw [State.dispatch_wake ((State.outcomeFor_of_held h _).trans houtcome), State.armedBy_of_held h,
        State.account_of_held h]) hfree _ t ht).1

variable (houtcome : u.outcomeFor m.cls = .honour ∨ u.outcomeFor m.cls = .deliverOnly)
include houtcome

theorem State.dispatchEach_reloads (ht : t.held = u.held) :
    t.dispatchEach (((allDomains.filter fun i => m.activity.getLsbD i.val).map fun i =>
        c.alone (.matched { m.bare with activity := BitVec.twoPow 16 i.val })) ++ rest) =
      (t.issueReloads u.account.effective m.activity).dispatchEach rest :=
  (State.dispatchEach_map _ (fun t d => t.reloadActivity d (capLinger u.account.effective t.budget.lcap
      t.domains[d].defaultLinger)) rest
    (fun t d => t.reloadActivity_held d _) (fun t d h => by
      have ho : t.outcomeFor m.cls = u.outcomeFor m.cls := State.outcomeFor_of_held h _
      rw [State.dispatch_item (ho ▸ houtcome) { m.bare with activity := BitVec.twoPow 16 d.val } rfl rfl]
      dsimp only [Match.bare]
      rw [State.issueReloads_single, State.offerCopies_none, State.issueBattery,
        State.account_of_held h]) hfree _ t ht).1

theorem State.dispatchEach_copies (ht : t.held = u.held) :
    t.dispatchEach (((allPorts.filter fun q => m.forward.getLsbD q.val).map fun q =>
        c.alone (.matched { m.bare with forward := BitVec.twoPow 7 q.val })) ++ rest) =
      (t.offerCopies m.forward c.frame m.cls (u.outcomeFor m.cls == .honour && m.hold)).dispatchEach rest :=
  (State.dispatchEach_map _ (fun t q => t.offerCopy q c.frame m.cls (u.outcomeFor m.cls == .honour && m.hold))
    rest (fun t q => t.offerCopy_held q _ _ _) (fun t q h => by
      have ho : t.outcomeFor m.cls = u.outcomeFor m.cls := State.outcomeFor_of_held h _
      rw [State.dispatch_item (ho ▸ houtcome) { m.bare with forward := BitVec.twoPow 7 q.val } rfl rfl]
      dsimp only [Match.bare]
      rw [State.issueReloads_none, State.offerCopies_single, State.issueBattery, ho]) hfree _ t ht).1

/-- The items of a match but for its wake requests. -/
theorem State.dispatchEach_delivered (ht : t.held = u.held) :
    t.dispatchEach ((((allDomains.filter fun i => m.activity.getLsbD i.val).map fun i =>
          c.alone (.matched { m.bare with activity := BitVec.twoPow 16 i.val }))
        ++ ((allPorts.filter fun q => m.forward.getLsbD q.val).map fun q =>
          c.alone (.matched { m.bare with forward := BitVec.twoPow 7 q.val }))
        ++ (m.battery.toList.map fun vb => c.alone (.matched { m.bare with battery := some vb }))) ++ rest) =
      (((t.issueReloads u.account.effective m.activity).offerCopies m.forward c.frame m.cls
        (u.outcomeFor m.cls == .honour && m.hold)).issueBattery m.battery).dispatchEach rest := by
  have hreloads : (t.issueReloads u.account.effective m.activity).held = u.held := (t.issueReloads_held _ _).trans ht
  have hcopies := ((t.issueReloads u.account.effective m.activity).offerCopies_held m.forward c.frame m.cls
    (u.outcomeFor m.cls == .honour && m.hold)).trans hreloads
  rw [List.append_assoc, List.append_assoc, State.dispatchEach_reloads hfree _ houtcome ht,
    State.dispatchEach_copies hfree _ houtcome hreloads,
    State.dispatchEach_figure _ _ ((State.classification_of_held hcopies).trans hfree)]

end

/-! ## The chatter report -/

theorem State.inListen_iff (p : Port) : s.inListen p = false ↔ s.countsNoChatter p := by
  refine ⟨fun h b hb => ?_, State.inListen_of_countsNoChatter⟩
  subst hb
  rintro ⟨hparked, hlisten⟩
  unfold State.inListen at h
  rw [branchOf_portOf] at h
  have htrue : (s.mode == .parked && s.branches[b].mode == .listen) = true :=
    Bool.and_eq_true_iff.2 ⟨beq_iff_eq.2 hparked, beq_iff_eq.2 hlisten⟩
  exact absurd (htrue.symm.trans h) nofun

/-- A report called for finds its branch in Listen, or counts nothing. -/
theorem State.issueChatter_true (p : Port) : s.issueChatter true p = s.issueChatter (s.inListen p) p := by
  unfold State.issueChatter State.inListen
  cases branchOf p with
  | none => rfl
  | some b =>
    dsimp only
    by_cases h : s.mode = .parked ∧ s.branches[b].mode = .listen
    · exact (if_pos (Bool.and_eq_true_iff.2 ⟨beq_iff_eq.2 h.1, beq_iff_eq.2 h.2⟩)).symm
    · have hsame : s.chatter b = s := if_neg h
      rw [hsame, ite_self, ite_self]

theorem State.dispatchEach_told {c : Classification} {items : List Classification} {T : State}
    (hexec : exec .classificationDispatch s = .next (T.issueChatter (s.inListen c.port) c.port))
    (hitems : ∀ rest, s.dispatchEach (items ++ rest) = T.dispatchEach rest) (hfree : T.classification = none) :
    (s.countsNoChatter c.port → exec .classificationDispatch s = s.dispatchEach items)
      ∧ (¬ s.countsNoChatter c.port →
        exec .classificationDispatch s = s.dispatchEach (items ++ [{ c with verdict := .dropped }])) := by
  have hlast : ∀ t : State, t.classification = none → t.dispatchEach [] = .next t := fun t ht =>
    congrArg Host.Outcome.next (State.unclassified_of_none ht)
  refine ⟨fun hquiet => ?_, fun hloud => ?_⟩
  · have h := hitems []
    rw [List.append_nil] at h
    rw [hexec, h, hlast T hfree, (State.inListen_iff _).2 hquiet, State.issueChatter_false]
  · rw [hexec, hitems, State.dispatchEach_one _ _ hfree]
    have hlisten : s.inListen c.port = true := Bool.eq_true_of_not_eq_false (mt (State.inListen_iff _).1 hloud)
    rw [hlisten, State.issueChatter_true]
    refine (hlast _ ?_).symm
    exact (State.classification_of_held (T.issueChatter_held _ _)).trans hfree

theorem State.issueBattery_classification (figure : Option (BitVec 16)) :
    (s.issueBattery figure).classification = s.classification := by
  have h := congrArg State.classification (s.issueBattery_heldByAdmission figure)
  exact h

/-! ## The dispatch -/

section
variable {c : Classification} {m : Match} (hc : s.classification = some c)
include hc

theorem exec_dispatchEach_honoured (hverdict : c.verdict = .matched m) (hhonours : s.honours m.cls) (hwake : m.wake ≠ 0) :
    exec .classificationDispatch s = s.dispatchEach
      (((allDomains.filter fun i => m.wake.getLsbD i.val).map fun i =>
          c.alone (.matched { m.bare with wake := BitVec.twoPow 16 i.val }))
        ++ ((allDomains.filter fun i => m.activity.getLsbD i.val).map fun i =>
          c.alone (.matched { m.bare with activity := BitVec.twoPow 16 i.val }))
        ++ ((allPorts.filter fun q => m.forward.getLsbD q.val).map fun q =>
          c.alone (.matched { m.bare with forward := BitVec.twoPow 7 q.val }))
        ++ (m.battery.toList.map fun vb => c.alone (.matched { m.bare with battery := some vb }))) := by
  have houtcome : s.unclassified.outcomeFor m.cls = .honour := State.outcomeFor_of_honours hhonours
  have hlist : ∀ w r q f : List Classification, w ++ r ++ q ++ f = w ++ ((r ++ q ++ f) ++ []) := fun w r q f => by
    simp only [List.append_assoc, List.append_nil]
  have hquiet : (m.wake == 0) = false := beq_eq_false_iff_ne.2 hwake
  rw [exec_classificationDispatch_honoured hc hverdict hhonours, ← State.dispatchEach_unclassified, hlist,
    State.dispatchEach_wakes (u := s.unclassified) rfl _ houtcome rfl,
    State.dispatchEach_delivered (u := s.unclassified) rfl _ (.inl houtcome) (State.issueWakes_held _ _ _ _ _ _), houtcome,
    State.honour, hquiet, Bool.and_false, State.issueChatter_false]
  refine congrArg Host.Outcome.next (State.unclassified_of_none ?_).symm
  rw [State.issueBattery_classification]
  exact State.classification_of_held ((State.offerCopies_held _ _ _ _ _).trans
    ((State.issueReloads_held _ _ _).trans (State.issueWakes_held _ _ _ _ _ _)))

end

section
variable {c : Classification} {m : Match}

/-- The items of an Honour without wake request, of a Deliver-only, and the report that comes last. -/
theorem exec_dispatchEach_delivered {T : State} (houtcome : s.unclassified.outcomeFor m.cls = .honour ∨
      s.unclassified.outcomeFor m.cls = .deliverOnly)
    (hT : T = ((s.unclassified.issueReloads s.account.effective m.activity).offerCopies m.forward c.frame m.cls
        (s.unclassified.outcomeFor m.cls == .honour && m.hold)).issueBattery m.battery)
    (hexec : exec .classificationDispatch s = .next (T.issueChatter (s.inListen c.port) c.port)) :
    (s.countsNoChatter c.port → exec .classificationDispatch s = s.dispatchEach
      (((allDomains.filter fun i => m.activity.getLsbD i.val).map fun i =>
          c.alone (.matched { m.bare with activity := BitVec.twoPow 16 i.val }))
        ++ ((allPorts.filter fun q => m.forward.getLsbD q.val).map fun q =>
          c.alone (.matched { m.bare with forward := BitVec.twoPow 7 q.val }))
        ++ (m.battery.toList.map fun vb => c.alone (.matched { m.bare with battery := some vb }))))
    ∧ (¬ s.countsNoChatter c.port → exec .classificationDispatch s = s.dispatchEach
      ((((allDomains.filter fun i => m.activity.getLsbD i.val).map fun i =>
          c.alone (.matched { m.bare with activity := BitVec.twoPow 16 i.val }))
        ++ ((allPorts.filter fun q => m.forward.getLsbD q.val).map fun q =>
          c.alone (.matched { m.bare with forward := BitVec.twoPow 7 q.val }))
        ++ (m.battery.toList.map fun vb => c.alone (.matched { m.bare with battery := some vb })))
        ++ [{ c with verdict := .dropped }])) := by
  refine State.dispatchEach_told hexec (fun rest => ?_) ?_
  · rw [← State.dispatchEach_unclassified, hT]
    exact State.dispatchEach_delivered (u := s.unclassified) rfl rest houtcome rfl
  · rw [hT, State.issueBattery_classification]
    exact State.classification_of_held ((State.offerCopies_held _ _ _ _ _).trans (State.issueReloads_held _ _ _))

end

/-- The items of a transparent or a passed frame. -/
theorem State.dispatchEach_copyItems {c : Classification} (verdict : PortSet → Verdict)
    (hverdict : ∀ (t : State) (x : PortSet), t.dispatch (c.alone (verdict x)) = t.offerCopies x c.frame .b false)
    (forward : PortSet) (rest : List Classification) :
    s.dispatchEach (((allPorts.filter fun q => forward.getLsbD q.val).map fun q => c.alone (verdict (BitVec.twoPow 7 q.val)))
        ++ rest) = (s.unclassified.offerCopies forward c.frame .b false).dispatchEach rest := by
  rw [← State.dispatchEach_unclassified]
  exact (State.dispatchEach_map (u := s.unclassified) _ (fun t q => t.offerCopy q c.frame .b false) rest
    (fun t q => t.offerCopy_held q _ _ _) (fun t q _ => by rw [hverdict, State.offerCopies_single]) rfl _ _ rfl).1

/-- What joining a branch leaves of its port and the pool, and that the branch then takes copies. -/
theorem State.joined_takes {b : Branch} (hmode : s.branches[b].mode ≠ .isolated) (d : DomainIx) (q : Domain) :
    (s.joined d b q).freeBuffers = s.freeBuffers
      ∧ (s.joined d b q).ports[portOf b].params = s.ports[portOf b].params
      ∧ frameCount (s.joined d b q).ports[portOf b].queue = frameCount s.ports[portOf b].queue
      ∧ ((s.joined d b q).branches[b].mode = .waking ∨ (s.joined d b q).branches[b].mode = .awake) := by
  by_cases hdraining : s.branches[b].mode = .draining
  · rw [State.joined_eq_of_draining hdraining]
    have hport := s.putPort_get (portOf b) { s.ports[portOf b] with queue := s.ports[portOf b].queue.filter QueueItem.isFrame }
    have hbranch := s.putBranch_get b { s.branches[b] with mode := .awake, drainTimer := none, closing := false }
    refine ⟨rfl, (congrArg PortState.params hport :), (congrArg (fun x : PortState => frameCount x.queue) hport).trans ?_,
      .inr (congrArg BranchState.mode hbranch :)⟩
    show List.countP QueueItem.isFrame (List.filter QueueItem.isFrame _) = List.countP QueueItem.isFrame _
    rw [List.countP_filter]
    simp
  · unfold State.joined
    dsimp only
    cases h : s.branches[b].mode with
    | isolated => exact absurd h hmode
    | draining => exact absurd h hdraining
    | waking => exact ⟨rfl, rfl, rfl, .inl h⟩
    | awake => exact ⟨rfl, rfl, rfl, .inr h⟩
    | off => exact ⟨rfl, rfl, rfl, .inl (congrArg BranchState.mode ((s.putDomain d q).putBranch_get b _) :)⟩
    | listen => exact ⟨rfl, rfl, rfl, .inl (congrArg BranchState.mode ((s.putDomain d q).putBranch_get b _) :)⟩

theorem State.hasRoom_congr {p : Port} {k : WakeClass} (hparams : t.ports[p].params = s.ports[p].params)
    (hcount : frameCount t.ports[p].queue = frameCount s.ports[p].queue) (hfree : t.freeBuffers = s.freeBuffers)
    (h : s.hasRoom p k) : t.hasRoom p k := by
  unfold State.hasRoom
  rw [hparams, hcount, hfree]
  exact h

theorem State.offerCopy_joined {b : Branch} {k : WakeClass} (hmode : s.branches[b].mode ≠ .isolated)
    (hroom : s.hasRoom (portOf b) k) (d : DomainIx) (q : Domain) (f : Frame) (hold : Bool) :
    (s.joined d b q).offerCopy (portOf b) f k hold =
      { (s.joined d b q).putPort (portOf b)
          { (s.joined d b q).ports[portOf b] with
            queue := (s.joined d b q).ports[portOf b].queue ++ [s.newEntry (portOf b) f k hold] } with
        freeBuffers := s.freeBuffers - 1 } := by
  obtain ⟨hbuffers, hparams, hcount, hawake⟩ := State.joined_takes hmode d q
  have htakes : (s.joined d b q).takesCopy (portOf b) hold := .inr ⟨b, rfl, hawake.imp id .inl⟩
  have hentry : (s.joined d b q).newEntry (portOf b) f k hold = s.newEntry (portOf b) f k hold := by
    rw [State.newEntry, State.newEntry, hparams]
  rw [State.offerCopy_of_room htakes (State.hasRoom_congr hparams hcount hbuffers hroom), State.enqueue_eq, hbuffers, hentry]

/-- Settles O30: the items of each outcome in their order, and the report that comes last. -/
theorem dispatchTakesItemsInOrder : Obligations.DispatchTakesItemsInOrder := by
  intro s c m forward d b hc
  refine ⟨fun hverdict hhonours => ⟨fun hwake => exec_dispatchEach_honoured hc hverdict hhonours hwake, fun hwake => ?_, fun hparked hwake hactivity hforward
    hbattery hoff hbranch hmode hfull hroom => ?_⟩, fun hverdict hparked hhonours => ⟨fun hdropped => ?_, fun hdropped => ?_⟩,
    fun hverdict => ?_, fun hverdict => ?_⟩
  · refine exec_dispatchEach_delivered (.inl (State.outcomeFor_of_honours (s := s.unclassified) hhonours)) rfl ?_
    rw [exec_classificationDispatch_honoured hc hverdict hhonours, State.honour_of_wake_none hwake,
      State.outcomeFor_of_honours (s := s.unclassified) hhonours]
    rfl
  · have hnonzero : (m.wake == 0) = false := by
      rw [hwake]
      exact twoPow_beq_zero d
    have hwoken := State.wake_full_parked (s := s.unclassified) (k := m.cls)
      (n := s.cappedAt (if m.linger = 0 then s.domains[d].defaultLinger else m.linger)) (r := s.unclassified.armedBy m)
      hoff hbranch hmode hparked hfull
    have hqueued := s.domains[d].queuedFor_armed m.cls
      (s.cappedAt (if m.linger = 0 then s.domains[d].defaultLinger else m.linger)) m.rule (s.mode = .parked) (m.confirm = true)
    have harmed : (s.mode = .parked ∧ m.confirm = true ∧ s.domains[d].branch.isSome = true) ↔
        s.mode = .parked ∧ m.confirm = true := by
      rw [hbranch]
      exact and_congr_right fun _ => and_iff_left rfl
    simp only [harmed] at hqueued
    rw [show s.unclassified.domains[d].queuedFor m.cls _ (s.unclassified.armedBy m) = _ from hqueued] at hwoken
    rw [exec_classificationDispatch_honoured hc hverdict hhonours, State.honour, hnonzero, Bool.and_false,
      State.issueChatter_false, hbattery, State.issueBattery, hwake, State.issueWakes_single, State.effectiveLinger,
      capLinger_effective, hactivity, State.issueReloads_none, hforward, State.offerCopies_single]
    exact congrArg Host.Outcome.next ((congrArg (State.offerCopy · (portOf b) c.frame m.cls m.hold) hwoken).trans
      (State.offerCopy_joined (s := s.unclassified) hmode hroom d _ c.frame m.hold))
  · refine State.dispatchEach_told (T := s.unclassified.issueBattery m.battery) ?_ (fun rest => ?_)
      (State.issueBattery_classification _)
    · rw [exec_classificationDispatch_unhonoured hc hverdict hparked hhonours, if_pos hdropped]
      rfl
    · rw [← State.dispatchEach_unclassified]
      exact State.dispatchEach_figure _ rest rfl
  · have houtcome := (State.outcomeFor_of_not_honours (s := s.unclassified) hparked hhonours).trans (if_neg hdropped)
    refine exec_dispatchEach_delivered (.inr houtcome) rfl ?_
    rw [exec_classificationDispatch_unhonoured hc hverdict hparked hhonours, if_neg hdropped, houtcome]
    rfl
  · have hexec : exec .classificationDispatch s = .next (s.unclassified.dispatch c) := exec_classificationDispatch hc
    have hitems := State.dispatchEach_copyItems (s := s) (c := c) .transparent (fun _ _ => rfl) forward []
    rw [List.append_nil] at hitems
    rw [hexec, State.dispatch, hverdict]
    refine Eq.trans ?_ hitems.symm
    exact congrArg Host.Outcome.next (State.unclassified_of_none
      (State.classification_of_held (State.offerCopies_held _ _ _ _ _))).symm
  · have hexec : exec .classificationDispatch s = .next (s.unclassified.dispatch c) := exec_classificationDispatch hc
    refine State.dispatchEach_told (T := s.unclassified.offerCopies forward c.frame .b false) ?_ (fun rest => ?_)
      (State.classification_of_held (State.offerCopies_held _ _ _ _ _))
    · rw [hexec, State.dispatch, hverdict]
      rfl
    · exact State.dispatchEach_copyItems .pass (fun t x => State.issueChatter_false trunkPort) forward rest

end Sys2Proof.Machine
end

section
/-! What the arbiter's grants change beside the domains, and the entry of a branch to Isolated (sections 6.4, 6.8 and
7.4). -/

namespace Sys2Proof.Machine

variable {s : State} {b : Branch}

/-! ## The frame of the grants -/

/-- The state with other domain records and another last-granted pointer. -/
def State.withGrants (s : State) (ds : Vector Domain 16) (g : DomainIx) : State := { s with domains := ds, lastGranted := g }

/-- With no fault input asserted the arbiter changes the domains and its pointer alone. -/
theorem State.grantRounds_quiet (n : Nat) : ∀ {s : State}, s.faultInputs = 0 →
    ∃ ds g, s.grantRounds n = s.withGrants ds g := by
  induction n with
  | zero => exact fun _ => ⟨_, _, rfl⟩
  | succ n ih =>
    intro s h
    rw [State.grantRounds]
    split
    · split
      · exact ⟨_, _, rfl⟩
      · rename_i d _
        rw [h, if_neg (by simp)]
        obtain ⟨ds, g, hrest⟩ := ih (s := s.grant d) h
        exact ⟨ds, g, hrest⟩
    · exact ⟨_, _, rfl⟩

theorem State.runArbiter_quiet (h : s.faultInputs = 0) : ∃ ds g, s.runArbiter = s.withGrants ds g :=
  State.grantRounds_quiet 16 h

theorem State.reportFault_unparked (h : s.mode ≠ .parked) (d : DomainIx) (k : DomainState) :
    s.reportFault d k = s.raise .domainFault (some d.val) k.code 0 := by
  have hfollow : s.followDomain d = s := by
    unfold State.followDomain
    cases s.domains[d].branch with
    | none => rfl
    | some b => exact if_neg h
  rw [State.reportFault, hfollow]

/-- The state with other domain records, another pointer, and other flags and reports. -/
def State.withTold (s : State) (ds : Vector Domain 16) (g : DomainIx) (f : KindSet) (r : List Report) (l : Bool) : State :=
  { s with domains := ds, lastGranted := g, flags := f, reports := r, reportsLost := l }

section
variable (s : State) {ds : Vector Domain 16} {g : DomainIx} {f : KindSet} {r : List Report} {l : Bool}

theorem State.withTold_withTold {s : State} {ds' : Vector Domain 16} {g' : DomainIx} {f' : KindSet} {r' : List Report} {l' : Bool} :
    (s.withTold ds g f r l).withTold ds' g' f' r' l' = s.withTold ds' g' f' r' l' := rfl

theorem State.grant_faulted_withTold (d : DomainIx) :
    ((s.grant d).modDomain d Domain.faulted).withTold ds g f r l = s.withTold ds g f r l := rfl

theorem State.grant_withTold (d : DomainIx) : (s.grant d).withTold ds g f r l = s.withTold ds g f r l := rfl

theorem State.raise_told (c : Condition) (x : Option Nat) (y z : Nat) :
    ∃ f r l, s.raise c x y z = s.withTold s.domains s.lastGranted f r l := s.raise_frame c x y z

end

/-- Outside Parked the arbiter changes the domains, its pointer and what DOMAIN_FAULT is told with. -/
theorem State.grantRounds_unparked (n : Nat) : ∀ {s : State}, s.mode ≠ .parked →
    ∃ ds g f r l, s.grantRounds n = s.withTold ds g f r l := by
  induction n with
  | zero => exact fun _ => ⟨_, _, _, _, _, rfl⟩
  | succ n ih =>
    intro s h
    rw [State.grantRounds]
    split
    · split
      · exact ⟨_, _, _, _, _, rfl⟩
      · rename_i d _
        split
        · obtain ⟨ds, g, f, r, l, hrest⟩ := ih (s := (s.grant d).modDomain d Domain.faulted) h
          rw [hrest, State.reportFault_unparked (s := ((s.grant d).modDomain d Domain.faulted).withTold ds g f r l) h]
          obtain ⟨f', r', l', hraise⟩ := (((s.grant d).modDomain d Domain.faulted).withTold ds g f r l).raise_told
            .domainFault (some d.val) DomainState.powerUp.code 0
          exact ⟨ds, g, f', r', l', hraise.trans (State.withTold_withTold.trans (s.grant_faulted_withTold d))⟩
        · obtain ⟨ds, g, f, r, l, hrest⟩ := ih (s := s.grant d) h
          exact ⟨ds, g, f, r, l, hrest.trans (s.grant_withTold d)⟩
    · exact ⟨_, _, _, _, _, rfl⟩

theorem State.runArbiter_unparked (h : s.mode ≠ .parked) : ∃ ds g f r l, s.runArbiter = s.withTold ds g f r l :=
  State.grantRounds_unparked 16 h

/-- With no fault input asserted a grant is the only thing that happens to a domain. -/
theorem State.runArbiter_domain_quiet (h : s.faultInputs = 0) (d : DomainIx) :
    s.runArbiter.domains[d] = s.domains[d] ∨ s.domains[d].state = .queued ∧ s.runArbiter.domains[d] =
      { s.domains[d] with state := .powerUp, seen := true, settle := s.domains[d].settleTime } := by
  rcases s.runArbiter_domain d with hsame | ⟨hqueued, hgranted⟩
  · exact .inl hsame
  · rw [h, if_neg (by simp)] at hgranted
    exact .inr ⟨hqueued, hgranted⟩

/-- Conditions look at no domain. -/
theorem State.raise_withGrants (ds : Vector Domain 16) (g : DomainIx) (c : Condition) (x : Option Nat) (y z : Nat) :
    (s.withGrants ds g).raise c x y z = (s.raise c x y z).withGrants ds g := by
  unfold State.raise State.offerReport State.withGrants
  dsimp only
  split
  · split <;> rfl
  · rfl

/-! ## Isolation -/

theorem BranchState.enter_isolated (bs : BranchState) : bs.enter .isolated = { bs with mode := .isolated } := by
  unfold BranchState.enter
  cases bs.mode <;> simp

theorem State.isolating_eq_put (b : Branch) : s.isolating b =
    { (s.putBranch b { s.branches[b] with mode := .isolated, drainTimer := none, closing := false }).putPort (portOf b)
        { s.ports[portOf b] with
          landing := [], overrun := false, queue := [], flight := s.ports[portOf b].flightAfter s.ports[portOf b].queue } with
      freeBuffers := s.freeBuffers + idleFrames s.ports[portOf b].queue } := by
  have hput : ∀ (x : BranchState) (y : PortState), (((s.putBranch b x).putPort (portOf b) y).purge (portOf b) fun _ => false).stopDrain b =
      { (s.putBranch b { x with drainTimer := none, closing := false }).putPort (portOf b) (y.purged fun _ => false) with
        freeBuffers := s.freeBuffers + idleFrames (y.queue.filter fun i => !false) } := fun x y => by
    have hbranch : ((s.putBranch b x).putPort (portOf b) y).branches[b] = x := s.putBranch_get b x
    have hport : ((s.putBranch b x).putPort (portOf b) y).ports[portOf b] = y := (s.putBranch b x).putPort_get (portOf b) y
    rw [State.purgeStop_eq_put, hbranch, hport]
    simp only [State.putBranch, State.putPort, Vector.set_set]
  have henter : s.enterBranch b .isolated = s.putBranch b { s.branches[b] with mode := .isolated } :=
    congrArg (s.putBranch b) (BranchState.enter_isolated _)
  have hall : ∀ q : List QueueItem, (q.filter fun _ => !false) = q := fun q => List.filter_eq_self.2 fun _ _ => rfl
  have hnone : ∀ q : List QueueItem, (q.filter fun _ => false) = [] := fun q => List.filter_eq_nil_iff.2 fun _ _ => nofun
  have hqueue : ∀ y : PortState, y.purged (fun _ => false) = { y with queue := [], flight := y.flightAfter y.queue } := fun y => by
    unfold PortState.purged
    rw [hall, hnone]
    rfl
  rw [State.isolating, henter]
  refine (hput _ _).trans ?_
  rw [hqueue, hall]
  rfl

theorem State.isolating_faultInputs (b : Branch) : (s.isolating b).faultInputs = s.faultInputs := by
  rw [State.isolating_eq_put]
  rfl

theorem State.mapDomains_withGrants {ds : Vector Domain 16} {g : DomainIx} (f : DomainIx → Domain → Domain) :
    (s.mapDomains f).withGrants ds g = s.withGrants ds g := rfl

theorem State.isolating_modBranch (b : Branch) (f : BranchState → BranchState) : (s.isolating b).modBranch b f =
    { (s.putBranch b (f { s.branches[b] with mode := .isolated, drainTimer := none, closing := false })).putPort (portOf b)
        { s.ports[portOf b] with
          landing := [], overrun := false, queue := [], flight := s.ports[portOf b].flightAfter s.ports[portOf b].queue } with
      freeBuffers := s.freeBuffers + idleFrames s.ports[portOf b].queue } := by
  rw [State.isolating_eq_put]
  exact congrArg (fun u : State => { u with
    ports := s.ports.set (portOf b) { s.ports[portOf b] with
      landing := [], overrun := false, queue := [], flight := s.ports[portOf b].flightAfter s.ports[portOf b].queue }
    freeBuffers := s.freeBuffers + idleFrames s.ports[portOf b].queue }) (s.modBranch_putBranch b _ f)

/-- The cut of an isolated branch while no fault input is asserted (R117). -/
theorem State.cut_isolating (hpins : s.faultInputs = 0) (b : Branch) : ∃ ds g,
    (s.isolating b).cut (fun d => d.branch = some b) = (s.isolating b).withGrants ds g ∧
      ∀ d : DomainIx, if s.domains[d].branch = some b ∧ s.domains[d].state.active = true then ds[d] = s.domains[d].dark
        else ds[d] = s.domains[d] ∨ s.domains[d].state = .queued ∧ ds[d] =
          { s.domains[d] with state := .powerUp, seen := true, settle := s.domains[d].settleTime } := by
  have hquiet : ((s.isolating b).mapDomains fun _ d =>
      if decide (d.branch = some b) && d.state.active then d.switchedOff else d).faultInputs = 0 :=
    (State.isolating_faultInputs b).trans hpins
  obtain ⟨ds, g, hrun⟩ := State.runArbiter_quiet hquiet
  refine ⟨ds, g, hrun.trans (State.mapDomains_withGrants _), fun d => ?_⟩
  have hgrant := State.runArbiter_domain_quiet hquiet d
  have hget : ((s.isolating b).mapDomains fun _ d =>
      if decide (d.branch = some b) && d.state.active then d.switchedOff else d).domains[d] =
        if decide (s.domains[d].branch = some b) && s.domains[d].state.active then s.domains[d].switchedOff
        else s.domains[d] := by
    rw [State.mapDomains, State.isolating_domains]
    exact ofFn_get _ d
  rw [hrun, hget] at hgrant
  by_cases hown : s.domains[d].branch = some b ∧ s.domains[d].state.active = true
  · rw [if_pos hown]
    rw [if_pos (by rw [hown.1, hown.2]; simp)] at hgrant
    rcases hgrant with hsame | ⟨hqueued, -⟩
    · exact hsame
    · cases hqueued
  · rw [if_neg hown]
    rw [if_neg (by rw [Bool.and_eq_true, decide_eq_true_iff]; exact hown)] at hgrant
    exact hgrant

theorem State.raise_withGrants_back (s : State) (ds : Vector Domain 16) (g : DomainIx) (c : Condition) (x : Option Nat)
    (y z : Nat) : { (s.raise c x y z).withGrants ds g with domains := s.domains, lastGranted := s.lastGranted } =
      s.raise c x y z := by
  obtain ⟨f, r, l, h⟩ := s.raise_frame c x y z
  rw [h]
  rfl

/-- The entry to Isolated while no fault input is asserted (R93, R117, R129). -/
theorem State.isolate_isolatedBy (hpins : s.faultInputs = 0) (hmode : s.branches[b].mode ≠ .isolated)
    (c : IsolationCause) : s.isolatedBy (s.isolate b c) b c := by
  obtain ⟨ds, g, hcut, hdomains⟩ := State.cut_isolating hpins b
  have hbranch := State.isolating_modBranch (s := s) b fun bs =>
    { bs with windowTimer := none, cause := c, isolationTimer := some s.branches[b].params.isolationTime }
  have hisolate : s.isolate b c = (State.withGrants (((s.isolating b).modBranch b fun bs =>
      { bs with windowTimer := none, cause := c, isolationTimer := some s.branches[b].params.isolationTime }).raise
        .portIsolated (some (portOf b).val) c.code s.branches[b].params.isolationTime) ds g) := by
    rw [s.isolate_eq hmode, hcut, ← State.raise_withGrants]
    rfl
  rw [hbranch] at hisolate
  refine ⟨?_, fun d => ?_⟩
  · rw [hisolate]
    exact State.raise_withGrants_back _ _ _ _ _ _ _
  · rw [hisolate]
    exact hdomains d

end Sys2Proof.Machine
end

section
/-! Chatter, frames that do not land, unhonoured dispatches, and the third discard (sections 2.3, 2.6, 4.7 and 7.3). -/

namespace Sys2Proof.Machine

variable {s : State} {b : Branch}

/-! ## Chatter -/

theorem State.chatter_of_quiet (h : ¬ (s.mode = .parked ∧ s.branches[b].mode = .listen)) : s.chatter b = s := if_neg h

section
variable (hparked : s.mode = .parked) (hlisten : s.branches[b].mode = .listen)
include hparked hlisten

theorem State.chatter_eq : s.chatter b =
    if s.branches[b].params.chatterLimit ≤ s.branches[b].chatterCount + 1 then
      (s.putBranch b { s.branches[b] with chatterCount := s.branches[b].chatterCount + 1 }).isolate b .chatter
    else s.putBranch b { s.branches[b] with chatterCount := s.branches[b].chatterCount + 1 } := by
  unfold State.chatter
  dsimp only
  rw [if_pos ⟨hparked, hlisten⟩, State.modBranch_eq_put, State.putBranch_get]

theorem State.chatter_counted (h : s.branches[b].chatterCount + 1 < s.branches[b].params.chatterLimit) :
    s.chatter b = s.putBranch b { s.branches[b] with chatterCount := s.branches[b].chatterCount + 1 } := by
  rw [State.chatter_eq hparked hlisten, if_neg (Nat.not_le.2 h)]

theorem State.chatter_isolatedBy (h : s.branches[b].params.chatterLimit ≤ s.branches[b].chatterCount + 1)
    (hpins : s.faultInputs = 0) :
    (s.putBranch b { s.branches[b] with chatterCount := s.branches[b].chatterCount + 1 }).isolatedBy (s.chatter b) b .chatter := by
  rw [State.chatter_eq hparked hlisten, if_pos h]
  refine State.isolate_isolatedBy (s := s.putBranch b _) hpins ?_ .chatter
  rw [State.putBranch_get]
  exact hlisten ▸ nofun

end

/-! ## Frames that do not land -/

/-- A port with its overrun reported, where it was not (R22). -/
theorem State.reportOverrun_eq (p : Port) : s.reportOverrun p = if s.ports[p].overrun = true then s
    else (s.putPort p { s.ports[p] with overrun := true }).raise .landingOverrun (some p.val) 0 0 := rfl

theorem State.raise_trunk (u : State) (x : TrunkState) (y : Option Nat) (c : Condition) (d : Option Nat) (m n : Nat) :
    ({ u with trunk := x, silence := y } : State).raise c d m n = { u.raise c d m n with trunk := x, silence := y } := by
  unfold State.raise State.offerReport
  dsimp only
  split
  · split <;> rfl
  · rfl

theorem State.reportOverrun_heard (p : Port) : (s.trunkHeard).reportOverrun p =
    { s.reportOverrun p with trunk := .active, silence := some s.silenceTime } := by
  unfold State.reportOverrun
  by_cases h : s.ports[p].overrun = true
  · rw [if_pos h, if_pos (by exact h)]
    rfl
  · rw [if_neg h, if_neg (by exact h)]
    exact State.raise_trunk (s.modPort p fun ps => { ps with overrun := true }) .active (some s.silenceTime) _ _ _ _

theorem portOf_ne_trunkPort (b : Branch) : portOf b ≠ trunkPort := (by decide : ∀ c : Branch, portOf c ≠ trunkPort) b

theorem State.heardAt_portOf (b : Branch) : s.heardAt (portOf b) = s := if_neg (portOf_ne_trunkPort b)

theorem State.chatterAt_portOf (b : Branch) : s.chatterAt (portOf b) = s.chatter b := by
  unfold State.chatterAt
  rw [branchOf_portOf]

theorem exec_frameReception {p : Port} {f : Frame} (hwf : f.wf = true) (hreceives : s.receives p = true) :
    exec (.frameReception p f) s = .next (s.receive p f) := by
  show execFrameReception p f s = _
  rw [execFrameReception, if_pos hwf, if_pos hreceives]

/-- What a frame that does not land raises before its chatter is counted. -/
def State.overrunTold (s : State) (p : Port) (f : Frame) : State :=
  if s.ports[p].params.maxPayload < f.payload.length ∨ s.ports[p].overrun = true then s
  else (s.putPort p { s.ports[p] with overrun := true }).raise .landingOverrun (some p.val) 0 0

theorem State.overrunTold_frame (p : Port) (f : Frame) : (s.overrunTold p f).mode = s.mode ∧
    (s.overrunTold p f).branches = s.branches ∧ (s.overrunTold p f).faultInputs = s.faultInputs := by
  unfold State.overrunTold
  split
  · exact ⟨rfl, rfl, rfl⟩
  · obtain ⟨fl, r, l, h⟩ := (s.putPort p { s.ports[p] with overrun := true }).raise_frame .landingOverrun (some p.val) 0 0
    rw [h]
    exact ⟨rfl, rfl, rfl⟩

theorem State.receive_unlanded_portOf {f : Frame} (h : s.ports[portOf b].params.maxPayload < f.payload.length ∨
    s.ports[portOf b].landing.length = 2) : s.receive (portOf b) f = (s.overrunTold (portOf b) f).chatter b := by
  unfold State.receive State.overrunTold
  by_cases hbabble : s.ports[portOf b].params.maxPayload < f.payload.length
  · rw [if_pos hbabble, if_pos (.inl hbabble), State.packetBabble, State.heardAt_portOf, State.chatterAt_portOf]
  · have hfull : ¬ s.ports[portOf b].landing.length < Config.landingDepth := by
      rw [h.resolve_left hbabble]
      decide
    rw [if_neg hbabble, if_neg hfull, State.dropAtLanding, State.heardAt_portOf, State.chatterAt_portOf,
      State.reportOverrun_eq]
    refine congrArg (State.chatter · b) (if_congr ?_ rfl rfl)
    exact (or_iff_right hbabble).symm

theorem State.receive_unlanded_trunkPort {f : Frame} (h : s.ports[trunkPort].params.maxPayload < f.payload.length ∨
    s.ports[trunkPort].landing.length = 2) : s.receive trunkPort f =
      { s.overrunTold trunkPort f with trunk := .active, silence := some s.silenceTime } := by
  unfold State.receive State.overrunTold
  by_cases hbabble : s.ports[trunkPort].params.maxPayload < f.payload.length
  · rw [if_pos hbabble, if_pos (.inl hbabble)]
    rfl
  · have hfull : ¬ s.ports[trunkPort].landing.length < Config.landingDepth := by
      rw [h.resolve_left hbabble]
      decide
    rw [if_neg hbabble, if_neg hfull]
    show (s.trunkHeard).reportOverrun trunkPort = _
    rw [State.reportOverrun_heard, State.reportOverrun_eq]
    have hmark := or_iff_right (b := s.ports[trunkPort].overrun = true) hbabble
    exact congrArg (fun u : State => { u with trunk := .active, silence := some s.silenceTime })
      (if_congr hmark.symm rfl rfl)

/-- Settles O20: the frame is not seen, or it raises and counts. -/
theorem framesThatDoNotLand : Obligations.FramesThatDoNotLand := by
  intro s b f p
  refine ⟨rfl, fun hmode hwf => ?_, fun hwf => ?_, fun hwf hreceives hunlanded => ⟨fun hp => ?_, fun hp hquiet => ?_,
    fun hp hparked hlisten => ⟨fun hcount => ?_, fun hcount hpins => ?_⟩⟩⟩
  · have hreceives : s.receives (portOf b) = false := by
      unfold State.receives
      rw [branchOf_portOf]
      rcases hmode with h | h
      · dsimp only
        rw [h]
        rfl
      · dsimp only
        rw [h]
        rfl
    show execFrameReception (portOf b) f s = _
    rw [execFrameReception, if_pos hwf, hreceives]
    rfl
  · show execFrameReception p f s = _
    rw [execFrameReception, hwf]
    rfl
  · subst hp
    exact (exec_frameReception hwf hreceives).trans (congrArg Host.Outcome.next (State.receive_unlanded_trunkPort hunlanded))
  all_goals
    subst hp
    obtain ⟨hmode, hbranches, hfault⟩ := s.overrunTold_frame (portOf b) f
    have hexec := (exec_frameReception hwf hreceives).trans
      (congrArg Host.Outcome.next (State.receive_unlanded_portOf hunlanded))
  · refine hexec.trans (congrArg Host.Outcome.next (State.chatter_of_quiet ?_))
    rw [hmode, hbranches]
    exact hquiet b rfl
  · have hchatter := State.chatter_counted (s := s.overrunTold (portOf b) f) (b := b)
    rw [hmode, hbranches] at hchatter
    exact hexec.trans (congrArg Host.Outcome.next (hchatter hparked hlisten hcount))
  · have hchatter := State.chatter_isolatedBy (s := s.overrunTold (portOf b) f) (b := b)
    rw [hmode, hbranches, hfault] at hchatter
    exact ⟨_, hexec, hchatter hparked hlisten hcount hpins⟩

/-! ## Unhonoured dispatches -/

theorem State.issueChatter_listening (hparked : s.mode = .parked) (hlisten : s.branches[b].mode = .listen) :
    s.issueChatter (s.inListen (portOf b)) (portOf b) = s.chatter b := by
  unfold State.issueChatter State.inListen
  rw [branchOf_portOf]
  exact if_pos (Bool.and_eq_true_iff.2 ⟨beq_iff_eq.2 hparked, beq_iff_eq.2 hlisten⟩)

/-- Class C at Red and Exhausted is not Honoured (R56). -/
theorem State.not_honours_of_dropped {k : WakeClass} (hparked : s.mode = .parked)
    (h : k = .c ∧ (s.account.effective = .red ∨ s.account.effective = .exhausted)) : ¬ s.honours k := by
  obtain ⟨rfl, hlevel⟩ := h
  rintro (hdrive | ⟨-, hclass | ⟨hclass, -⟩ | ⟨-, hgreen, -⟩⟩)
  · exact absurd (hparked.symm.trans hdrive) nofun
  · cases hclass
  · cases hclass
  · rw [hgreen] at hlevel
    rcases hlevel with h | h <;> cases h

/-- A dispatch with nothing left to do but its chatter report. -/
theorem exec_classificationDispatch_chatter {c : Classification} {m : Match} (hc : s.classification = some c)
    (hparked : s.mode = .parked) (hbattery : m.battery = none)
    (h : c.verdict = .dropped ∨ c.verdict = .pass 0 ∨ c.verdict = .matched m ∧
      (m.cls = .c ∧ (s.account.effective = .red ∨ s.account.effective = .exhausted)
        ∨ m.forward = 0 ∧ m.activity = 0 ∧ (m.wake = 0 ∨ ¬ s.honours m.cls))) :
    exec .classificationDispatch s = .next (s.unclassified.issueChatter (s.unclassified.inListen c.port) c.port) := by
  have hexec : exec .classificationDispatch s = .next (s.unclassified.dispatch c) := exec_classificationDispatch hc
  rcases h with hverdict | hverdict | ⟨hverdict, hidle⟩
  · rw [hexec, State.dispatch, hverdict]
  · rw [hexec, State.dispatch, hverdict]
    dsimp only
    rw [State.offerCopies_none]
  · by_cases hhonours : s.honours m.cls
    · obtain ⟨hforward, hactivity, hwake⟩ := hidle.resolve_left fun hdropped =>
        State.not_honours_of_dropped hparked hdropped hhonours
      rw [exec_classificationDispatch_honoured hc hverdict hhonours,
        State.honour_of_wake_none (hwake.resolve_right (not_not.2 hhonours)), hbattery, State.issueBattery, hforward,
        State.offerCopies_none, hactivity, State.issueReloads_none]
    · rw [exec_classificationDispatch_unhonoured hc hverdict hparked hhonours]
      split
      · rw [State.dropMatched, hbattery, State.issueBattery]
      · rename_i hdropped
        obtain ⟨hforward, hactivity, -⟩ := hidle.resolve_left hdropped
        rw [State.deliverOnly, hbattery, State.issueBattery, hforward, State.offerCopies_none, hactivity,
          State.issueReloads_none]

/-- A Deliver-only of one activity reload. -/
theorem exec_classificationDispatch_reload {c : Classification} {m : Match} {d : DomainIx} (hc : s.classification = some c)
    (hparked : s.mode = .parked) (hbattery : m.battery = none) (hverdict : c.verdict = .matched m)
    (hhonours : ¬ s.honours m.cls) (hquiet : s.countsNoChatter c.port)
    (hdropped : ¬ (m.cls = .c ∧ (s.account.effective = .red ∨ s.account.effective = .exhausted)))
    (hforward : m.forward = 0) (hactivity : m.activity = BitVec.twoPow 16 d.val) :
    exec .classificationDispatch s =
      .next (s.unclassified.reloadActivity d (s.cappedAt s.domains[d].defaultLinger)) := by
  have hlisten : s.unclassified.inListen c.port = false := State.inListen_of_countsNoChatter hquiet
  rw [exec_classificationDispatch_unhonoured hc hverdict hparked hhonours, if_neg hdropped, State.deliverOnly, hlisten,
    State.issueChatter_false, hbattery, State.issueBattery, hforward, State.offerCopies_none, hactivity,
    State.issueReloads_single, capLinger_effective]
  rfl

/-- Settles O27: an unhonoured dispatch by its items, and the chatter that is counted. -/
theorem unhonouredDispatchWakesNothing : Obligations.UnhonouredDispatchWakesNothing := by
  intro s c m d b hc hparked hbattery
  refine ⟨fun hverdict hhonours hquiet => ⟨fun hclass => hhonours (.inr ⟨hparked, .inl hclass⟩), fun hdropped => ?_,
    fun hforward hactivity => ?_, fun hdropped hforward hactivity hon => ?_, fun hforward hactivity hon hreleasing => ?_⟩,
    fun h hport hlisten => ?_⟩
  · have hquiet' : s.unclassified.inListen c.port = false := State.inListen_of_countsNoChatter hquiet
    rw [exec_classificationDispatch_chatter hc hparked hbattery (.inr (.inr ⟨hverdict, .inl hdropped⟩)), hquiet',
      State.issueChatter_false]
    rfl
  · have hquiet' : s.unclassified.inListen c.port = false := State.inListen_of_countsNoChatter hquiet
    rw [exec_classificationDispatch_chatter hc hparked hbattery
      (.inr (.inr ⟨hverdict, .inr ⟨hforward, hactivity, .inr hhonours⟩⟩)), hquiet', State.issueChatter_false]
    rfl
  · exact (exec_classificationDispatch_reload hc hparked hbattery hverdict hhonours hquiet hdropped hforward hactivity).trans
      (congrArg Host.Outcome.next (State.reloadActivity_on (s := s.unclassified) hon))
  · by_cases hdropped : m.cls = .c ∧ (s.account.effective = .red ∨ s.account.effective = .exhausted)
    · have hquiet' : s.unclassified.inListen c.port = false := State.inListen_of_countsNoChatter hquiet
      rw [exec_classificationDispatch_chatter hc hparked hbattery (.inr (.inr ⟨hverdict, .inl hdropped⟩)), hquiet',
        State.issueChatter_false]
      rfl
    · exact (exec_classificationDispatch_reload hc hparked hbattery hverdict hhonours hquiet hdropped hforward hactivity).trans
        (congrArg Host.Outcome.next (State.reloadActivity_of_else (s := s.unclassified) hon hreleasing))
  · have hexec := exec_classificationDispatch_chatter hc hparked hbattery h
    rw [hport, State.issueChatter_listening (s := s.unclassified) hparked hlisten] at hexec
    exact ⟨fun hcount => hexec.trans (congrArg Host.Outcome.next
        (State.chatter_counted (s := s.unclassified) hparked hlisten hcount)),
      fun hcount hpins => ⟨_, hexec, State.chatter_isolatedBy (s := s.unclassified) hparked hlisten hcount hpins⟩⟩

end Sys2Proof.Machine
end

section
/-! The third consecutive discard (sections 2.6 and 7.4). -/

namespace Sys2Proof.Machine

variable {s : State} {b : Branch} {x : PortState}

/-! ## A branch cut off -/

theorem State.countDiscard_third_portOf (h : x.discards = 2) (hmode : s.mode ≠ .fallback) :
    (s.putFreed (portOf b) x).countDiscard (portOf b) =
      (s.putFreed (portOf b) { x with discards := 3 }).isolate b .noAck := by
  have hmod : (s.putFreed (portOf b) x).modPort (portOf b) (fun ps => { ps with
      discards := min Config.attemptLimit (ps.discards + 1) }) = s.putFreed (portOf b) { x with discards := 3 } := by
    have hput := ({ s with freeBuffers := s.freeBuffers + 1 } : State).modPort_putPort (portOf b) x fun ps =>
      { ps with discards := min Config.attemptLimit (ps.discards + 1) }
    rw [h] at hput
    exact hput
  unfold State.countDiscard
  dsimp only
  rw [hmod, State.putFreed_get, if_neg (show ¬ 3 < Config.attemptLimit by decide), branchOf_portOf]
  exact if_neg hmode

/-- A branch that is isolated has no drain to settle. -/
theorem State.isolatedBy.mode {t : State} {c : IsolationCause} (h : s.isolatedBy t b c) :
    t.branches[b].mode = .isolated := by
  have hbranches : t.branches = _ := (congrArg State.branches h.1 :)
  obtain ⟨fl, r, l, hraise⟩ := State.raise_frame
    (s := { (s.putBranch b { s.branches[b] with
            mode := .isolated, windowTimer := none, cause := c,
            isolationTimer := some s.branches[b].params.isolationTime, drainTimer := none, closing := false }).putPort
        (portOf b) { s.ports[portOf b] with
          landing := [], overrun := false, queue := [], flight := s.ports[portOf b].flightAfter s.ports[portOf b].queue } with
      freeBuffers := s.freeBuffers + idleFrames s.ports[portOf b].queue })
    .portIsolated (some (b.val + 1)) c.code s.branches[b].params.isolationTime
  rw [hraise] at hbranches
  rw [hbranches]
  exact congrArg BranchState.mode (s.putBranch_get b _)

theorem State.settlePort_of_isolated (h : s.branches[b].mode = .isolated) : s.settlePort (portOf b) = s := by
  rw [State.settlePort_portOf]
  exact if_neg fun hdraining => absurd (hdraining.1.symm.trans h) nofun

/-! ## The trunk quieted -/

/-- The unheld entries of a queue without markers leave the trunk (R29). -/
theorem State.trunkGivesUp_putPort (hqueue : ∀ i ∈ x.queue, i.isFrame = true ∧ i.sending = false) :
    (s.putPort trunkPort x).trunkGivesUp =
      { s.putPort trunkPort { x with queue := x.queue.filter QueueItem.held, discards := 0 } with
        trunk := .quiet, silence := none
        freeBuffers := s.freeBuffers + x.queue.countP fun i : QueueItem => !i.held } := by
  have hkeep : x.queue.filter (fun i => !i.isFrame || i.held) = x.queue.filter QueueItem.held :=
    List.filter_congr fun i hi => by rw [(hqueue i hi).1, Bool.not_true, Bool.false_or]
  have hgone : x.queue.filter (fun i => !(!i.isFrame || i.held)) = x.queue.filter fun i => !i.held :=
    List.filter_congr fun i hi => by rw [(hqueue i hi).1, Bool.not_true, Bool.false_or]
  have hsending : (x.queue.filter fun i => !i.held).any QueueItem.sending = false := List.any_eq_false.2 fun i hi => by
    rw [(hqueue i (List.mem_of_mem_filter hi)).2]
    exact nofun
  have hcount : ((x.queue.filter fun i => !i.held).countP fun i => i.isFrame && !i.sending) =
      x.queue.countP fun i => !i.held := by
    rw [List.countP_filter]
    refine List.countP_congr fun i hi => ?_
    rw [(hqueue i hi).1, (hqueue i hi).2]
    rfl
  have hpurge : (s.putPort trunkPort x).trunkSilent.purge trunkPort (fun i => !i.isFrame || i.held) =
      { s.putPort trunkPort { x with queue := x.queue.filter QueueItem.held } with
        trunk := .quiet, silence := none
        freeBuffers := s.freeBuffers + x.queue.countP fun i : QueueItem => !i.held } := by
    have hget : (s.putPort trunkPort x).trunkSilent.ports[trunkPort] = x := s.putPort_get trunkPort x
    unfold State.purge
    dsimp only
    rw [hget, hgone, hsending, hcount]
    have hput := ({ s with trunk := .quiet, silence := none } : State).modPort_putPort trunkPort x fun ps =>
      { ps with queue := ps.queue.filter fun i => !i.isFrame || i.held }
    rw [hkeep] at hput
    exact congrArg (fun u : State => { u with freeBuffers := s.freeBuffers + x.queue.countP fun i : QueueItem => !i.held })
      hput
  unfold State.trunkGivesUp
  rw [hpurge]
  exact State.modPort_putPort (s := { s with
    trunk := .quiet, silence := none, freeBuffers := s.freeBuffers + x.queue.countP fun i : QueueItem => !i.held })
    trunkPort { x with queue := x.queue.filter QueueItem.held } fun ps => { ps with discards := 0 }

theorem State.countDiscard_third_trunkPort (h : x.discards = 2)
    (hqueue : ∀ i ∈ x.queue, i.isFrame = true ∧ i.sending = false) :
    (s.putPort trunkPort x).countDiscard trunkPort =
      { s.putPort trunkPort { x with queue := x.queue.filter QueueItem.held, discards := 0 } with
        trunk := .quiet, silence := none
        freeBuffers := s.freeBuffers + x.queue.countP fun i : QueueItem => !i.held } := by
  have hmod : (s.putPort trunkPort x).modPort trunkPort (fun ps => { ps with
      discards := min Config.attemptLimit (ps.discards + 1) }) = s.putPort trunkPort { x with discards := 3 } := by
    have hput := s.modPort_putPort trunkPort x fun ps => { ps with discards := min Config.attemptLimit (ps.discards + 1) }
    rw [h] at hput
    exact hput
  unfold State.countDiscard
  dsimp only
  rw [hmod, State.putPort_get, if_neg (show ¬ 3 < Config.attemptLimit by decide), branchOf_trunkPort]
  exact State.trunkGivesUp_putPort (x := { x with discards := 3 }) hqueue

/-- Settles O36: the count comes to three, on a branch and on TP. -/
theorem thirdDiscardCutsPort : Obligations.ThirdDiscardCutsPort := by
  intro s b f e rest p r x later hflight hdiscards
  dsimp only
  refine ⟨fun hp hsource hqueue hthird hsending hpins hmode hisolated => ?_, fun hp hrest =>
    ⟨fun hsource hqueue hthird => ?_, fun hsource hqueue hr hthird => ?_, fun hsource hqueue hr hthird => ?_⟩⟩
  · subst hp
    have hcut := State.isolate_isolatedBy (s := s.putFreed (portOf b)
      { s.ports[portOf b] with flight := none, queue := rest, discards := 3 }) hpins hisolated .noAck
    refine ⟨_, (exec_attemptEnd _ hflight).trans (congrArg Host.Outcome.next ?_), hcut⟩
    rw [hsource]
    dsimp only
    have hcount := State.countDiscard_third_portOf (s := s) (b := b)
      (x := { s.ports[portOf b] with flight := none, queue := rest }) hdiscards hmode
    rw [State.endEntry_discarded (x := { s.ports[portOf b] with flight := none }) hqueue hthird.ge]
    exact (congrArg (State.settlePort · (portOf b)) hcount).trans (State.settlePort_of_isolated hcut.mode)
  all_goals
    rw [exec_attemptEnd _ hflight, hsource]
    dsimp only
    subst hp
  · rw [State.endEntry_discarded (x := { s.ports[trunkPort] with flight := none }) hqueue hthird.ge]
    have h := State.countDiscard_third_trunkPort (s := { s with freeBuffers := s.freeBuffers + 1 })
      (x := { s.ports[trunkPort] with flight := none, queue := rest }) hdiscards hrest
    rw [Nat.add_right_comm] at h
    exact congrArg Host.Outcome.next h
  · rw [State.endResponse_discarded (s := s.putPort trunkPort _) hr hthird.ge, ← hqueue]
    have h := State.countDiscard_third_trunkPort (s := { s with response := none })
      (x := { s.ports[trunkPort] with flight := none }) hdiscards (by rw [hqueue]; exact hrest)
    exact congrArg Host.Outcome.next h
  · rw [State.endReport_discarded (s := s.putPort trunkPort _) hr hthird.ge, ← hqueue]
    have h := State.countDiscard_third_trunkPort (s := { s with reports := later, reportsLost := true })
      (x := { s.ports[trunkPort] with flight := none }) hdiscards (by rw [hqueue]; exact hrest)
    exact congrArg Host.Outcome.next h

end Sys2Proof.Machine
end

section
/-! Scheduled wakes (section 10.4): wake requests look at no schedule entry. -/

namespace Sys2Proof.Machine

/-- The state with another schedule. -/
def State.withSchedule (s : State) (x : Vector ScheduleEntry 8) : State := { s with schedule := x }

section
variable (s : State) (x : Vector ScheduleEntry 8) (b : Branch) (d : DomainIx)

theorem State.withSchedule_goRest : (s.withSchedule x).goRest b = (s.goRest b).withSchedule x := by
  have hput : (s.withSchedule x).branches[b].params.rest = s.branches[b].params.rest := rfl
  unfold State.goRest
  dsimp only
  rw [hput]
  cases s.branches[b].params.rest with
  | off => rfl
  | listen =>
    dsimp only
    by_cases h : s.mode = .parked
    · rw [if_pos h, if_pos (by exact h)]
      rfl
    · rw [if_neg h, if_neg (by exact h)]
      rfl

theorem State.withSchedule_returnToRest : (s.withSchedule x).returnToRest b = (s.returnToRest b).withSchedule x :=
  ((s.purge (portOf b) QueueItem.held).stopDrain b).withSchedule_goRest x b

theorem State.withSchedule_branchFollow : (s.withSchedule x).branchFollow b = (s.branchFollow b).withSchedule x := by
  have hrest := s.withSchedule_returnToRest x b
  have hany : ∀ k, (s.withSchedule x).anyDomainOf b k = s.anyDomainOf b k := fun _ => rfl
  have henter : (s.withSchedule x).enterBranch b .awake = (s.enterBranch b .awake).withSchedule x := rfl
  have hmode : (s.withSchedule x).branches[b].mode = s.branches[b].mode := rfl
  unfold State.branchFollow
  rw [hrest, henter, hmode]
  simp only [hany]
  by_cases h : s.mode = .parked
  · rw [if_pos h, if_pos (by exact h)]
    cases s.branches[b].mode with
    | waking =>
      dsimp only
      split
      · rfl
      · split <;> rfl
    | awake | draining =>
      dsimp only
      split <;> rfl
    | off | listen | isolated => rfl
  · rw [if_neg h, if_neg (by exact h)]

theorem State.withSchedule_raise (c : Condition) (y : Option Nat) (m n : Nat) :
    (s.withSchedule x).raise c y m n = (s.raise c y m n).withSchedule x := by
  unfold State.raise State.offerReport State.withSchedule
  dsimp only
  split
  · split <;> rfl
  · rfl

theorem State.withSchedule_reportFault (k : DomainState) :
    (s.withSchedule x).reportFault d k = (s.reportFault d k).withSchedule x := by
  have hfollow : (s.withSchedule x).followDomain d = (s.followDomain d).withSchedule x := by
    have hbranch : (s.withSchedule x).domains[d].branch = s.domains[d].branch := rfl
    unfold State.followDomain
    rw [hbranch]
    cases s.domains[d].branch with
    | none => rfl
    | some b => exact s.withSchedule_branchFollow x b
  rw [State.reportFault, hfollow, State.withSchedule_raise]
  rfl

theorem State.withSchedule_grantRounds (n : Nat) : ∀ s : State,
    (s.withSchedule x).grantRounds n = (s.grantRounds n).withSchedule x := by
  induction n with
  | zero => exact fun _ => rfl
  | succ n ih =>
    intro s
    have hchoose : (s.withSchedule x).chooseGrant = s.chooseGrant := rfl
    rw [State.grantRounds, State.grantRounds, hchoose]
    by_cases h : s.powerUpCount < s.inrushLimit
    · rw [if_pos h, if_pos (by exact h)]
      cases s.chooseGrant with
      | none => rfl
      | some d =>
        dsimp only
        by_cases hpin : s.faultInputs.getLsbD d.val = true
        · rw [if_pos hpin, if_pos (by exact hpin), ← State.withSchedule_reportFault, ← ih]
          rfl
        · rw [if_neg hpin, if_neg (by exact hpin), ← ih]
          rfl
    · rw [if_neg h, if_neg (by exact h)]

theorem State.withSchedule_withdrawMarker : (s.withSchedule x).withdrawMarker b = (s.withdrawMarker b).withSchedule x := by
  by_cases h : s.branches[b].mode = .draining
  · rw [State.withdrawMarker_eq_put h, State.withdrawMarker_eq_put (s := s.withSchedule x) h]
    rfl
  · rw [s.withdrawMarker_eq_self h, (s.withSchedule x).withdrawMarker_eq_self h]

theorem State.withSchedule_branchJoined : (s.withSchedule x).branchJoined b = (s.branchJoined b).withSchedule x := by
  have hmode : (s.withSchedule x).branches[b].mode = s.branches[b].mode := rfl
  unfold State.branchJoined
  rw [hmode, State.withSchedule_withdrawMarker]
  by_cases h : s.mode = .parked
  · rw [if_pos h, if_pos (by exact h)]
    cases s.branches[b].mode <;> rfl
  · rw [if_neg h, if_neg (by exact h)]

theorem State.withSchedule_requestWake (k : WakeClass) (n : Nat) (r : Option RuleIx) :
    (s.withSchedule x).requestWake d k n r = (s.requestWake d k n r).withSchedule x := by
  have hget : (s.withSchedule x).domains[d] = s.domains[d] := rfl
  unfold State.requestWake
  dsimp only
  rw [hget]
  cases s.domains[d].state with
  | off =>
    cases s.domains[d].branch with
    | none => rfl
    | some b =>
      dsimp only
      by_cases h : s.branches[b].mode = .isolated
      · rw [if_pos h, if_pos (by exact h)]
      · rw [if_neg h, if_neg (by exact h), ← State.withSchedule_branchJoined]
        rfl
  | queued | powerUp | on | fault => rfl
  | releasing =>
    cases s.domains[d].branch with
    | none => rfl
    | some b =>
      dsimp only
      rw [← State.withSchedule_withdrawMarker]
      rfl

theorem State.withSchedule_wake (k : WakeClass) (n : Nat) (r : Option RuleIx) :
    (s.withSchedule x).wake d k n r = (s.wake d k n r).withSchedule x := by
  rw [State.wake, State.withSchedule_requestWake]
  exact State.withSchedule_grantRounds x 16 _

theorem State.withSchedule_joined (q : Domain) : (s.withSchedule x).joined d b q = (s.joined d b q).withSchedule x := by
  have hmode : (s.withSchedule x).branches[b].mode = s.branches[b].mode := rfl
  unfold State.joined
  dsimp only
  rw [hmode]
  cases s.branches[b].mode <;> rfl

end

end Sys2Proof.Machine
end

section
/-! Settling the statement about schedule entries (section 10.4). -/

namespace Sys2Proof.Machine

variable {s : State} {i : EntryIx}

/-- What an expiry leaves of the record of its entry (R168). -/
def ScheduleEntry.spent (e : ScheduleEntry) : ScheduleEntry :=
  if e.mode = .repeating then { e with countdown := e.period } else { e with enabled := false, countdown := 0 }

theorem ScheduleEntry.fired_eq_spent (e : ScheduleEntry) : e.fired = e.spent := by
  unfold ScheduleEntry.fired ScheduleEntry.spent
  cases e.mode <;> rfl

theorem State.matrix_of_honours {k : WakeClass} (hparked : s.mode = .parked) (h : s.honours k) : s.matrix k = .honour := by
  have houtcome := State.outcomeFor_of_honours h
  rwa [State.outcomeFor, if_pos hparked] at houtcome

theorem State.honours_of_held {u t : State} {k : WakeClass} (h : t.held = u.held) (hhonours : u.honours k) : t.honours k := by
  have hmode := State.mode_of_held h
  have haccount := State.account_of_held h
  have hbudget := State.budget_of_held h
  unfold State.honours at hhonours ⊢
  rw [hmode, haccount, hbudget]
  exact hhonours

section
variable (hparked : s.mode = .parked) (henabled : s.schedule[i].enabled = true) (hcount : s.schedule[i].countdown = 0)
include hparked henabled hcount

theorem exec_scheduleExpiry_eq : exec (.scheduleExpiry i) s = .next ((s.scheduledWake i).modEntry i ScheduleEntry.fired) := by
  have hdue : s.scheduleDue i = true := by
    unfold State.scheduleDue
    rw [hparked, henabled, hcount]
    rfl
  show Host.Outcome.next _ = _
  rw [if_pos hdue]

/-- An Honoured expiry is its wake requests, and the entry's record at the end. -/
theorem exec_scheduleExpiry_honoured (h : s.honours s.schedule[i].cls) : exec (.scheduleExpiry i) s =
    .next ((s.issueWakes s.account.effective s.schedule[i].wake s.schedule[i].cls s.schedule[i].linger none).withSchedule
      (s.schedule.set i s.schedule[i].spent)) := by
  have hschedule : ∀ t : State, t.held = s.held → t.modEntry i ScheduleEntry.fired =
      t.withSchedule (s.schedule.set i s.schedule[i].spent) := fun t ht => by
    have hsame : t.schedule = s.schedule := by
      have h := congrArg State.schedule ht
      exact h
    rw [State.modEntry, hsame, ScheduleEntry.fired_eq_spent]
    rfl
  rw [exec_scheduleExpiry_eq hparked henabled hcount, State.scheduledWake]
  rw [State.matrix_of_honours hparked h]
  exact congrArg Host.Outcome.next (hschedule _ (State.issueWakes_held _ _ _ _ _ _))

/-- An Honoured expiry of one domain. -/
theorem exec_scheduleExpiry_one {d : DomainIx} (h : s.honours s.schedule[i].cls)
    (hwake : s.schedule[i].wake = BitVec.twoPow 16 d.val) : exec (.scheduleExpiry i) s =
    .next ((s.wake d s.schedule[i].cls
      (s.cappedAt (if s.schedule[i].linger = 0 then s.domains[d].defaultLinger else s.schedule[i].linger)) none).withSchedule
      (s.schedule.set i s.schedule[i].spent)) := by
  rw [exec_scheduleExpiry_honoured hparked henabled hcount h, hwake, State.issueWakes_single, State.effectiveLinger,
    capLinger_effective]

end

/-! ## Several domains of one entry -/

theorem State.withSchedule_foldl {α : Type} (x : Vector ScheduleEntry 8) (op : State → α → State)
    (hop : ∀ (t : State) (a : α), op (t.withSchedule x) a = (op t a).withSchedule x) :
    ∀ (l : List α) (t : State), l.foldl op (t.withSchedule x) = (l.foldl op t).withSchedule x
  | [], _ => rfl
  | a :: l, t => by
    rw [List.foldl_cons, hop, State.withSchedule_foldl x op hop l]
    rfl

theorem State.withSchedule_withSchedule (u : State) (x y : Vector ScheduleEntry 8) :
    (u.withSchedule x).withSchedule y = u.withSchedule y := rfl

theorem exec_scheduleExpiry_set {e : ScheduleEntry} {d : DomainIx} {t : State} (henabled : e.enabled = true)
    (hcount : e.countdown = 0) (hwake : e.wake = BitVec.twoPow 16 d.val) (hparked : t.mode = .parked)
    (hhonours : t.honours e.cls) : exec (.scheduleExpiry i) (t.withSchedule (t.schedule.set i e)) =
      .next ((t.wake d e.cls (t.effectiveLinger t.account.effective e.linger d) none).withSchedule
        (t.schedule.set i e.spent)) := by
  obtain ⟨x, hx⟩ : ∃ x, t.schedule.set i e = x := ⟨_, rfl⟩
  have hget : (t.withSchedule x).schedule[i] = e := by
    rw [← hx]
    exact Vector.getElem_set_self i.isLt
  have htwice : (t.withSchedule x).schedule.set i e.spent = t.schedule.set i e.spent := by
    rw [← hx]
    exact Vector.set_set ..
  have hlinger : (t.withSchedule x).cappedAt (if e.linger = 0 then (t.withSchedule x).domains[d].defaultLinger else e.linger) =
      t.effectiveLinger t.account.effective e.linger d :=
    (capLinger_effective (s := t) (n := if e.linger = 0 then t.domains[d].defaultLinger else e.linger)).symm
  have hone := exec_scheduleExpiry_one (s := t.withSchedule x) (d := d) hparked
    (by rw [hget]; exact henabled) (by rw [hget]; exact hcount) (by rw [hget]; exact hhonours) (by rw [hget]; exact hwake)
  rw [hget, hlinger, htwice, State.withSchedule_wake, State.withSchedule_withSchedule] at hone
  rw [hx]
  exact hone

theorem State.withSchedule_honours (x : Vector ScheduleEntry 8) {k : WakeClass} :
    (s.withSchedule x).honours k ↔ s.honours k := Iff.rfl

theorem State.fireEach_cons {e spent : ScheduleEntry} {d : DomainIx} {l : List DomainIx} {t u : State}
    (h : exec (.scheduleExpiry i) (t.withSchedule (t.schedule.set i { e with wake := BitVec.twoPow 16 d.val })) = .next u) :
    t.fireEach i e spent (d :: l) = u.fireEach i e spent l := by
  rw [State.withSchedule] at h
  rw [State.fireEach, h]

/-- The expiries of one entry for one domain after the other are its wake requests. -/
theorem State.fireEach_eq {e : ScheduleEntry} (henabled : e.enabled = true) (hcount : e.countdown = 0) (spent : ScheduleEntry) :
    ∀ (l : List DomainIx) (t : State), t.mode = .parked → t.honours e.cls → ∀ lvl, lvl = t.account.effective →
      t.fireEach i e spent l =
        .next ((l.foldl (fun t d => t.wake d e.cls (t.effectiveLinger lvl e.linger d) none) t).withSchedule
          (t.schedule.set i spent))
  | [], _, _, _, _, _ => rfl
  | d :: l, t, hparked, hhonours, lvl, hlvl => by
    subst hlvl
    have hheld : (t.wake d e.cls (t.effectiveLinger t.account.effective e.linger d) none).held = t.held := t.wake_held d _ _ _
    have hhonours' := State.honours_of_held hheld hhonours
    have haccount := State.account_of_held hheld
    have hmode := (State.mode_of_held hheld).trans hparked
    obtain ⟨w, hw⟩ : ∃ w, t.wake d e.cls (t.effectiveLinger t.account.effective e.linger d) none = w := ⟨_, rfl⟩
    rw [hw] at hhonours' haccount hmode
    have hone := exec_scheduleExpiry_set (t := t) (i := i) (d := d) (e := { e with wake := BitVec.twoPow 16 d.val })
      henabled hcount rfl hparked hhonours
    rw [hw] at hone
    have hlater := fun x => State.fireEach_eq henabled hcount spent l (w.withSchedule x) hmode
      ((State.withSchedule_honours x).2 hhonours') t.account.effective (congrArg Account.effective haccount.symm)
    have hlater := hlater (t.schedule.set i ({ e with wake := BitVec.twoPow 16 d.val } : ScheduleEntry).spent)
    rw [State.withSchedule_foldl _ _ (fun u a => State.withSchedule_wake u _ a _ _ _)] at hlater
    refine (State.fireEach_cons hone).trans (hlater.trans (congrArg Host.Outcome.next ?_))
    rw [List.foldl_cons, hw]
    refine congrArg (State.withSchedule (List.foldl _ w l)) ?_
    exact Vector.set_set ..

/-- An expiry that is not Honoured is skipped, with the outcome and the level (R167). -/
theorem State.scheduledWake_skipped (hparked : s.mode = .parked) (h : ¬ s.honours s.schedule[i].cls) :
    s.scheduledWake i = s.raise .scheduleSkipped (some i.val)
      (if s.schedule[i].cls = .c ∧ (s.account.effective = .red ∨ s.account.effective = .exhausted) then 2 else 1)
      s.account.effective.code := by
  have houtcome := State.outcomeFor_of_not_honours hparked h
  rw [State.outcomeFor, if_pos hparked] at houtcome
  rw [State.scheduledWake, houtcome]
  by_cases hdropped : s.schedule[i].cls = .c ∧ (s.account.effective = .red ∨ s.account.effective = .exhausted)
  · rw [if_pos hdropped, if_pos hdropped]
    rfl
  · rw [if_neg hdropped, if_neg hdropped]
    rfl

/-- The entry's record changes beside the condition. -/
theorem State.raise_modEntry (c : Condition) (y : Option Nat) (m n : Nat) :
    (s.raise c y m n).modEntry i ScheduleEntry.fired =
      ({ s with schedule := s.schedule.set i s.schedule[i].spent } : State).raise c y m n := by
  have hschedule : (s.raise c y m n).schedule = s.schedule := by
    obtain ⟨f, r, l, h⟩ := s.raise_frame c y m n
    rw [h]
  rw [State.modEntry, hschedule, ScheduleEntry.fired_eq_spent]
  exact (s.withSchedule_raise _ c y m n).symm

/-- Settles O47: the skipped expiry, and the wake requests of an Honoured one by the state of their domain. -/
theorem scheduleEntryFires : Obligations.ScheduleEntryFires := by
  intro s i d b hparked henabled hcount
  dsimp only
  have hspent : s.schedule[i].spent = if s.schedule[i].mode = .repeating then
      { s.schedule[i] with countdown := s.schedule[i].period }
      else { s.schedule[i] with enabled := false, countdown := 0 } := rfl
  rw [← hspent]
  refine ⟨fun hhonours => ?_, fun hhonours hwake => ?_, fun hhonours => ?_, fun hhonours hwake hidle =>
    ⟨fun h => ?_, fun h => ?_, fun h => ⟨fun hb => ?_, fun hb hmode => ?_⟩, fun h => ?_, fun h hb hmode => ?_,
      fun hoff hfull => ⟨fun hb => ?_, fun hb => ?_⟩, fun hoff hfree hpin => ⟨fun hb => ?_, fun hb hmode => ?_⟩⟩⟩
  · rw [exec_scheduleExpiry_eq hparked henabled hcount, State.scheduledWake_skipped hparked hhonours]
    exact congrArg Host.Outcome.next (State.raise_modEntry _ _ _ _)
  · rw [exec_scheduleExpiry_honoured hparked henabled hcount hhonours, hwake, State.issueWakes_none]
    rfl
  · rw [exec_scheduleExpiry_honoured hparked henabled hcount hhonours]
    exact (State.fireEach_eq henabled hcount _ _ s hparked hhonours _ rfl).symm
  all_goals
    rw [exec_scheduleExpiry_one hparked henabled hcount hhonours hwake]
    refine congrArg Host.Outcome.next ?_
  · exact congrArg (State.withSchedule · _) (State.wake_on hidle h)
  · rw [← WakeClass.higher_eq]
    exact congrArg (State.withSchedule · _) (State.wake_waiting hidle h)
  · exact congrArg (State.withSchedule · _) (State.wake_releasing (b := b) hidle h (.inl hb))
  · exact (congrArg (State.withSchedule · _) (State.wake_revived hidle h hb hmode)).trans
      (State.withSchedule_joined ..).symm
  · exact congrArg (State.withSchedule · _) (State.wake_fault hidle h)
  · exact congrArg (State.withSchedule · _) (State.wake_isolated hidle h hb hmode)
  · exact congrArg (State.withSchedule · _) (State.wake_full (b := b) hoff (.inl hb) hfull)
  · by_cases hmode : s.branches[b].mode = .isolated
    · exact (congrArg (State.withSchedule · _) ((State.wake_isolated hidle hoff hb hmode).trans
        (State.joined_isolated hmode _).symm)).trans (State.withSchedule_joined ..).symm
    · exact (congrArg (State.withSchedule · _) (State.wake_full_parked hoff hb hmode hparked hfull)).trans
        (State.withSchedule_joined ..).symm
  · exact congrArg (State.withSchedule · _) (State.wake_free (b := b) hidle hoff (.inl hb) hfree hpin)
  · exact (congrArg (State.withSchedule · _) (State.wake_free_parked hidle hoff hb hmode hparked hfree hpin)).trans
      (congrArg (fun u : State => { u with lastGranted := d }) (State.withSchedule_joined ..).symm)

end Sys2Proof.Machine
end

section
/-! Settling the statement about frames that land (section 2.3): the reception notice of a branch. -/

namespace Sys2Proof.Machine

variable {s : State} {b : Branch}

/-- A domain that a reception notice of the branch confirms (R156). -/
abbrev State.confirms (s : State) (b : Branch) (d : DomainIx) : Prop :=
  s.domains[d].branch = some b ∧ s.domains[d].state = .on ∧ s.domains[d].awaiting = true

theorem State.confirm_domain (s : State) (b : Branch) (d : DomainIx) : (s.confirm b).domains[d] =
    if s.confirms b d then { s.domains[d] with waker := none, awaiting := false } else s.domains[d] := by
  unfold State.confirm
  dsimp only
  rw [State.mapDomains_get, State.mapRules_domains]
  exact if_congr Iff.rfl rfl rfl

/-- The state with other domains and rules. -/
def State.withRecords (s : State) (ds : Vector Domain 16) (rs : Vector Rule 128) : State :=
  { s with domains := ds, rules := rs }

theorem State.mapRules_mapDomains (s : State) (f : RuleIx → Rule → Rule) (g : DomainIx → Domain → Domain) :
    ∃ ds rs, (s.mapRules f).mapDomains g = s.withRecords ds rs := by
  refine ⟨((s.mapRules f).mapDomains g).domains, (s.mapRules f).rules, ?_⟩
  unfold State.mapDomains State.mapRules State.withRecords
  dsimp only

/-- A confirmation changes the domains and the rules alone. -/
theorem State.confirm_frame (s : State) (b : Branch) : ∃ ds rs, s.confirm b = s.withRecords ds rs := by
  unfold State.confirm
  exact s.mapRules_mapDomains _ _

theorem State.confirm_rule (s : State) (b : Branch) (r : RuleIx) : (s.confirm b).rules[r] =
    if ∃ d, s.confirms b d ∧ s.domains[d].waker = some r then { s.rules[r] with suspect := none } else s.rules[r] := by
  unfold State.confirm
  dsimp only
  rw [State.mapDomains_rules, State.mapRules_get]
  refine if_congr ?_ rfl rfl
  rw [List.any_eq_true]
  simp only [mem_allDomains, true_and, Bool.and_eq_true, decide_eq_true_eq, beq_iff_eq]

/-- A reception notice changes the records of the domains and the rules, and withdraws the marker (R21). -/
theorem State.receptionNotice_frame (s : State) (b : Branch) :
    { s.receptionNotice b with domains := s.domains, rules := s.rules } =
      if s.branches[b].mode = .draining then
        (s.putBranch b { s.branches[b] with mode := .awake, drainTimer := none, closing := false }).putPort (portOf b)
          { s.ports[portOf b] with queue := s.ports[portOf b].queue.filter QueueItem.isFrame }
      else s := by
  obtain ⟨ds, rs, hconfirm⟩ := s.confirm_frame b
  rw [State.receptionNotice, hconfirm]
  split
  · rename_i h
    rw [State.withdrawMarker_eq_put (s := s.withRecords ds rs) (b := b) h]
    rfl
  · rename_i h
    rw [State.withdrawMarker_eq_self (s := s.withRecords ds rs) (b := b) h]
    rfl

theorem State.receptionNotice_rule (s : State) (b : Branch) (r : RuleIx) :
    (s.receptionNotice b).rules[r] = (s.confirm b).rules[r] := by
  rw [State.receptionNotice]
  generalize s.confirm b = u
  by_cases h : u.branches[b].mode = .draining
  · rw [State.withdrawMarker_eq_put h]
    rfl
  · rw [u.withdrawMarker_eq_self h]

theorem State.receptionNotice_domain (s : State) (b : Branch) (d : DomainIx) :
    (s.receptionNotice b).domains[d] =
      if s.confirms b d then { s.domains[d] with waker := none, awaiting := false }
      else if s.branches[b].mode = .draining ∧ s.domains[d].branch = some b ∧ s.domains[d].state = .releasing then
        { s.domains[d] with state := .on, remaining := s.cappedAt s.domains[d].defaultLinger }
      else s.domains[d] := by
  have hconfirm := s.confirm_domain b d
  obtain ⟨ds, rs, hframe⟩ := s.confirm_frame b
  rw [State.receptionNotice, hframe]
  rw [hframe] at hconfirm
  by_cases hmode : s.branches[b].mode = .draining
  · rw [State.withdrawMarker_eq_put (s := s.withRecords ds rs) (b := b) hmode]
    show (Vector.ofFn _)[d] = _
    rw [ofFn_get, hconfirm]
    by_cases hconfirmed : s.confirms b d
    · have hon : s.domains[d].state ≠ .releasing := hconfirmed.2.1 ▸ nofun
      rw [if_pos hconfirmed, if_pos hconfirmed, if_neg fun h => hon h.2]
    · rw [if_neg hconfirmed, if_neg hconfirmed]
      exact if_congr (by simp only [hmode, true_and]) rfl rfl
  · rw [State.withdrawMarker_eq_self (s := s.withRecords ds rs) (b := b) hmode, hconfirm]
    refine if_congr Iff.rfl rfl ?_
    rw [if_neg fun h => hmode h.1]

/-! ## Landing -/

theorem State.land_trunkPort (h : s.mode ≠ .fallback) (f : Frame) : s.land trunkPort f =
    { s.putPort trunkPort { s.ports[trunkPort] with landing := s.ports[trunkPort].landing ++ [f] } with
      trunk := .active, silence := some s.silenceTime } := by
  unfold State.land
  dsimp only
  rw [if_neg h]
  rfl

theorem State.land_portOf (h : s.mode ≠ .fallback) (f : Frame) : s.land (portOf b) f =
    (s.putPort (portOf b) { s.ports[portOf b] with landing := s.ports[portOf b].landing ++ [f] }).receptionNotice b := by
  unfold State.land
  dsimp only
  rw [if_neg h, branchOf_portOf, State.heardAt_portOf]
  rfl

theorem exec_frameReception_lands {p : Port} {f : Frame} (hwf : f.wf = true) (hreceives : s.receives p = true)
    (hlength : f.payload.length ≤ s.ports[p].params.maxPayload) (hroom : s.ports[p].landing.length < 2) :
    exec (.frameReception p f) s = .next (s.land p f) := by
  rw [exec_frameReception hwf hreceives, State.receive, if_neg (Nat.not_lt.2 hlength)]
  exact congrArg Host.Outcome.next (if_pos hroom)

theorem State.receives_portOf (hoff : s.branches[b].mode ≠ .off) (hisolated : s.branches[b].mode ≠ .isolated) :
    s.receives (portOf b) = true := by
  unfold State.receives
  rw [branchOf_portOf]
  dsimp only
  cases h : s.branches[b].mode with
  | off => exact absurd h hoff
  | isolated => exact absurd h hisolated
  | listen | waking | awake | draining => rfl

/-- Settles O19: a landed frame joins its buffer, and the notice of a branch changes its records alone. -/
theorem landedFramesAct : Obligations.LandedFramesAct := by
  intro s b f hmode hwf
  refine ⟨fun hlength hroom => ?_, fun hlength hroom hoff hisolated => ?_⟩
  · rw [exec_frameReception_lands hwf rfl hlength hroom, State.land_trunkPort hmode]
  · obtain ⟨u, hu⟩ : ∃ u, s.putPort (portOf b) { s.ports[portOf b] with landing := s.ports[portOf b].landing ++ [f] } = u :=
      ⟨_, rfl⟩
    have hport : u.ports[portOf b] = { s.ports[portOf b] with landing := s.ports[portOf b].landing ++ [f] } := by
      rw [← hu, State.putPort_get]
    have hbranches : u.branches = s.branches := by rw [← hu]; rfl
    have hdomains : u.domains = s.domains := by rw [← hu]; rfl
    have hrules : u.rules = s.rules := by rw [← hu]; rfl
    have hcapped : ∀ n, u.cappedAt n = s.cappedAt n := by rw [← hu]; exact fun _ => rfl
    refine ⟨u.receptionNotice b, ?_, ?_, fun d => ?_, fun r => ?_⟩
    · rw [exec_frameReception_lands hwf (State.receives_portOf hoff hisolated) hlength hroom, State.land_portOf hmode, hu]
    · have hframe := u.receptionNotice_frame b
      rw [hdomains, hrules, hbranches, hport] at hframe
      refine hframe.trans ?_
      subst hu
      split
      · exact (s.putBranch b _).putPort_putPort (portOf b) _ _
      · exact (State.putBranch_self (s := s.putPort (portOf b) _) b).symm
    · subst hu
      exact State.receptionNotice_domain _ b d
    · subst hu
      exact (State.receptionNotice_rule _ b r).trans (State.confirm_rule _ b r)

end Sys2Proof.Machine
end

section
/-! What the arbiter leaves of a domain, and wake requests to a group of domains outside Parked (section 6.4). -/

namespace Sys2Proof.Machine

variable {s : State}

/-! ## What the arbiter leaves of a domain -/

theorem State.runArbiter_domain_of_not_queued {d : DomainIx} (h : s.domains[d].state ≠ .queued) :
    s.runArbiter.domains[d] = s.domains[d] :=
  (s.runArbiter_domain d).resolve_right fun hqueued => h hqueued.1

/-- A domain that waits at the end of a command has its record, or the arbiter's grant where a place was free. -/
theorem State.runArbiter_waitsOrGranted {u : State} (hfree : u.powerUpCount < u.inrushLimit → s.powerUpCount < s.inrushLimit)
    (hpins : u.faultInputs = s.faultInputs) (d : DomainIx) : s.waitsOrGranted d u.domains[d] u.runArbiter.domains[d] := by
  by_cases hplace : u.powerUpCount < u.inrushLimit
  · rcases u.runArbiter_domain d with hsame | ⟨-, hgranted⟩
    · exact .inl hsame
    · rw [hpins] at hgranted
      exact .inr ⟨hfree hplace, hgranted⟩
  · rw [State.runArbiter_of_idle (.inl (Nat.not_lt.1 hplace))]
    exact .inl rfl

theorem State.powerUpCount_congr {u : State} (h : ∀ d : DomainIx, u.domains[d].state = .powerUp ↔ s.domains[d].state = .powerUp) :
    u.powerUpCount = s.powerUpCount :=
  List.countP_congr fun d _ => by
    rw [decide_eq_true_iff, decide_eq_true_iff]
    exact h d

/-! ## Wake requests to a group -/

/-- Some branch of the given set is Isolated and holds the domain. -/
def State.cutsOff (s : State) (x : Domain) : Bool :=
  match x.branch with
  | none => false
  | some b => s.branches[b].mode == .isolated

theorem State.cutsOff_iff {x : Domain} : s.cutsOff x = true ↔ ∃ b : Branch, x.branch = some b ∧ s.branches[b].mode = .isolated := by
  unfold State.cutsOff
  cases x.branch with
  | none => exact iff_of_false nofun nofun
  | some b =>
    refine beq_iff_eq.trans ⟨fun h => ⟨b, rfl, h⟩, ?_⟩
    rintro ⟨_, ⟨⟩, h⟩
    exact h

/-- A domain record after a class B wake request with its default linger, no branch being Draining and the part not
Parked (R101, R11). -/
def Domain.asked (cutOff : Bool) (x : Domain) : Domain :=
  match x.state with
  | .off => if cutOff then x else { x with state := .queued, pending := x.defaultLinger, pendingClass := .b }
  | .queued | .powerUp =>
    { x with pending := max x.pending x.defaultLinger, pendingClass := x.pendingClass.higher .b }
  | .on => { x with remaining := max x.remaining x.defaultLinger }
  | .releasing => { x with state := .on, remaining := x.defaultLinger }
  | .fault => x

/-- Every domain asked. -/
def State.allAsked (s : State) : State := s.withDomains (.ofFn fun d => s.domains[d].asked (s.cutsOff s.domains[d]))

theorem State.allAsked_domain (d : DomainIx) : s.allAsked.domains[d] = s.domains[d].asked (s.cutsOff s.domains[d]) :=
  ofFn_get _ d

theorem Domain.asked_powerUp (cutOff : Bool) (x : Domain) : (x.asked cutOff).state = .powerUp ↔ x.state = .powerUp := by
  unfold Domain.asked
  cases h : x.state with
  | off => cases cutOff <;> simp [h]
  | queued | powerUp | on | releasing | fault => simp [h]

theorem State.allAsked_powerUpCount (s : State) : s.allAsked.powerUpCount = s.powerUpCount :=
  State.powerUpCount_congr fun d => by
    rw [State.allAsked_domain]
    exact Domain.asked_powerUp _ _

section
variable (hmode : s.mode ≠ .parked) (hdraining : ∀ b : Branch, s.branches[b].mode ≠ .draining)
include hmode hdraining

theorem State.requestWake_unparked (d : DomainIx) : s.requestWake d .b s.domains[d].defaultLinger none =
    s.putDomain d (s.domains[d].asked (s.cutsOff s.domains[d])) := by
  have hjoined : ∀ (u : State) (b : Branch), u.mode = s.mode → u.branchJoined b = u := fun u b hu => by
    rw [State.branchJoined, if_neg (by rw [hu]; exact hmode)]
  have hqueued : ∀ x : Domain, x.queuedFor .b x.defaultLinger none =
      { x with state := .queued, pending := x.defaultLinger, pendingClass := .b } := fun _ => rfl
  unfold State.requestWake Domain.asked
  dsimp only
  rw [State.modDomain_eq_put, State.modDomain_eq_put, State.modDomain_eq_put, State.modDomain_eq_put]
  cases hstate : s.domains[d].state with
  | off =>
    dsimp only
    rw [hqueued]
    unfold State.cutsOff
    cases s.domains[d].branch with
    | none => rfl
    | some b =>
      dsimp only
      by_cases hisolated : s.branches[b].mode = .isolated
      · rw [if_pos hisolated, if_pos (beq_iff_eq.2 hisolated), State.putDomain_self]
      · rw [if_neg hisolated, if_neg (fun h => hisolated (beq_iff_eq.1 h))]
        exact hjoined _ b rfl
  | queued | powerUp | on => rfl
  | releasing =>
    dsimp only
    cases s.domains[d].branch with
    | none => rfl
    | some b => exact State.withdrawMarker_eq_self (s := s.putDomain d _) (b := b) (hdraining b)
  | fault => exact (s.putDomain_self d).symm

end

/-- Each domain of a list replaced by its image. -/
theorem State.foldl_putDomain {f : Domain → Domain} {op : State → DomainIx → State} {p : State → Prop}
    (hop : ∀ t d, p t → op t d = t.putDomain d (f t.domains[d])) (hp : ∀ t d x, p t → p (t.putDomain d x)) :
    ∀ (l : List DomainIx) (t : State), l.Nodup → p t →
      l.foldl op t = t.withDomains (.ofFn fun d => if d ∈ l then f t.domains[d] else t.domains[d])
  | [], t, _, _ => congrArg (State.withDomains t) (Vector.ext fun i hi => by
      rw [Vector.getElem_ofFn]
      rfl)
  | d :: l, t, hnodup, ht => by
    obtain ⟨hd, hl⟩ := List.nodup_cons.1 hnodup
    rw [List.foldl_cons, hop t d ht, State.foldl_putDomain hop hp l _ hl (hp t d _ ht)]
    refine congrArg (State.withDomains t) (congrArg Vector.ofFn (funext fun i => ?_))
    by_cases hi : i = d
    · subst hi
      rw [if_neg hd, State.putDomain_get, if_pos (List.mem_cons_self ..)]
    · rw [t.putDomain_get_ne _ hi]
      exact if_congr (by simp [hi]) rfl rfl

/-- The wake requests of a mode change: every domain asked, then the grants (R2, R9; log entry 6). -/
theorem State.wakeGroup_unparked (hmode : s.mode ≠ .parked) (hdraining : ∀ b : Branch, s.branches[b].mode ≠ .draining) :
    s.wakeGroup allDomains = s.allAsked.runArbiter := by
  have hfold := State.foldl_putDomain (f := fun x => x.asked (s.cutsOff x))
    (op := fun t d => t.requestWake d .b t.domains[d].defaultLinger none)
    (p := fun t => t.mode = s.mode ∧ t.branches = s.branches)
    (fun t d ht => by
      have hcutsOff : ∀ x, t.cutsOff x = s.cutsOff x := fun x => by
        rw [State.cutsOff, ht.2]
        rfl
      rw [State.requestWake_unparked (ht.1 ▸ hmode) (fun b => by rw [ht.2]; exact hdraining b), hcutsOff])
    (fun _ _ _ => id) allDomains s allDomains_nodup ⟨rfl, rfl⟩
  rw [State.wakeGroup, hfold]
  refine congrArg State.runArbiter (congrArg (State.withDomains s) (congrArg Vector.ofFn (funext fun d => ?_)))
  exact if_pos (mem_allDomains d)

theorem State.allAsked_waitsOrGranted (s : State) (d : DomainIx) :
    s.waitsOrGranted d (s.domains[d].asked (s.cutsOff s.domains[d])) s.allAsked.runArbiter.domains[d] := by
  rw [← State.allAsked_domain]
  have hcount := s.allAsked_powerUpCount
  have hlimit : s.allAsked.inrushLimit = s.inrushLimit := rfl
  have hpins : s.allAsked.faultInputs = s.faultInputs := rfl
  generalize s.allAsked = u at hcount hlimit hpins
  exact State.runArbiter_waitsOrGranted (fun h => by rwa [hcount, hlimit] at h) hpins d

end Sys2Proof.Machine
end

section
/-! Settling the statements about the end of Fallback and about Depart (sections 1.2, 1.3 and 1.5). -/

namespace Sys2Proof.Machine

variable {s : State}

theorem eq_ofFn {α : Type} {n : Nat} {v : Vector α n} {f : Fin n → α} (h : ∀ i : Fin n, v[i] = f i) : v = .ofFn f :=
  Vector.ext fun i hi => (h ⟨i, hi⟩).trans (Vector.getElem_ofFn hi).symm

theorem State.waitsOrGranted.of_same {u : State} {d : DomainIx} {y t : Domain} (h : u.waitsOrGranted d y t)
    (hcount : u.powerUpCount = s.powerUpCount) (hlimit : u.inrushLimit = s.inrushLimit)
    (hpins : u.faultInputs = s.faultInputs) : s.waitsOrGranted d y t := by
  rw [State.waitsOrGranted, hcount, hlimit, hpins] at h
  exact h

section
variable {x : Domain} {cutOff : Bool}

theorem Domain.asked_off (h : x.state = .off) : x.asked cutOff =
    if cutOff then x else { x with state := .queued, pending := x.defaultLinger, pendingClass := .b } := by
  cases x; cases h; rfl

theorem Domain.asked_waiting (h : x.state = .queued ∨ x.state = .powerUp) : x.asked cutOff =
    { x with pending := max x.pending x.defaultLinger, pendingClass := x.pendingClass.higher .b } := by
  cases x
  rcases h with h | h <;> cases h <;> rfl

theorem Domain.asked_on (h : x.state = .on) : x.asked cutOff = { x with remaining := max x.remaining x.defaultLinger } := by
  cases x; cases h; rfl

theorem Domain.asked_releasing (h : x.state = .releasing) : x.asked cutOff =
    { x with state := .on, remaining := x.defaultLinger } := by
  cases x; cases h; rfl

theorem Domain.asked_fault (h : x.state = .fault) : x.asked cutOff = x := by
  cases x; cases h; rfl

end

theorem State.withDomains_withTold (u : State) (x ds : Vector Domain 16) (g : DomainIx) (f : KindSet) (r : List Report) (l : Bool) :
    (u.withDomains x).withTold ds g f r l = u.withTold ds g f r l := rfl

theorem State.withDomains_told (u : State) (x : Vector Domain 16) : (u.withDomains x).flags = u.flags
    ∧ (u.withDomains x).reports = u.reports ∧ (u.withDomains x).reportsLost = u.reportsLost := ⟨rfl, rfl, rfl⟩

/-- With no fault input asserted the arbiter tells nothing. -/
theorem State.runArbiter_told (h : s.faultInputs = 0) : s.runArbiter.flags = s.flags ∧ s.runArbiter.reports = s.reports
    ∧ s.runArbiter.reportsLost = s.reportsLost := by
  obtain ⟨ds, g, hquiet⟩ := State.runArbiter_quiet h
  rw [hquiet]
  exact ⟨rfl, rfl, rfl⟩

/-- The wake requests of a mode change, by what they tell and by what becomes of each domain. -/
theorem State.wakeGroup_told (hmode : s.mode ≠ .parked) (hdraining : ∀ b : Branch, s.branches[b].mode ≠ .draining) :
    ∃ ds g f r l, s.wakeGroup allDomains = s.withTold ds g f r l
      ∧ (s.faultInputs = 0 → f = s.flags ∧ r = s.reports ∧ l = s.reportsLost)
      ∧ (∀ d : DomainIx, s.waitsOrGranted d (s.domains[d].asked (s.cutsOff s.domains[d])) ds[d])
      ∧ ∀ d : DomainIx, (s.domains[d].asked (s.cutsOff s.domains[d])).state ≠ .queued →
          ds[d] = s.domains[d].asked (s.cutsOff s.domains[d]) := by
  obtain ⟨ds, g, f, r, l, hrun⟩ := State.runArbiter_unparked (s := s.allAsked) hmode
  have hwaits := s.allAsked_waitsOrGranted
  have hsame := fun (d : DomainIx) (h : s.allAsked.domains[d].state ≠ .queued) => State.runArbiter_domain_of_not_queued h
  have htold : s.faultInputs = 0 → _ := State.runArbiter_told (s := s.allAsked)
  rw [hrun] at hwaits hsame htold
  refine ⟨ds, g, f, r, l, ?_, fun hpins => ?_, hwaits, fun d hd => ?_⟩
  · rw [State.wakeGroup_unparked hmode hdraining, hrun, State.allAsked, State.withDomains_withTold]
  · exact htold hpins
  · rw [← State.allAsked_domain] at hd ⊢
    exact hsame d hd

/-! ## Branches roused -/

theorem State.rouseBranches_port (p : Port) : s.rouseBranches.ports[p] =
    { s.ports[p] with queue := s.ports[p].queue.filter QueueItem.isFrame } := by
  rw [State.rouseBranches, State.mapBranches_ports, State.mapPorts_get]

theorem State.rouseBranches_branch (b : Branch) : s.rouseBranches.branches[b] = s.branches[b].roused := by
  rw [State.rouseBranches, State.mapBranches_get, State.mapPorts_branches]

theorem BranchState.roused_not_draining (bs : BranchState) : bs.roused.mode ≠ .draining := by
  unfold BranchState.roused
  split
  · rename_i h
    rw [h]
    exact nofun
  · exact nofun

/-! ## The end of Fallback -/

theorem State.confirm_eq_self {b : Branch} (h : ∀ d, ¬ s.confirms b d) : s.confirm b = s := by
  obtain ⟨ds, rs, hframe⟩ := s.confirm_frame b
  have hdomains : ds = s.domains := Vector.ext fun i hi => by
    have hdomain := s.confirm_domain b ⟨i, hi⟩
    rw [hframe, if_neg (h _)] at hdomain
    exact hdomain
  have hrules : rs = s.rules := Vector.ext fun i hi => by
    have hrule := s.confirm_rule b ⟨i, hi⟩
    rw [hframe, if_neg fun ⟨d, hd, _⟩ => h d hd] at hrule
    exact hrule
  rw [hframe, hdomains, hrules]
  rfl

theorem State.receptionNotice_eq_self {b : Branch} (hconfirms : ∀ d, ¬ s.confirms b d)
    (hmode : s.branches[b].mode ≠ .draining) : s.receptionNotice b = s := by
  rw [State.receptionNotice, State.confirm_eq_self hconfirms, s.withdrawMarker_eq_self hmode]

/-- A frame landed in its buffer, and heard on TP. -/
def State.landedAt (s : State) (p : Port) (f : Frame) : State :=
  { s with
    ports := s.ports.set p { s.ports[p] with landing := s.ports[p].landing ++ [f] }
    trunk := if p = trunkPort then .active else s.trunk
    silence := if p = trunkPort then some s.silenceTime else s.silence }

theorem State.heardAt_eq (p : Port) (f : Frame) :
    (s.modPort p fun ps => { ps with landing := ps.landing ++ [f] }).heardAt p = s.landedAt p f := by
  unfold State.heardAt State.landedAt
  by_cases h : p = trunkPort
  · rw [if_pos h, if_pos h, if_pos h]
    rfl
  · rw [if_neg h, if_neg h, if_neg h]
    rfl

/-- The first frame to land in Fallback (R6): no domain is On, so its notice confirms nothing. -/
theorem State.land_fallback {p : Port} {f : Frame} (hmode : s.mode = .fallback)
    (hlisten : ∀ b : Branch, s.branches[b].mode = .listen)
    (hdark : ∀ d : DomainIx, s.domains[d].state = .off ∨ s.domains[d].state = .fault) :
    s.land p f = (s.landedAt p f).enterUnconfigured := by
  have hnotice : ∀ b : Branch, (s.landedAt p f).receptionNotice b = s.landedAt p f := fun b => by
    have hconfirms : ∀ d, ¬ (s.landedAt p f).confirms b d := fun d h => by
      have hon : s.domains[d].state = .on := h.2.1
      rcases hdark d with hd | hd <;> rw [hd] at hon <;> cases hon
    refine State.receptionNotice_eq_self hconfirms ?_
    have hb : (s.landedAt p f).branches[b].mode = .listen := hlisten b
    rw [hb]
    exact nofun
  unfold State.land
  dsimp only
  rw [if_pos hmode, State.heardAt_eq]
  cases branchOf p with
  | none => rfl
  | some b => exact congrArg State.enterUnconfigured (hnotice b)

/-- Settles O21: the landing, the entry effects of Unconfigured, and the grants. -/
theorem firstLandingEndsFallback : Obligations.FirstLandingEndsFallback := by
  intro s p f hmode hlisten hdark hwf hlength hroom
  have hreceives : s.receives p = true := by
    unfold State.receives
    cases branchOf p with
    | none => rfl
    | some b =>
      dsimp only
      rw [hlisten b]
      rfl
  obtain ⟨u, hu⟩ : ∃ u, { s.landedAt p f with mode := .unconfigured, deadline := Config.configurationDeadline } = u :=
    ⟨_, rfl⟩
  have hbranch : ∀ b : Branch, u.rouseBranches.branches[b] = { s.branches[b] with
      mode := .awake, seen := true, chatterCount := 0, windowTimer := none, drainTimer := none, closing := false } := fun b => by
    have hb : u.branches[b] = s.branches[b] := by rw [← hu]; rfl
    rw [State.rouseBranches_branch, hb]
    unfold BranchState.roused BranchState.enter
    rw [hlisten b]
    simp
  obtain ⟨ds, g, fl, r, l, hgroup, hquiet, hwaits, hsame⟩ := State.wakeGroup_told (s := u.rouseBranches)
    (by rw [← hu]; exact nofun) (fun b => by rw [hbranch]; exact nofun)
  have hdomain : ∀ d : DomainIx, u.rouseBranches.domains[d] = s.domains[d] := fun d => by rw [← hu]; rfl
  have hcutsOff : ∀ x, u.rouseBranches.cutsOff x = false := fun x => by
    refine Bool.eq_false_iff.2 fun h => ?_
    obtain ⟨b, -, hb⟩ := State.cutsOff_iff.1 h
    rw [hbranch] at hb
    cases hb
  refine ⟨u.rouseBranches.withTold ds g fl r l, ?_, ?_, fun d hd => ?_, fun d hd => ?_, fun hpins => ?_⟩
  · rw [exec_frameReception_lands hwf hreceives hlength hroom, State.land_fallback hmode hlisten hdark,
      State.enterUnconfigured, hu, hgroup]
  · have hports : u.rouseBranches.ports = .ofFn fun q =>
        { s.ports[q] with
          landing := if q = p then s.ports[q].landing ++ [f] else s.ports[q].landing,
          queue := s.ports[q].queue.filter QueueItem.isFrame } := eq_ofFn fun q => by
      have hq : u.ports[q] = { s.ports[q] with
          landing := if q = p then s.ports[q].landing ++ [f] else s.ports[q].landing } := by
        rw [← hu]
        by_cases h : q = p
        · subst h
          rw [if_pos rfl]
          exact s.putPort_get q _
        · rw [if_neg h]
          exact s.putPort_get_ne _ h
      rw [State.rouseBranches_port, hq]
    have hbranches : u.rouseBranches.branches = .ofFn fun b => { s.branches[b] with
        mode := .awake, seen := true, chatterCount := 0, windowTimer := none, drainTimer := none, closing := false } :=
      eq_ofFn hbranch
    rw [← hports, ← hbranches, ← hu]
    rfl
  · have hdone := hsame d
    rw [hdomain, Domain.asked_fault hd, hd] at hdone
    exact hdone nofun
  · have hdone := hwaits d
    rw [hdomain, hcutsOff, Domain.asked_off hd] at hdone
    exact hdone.of_same (by rw [← hu]; rfl) (by rw [← hu]; rfl) (by rw [← hu]; rfl)
  · obtain ⟨hflags, hreports, hlost⟩ := hquiet (by rw [← hu]; exact hpins)
    have htold : u.rouseBranches.flags = s.flags ∧ u.rouseBranches.reports = s.reports
        ∧ u.rouseBranches.reportsLost = s.reportsLost := by
      rw [← hu]
      exact ⟨rfl, rfl, rfl⟩
    exact ⟨hflags.trans htold.1, hreports.trans htold.2.1, hlost.trans htold.2.2⟩

/-! ## Depart -/

/-- What Depart makes of a branch record (R9). -/
def BranchState.departed (x : BranchState) : BranchState :=
  if x.mode = .isolated then { x with chatterCount := 0 }
  else
    { x with
      mode := .awake, chatterCount := 0,
      windowTimer := if x.mode = .listen then none else x.windowTimer,
      seen := x.seen || x.mode.atRest, drainTimer := none, closing := false }

theorem BranchState.roused_eq_departed (x : BranchState) : { x.roused with chatterCount := 0 } = x.departed := by
  unfold BranchState.roused BranchState.departed BranchState.enter
  cases h : x.mode <;> simp [BranchMode.atRest, h]

theorem State.departStarted_branches : s.departStarted.branches = .ofFn fun b => s.branches[b].departed :=
  eq_ofFn fun b => by
    rw [State.departStarted, State.mapDomains_branches, State.mapBranches_get, State.rouseBranches_branch]
    exact s.branches[b].roused_eq_departed

theorem State.departStarted_ports : s.departStarted.ports = .ofFn fun p =>
    { s.ports[p] with queue := s.ports[p].queue.filter QueueItem.isFrame } :=
  eq_ofFn fun p => by
    rw [State.departStarted, State.mapDomains_ports, State.mapBranches_ports]
    exact State.rouseBranches_port (s := { s with mode := .drive }) p

/-- Depart before its wake requests, the domains apart. -/
theorem State.departStarted_frame : s.departStarted.withDomains s.domains = { s with
    mode := .drive
    ports := .ofFn fun p => { s.ports[p] with queue := s.ports[p].queue.filter QueueItem.isFrame }
    branches := .ofFn fun b => s.branches[b].departed } := by
  rw [← State.departStarted_ports, ← State.departStarted_branches]
  rfl

theorem BranchState.departed_isolated (x : BranchState) : x.departed.mode = .isolated ↔ x.mode = .isolated := by
  unfold BranchState.departed
  split
  · exact Iff.rfl
  · rename_i h
    exact iff_of_false nofun h

theorem State.departStarted_cutsOff (x : Domain) : s.departStarted.cutsOff x = true ↔
    ∃ b : Branch, x.branch = some b ∧ s.branches[b].mode = .isolated := by
  rw [State.cutsOff_iff, State.departStarted_branches]
  refine exists_congr fun b => and_congr_right fun _ => ?_
  rw [ofFn_get]
  exact BranchState.departed_isolated _

theorem WakeClass.higher_b (x : WakeClass) : x.higher .b = if x = .a then .a else .b := by
  cases x <;> rfl

/-- Settles O60: the requests, the branches and the domains of an accepted Depart. -/
theorem departWakesEverything : Obligations.DepartWakesEverything := by
  intro s tag more rest hturn
  refine ⟨fun hdrive => ?_, fun hmode => ?_⟩
  · exact congrArg Host.Outcome.next (hturn.execute_of_wrongMode (row := .depart) (nargs := 0) rfl (Nat.zero_le _)
      (by rw [hdrive]; rfl))
  obtain ⟨ds, g, f, r, l, hgroup, hquiet, hwaits, hsame⟩ := State.wakeGroup_told (s := s.departStarted) nofun (fun b => by
    rw [State.departStarted_branches, ofFn_get]
    unfold BranchState.departed
    split
    · rename_i h
      rw [h]
      exact nofun
    · exact nofun)
  have hframe := s.departStarted_frame
  have hcount : s.departStarted.powerUpCount = s.powerUpCount := State.powerUpCount_congr fun d => by
    rw [State.departStarted_domains]
    rfl
  have hdomain := s.departStarted_domains
  have hcutsOff := s.departStarted_cutsOff
  have hnow := s.departNow_eq.trans hgroup
  generalize s.departStarted = u at hframe hcount hdomain hcutsOff hnow hwaits hsame hquiet
  have hrequests : (u.withTold ds g f r l).requests = s.requests := by
    have hsame := congrArg State.requests hframe
    exact hsame
  have hmodes : departModes s.mode = true := by rcases hmode with h | h <;> rw [h] <;> rfl
  refine ⟨(u.withTold ds g f r l).answered rest ([0x61, tag, 0] ++ []),
    congrArg Host.Outcome.next (hturn.execute_of_accepted (row := .depart) (nargs := 0) rfl (Nat.zero_le _) hmodes
      (congrArg (fun v => Except.ok (v, [])) hnow) hrequests), ?_, fun hpins => ?_, fun d => ?_⟩
  · exact congrArg (fun v : State => { v.answered rest ([0x61, tag, 0] ++ []) with
      lastGranted := s.lastGranted, flags := s.flags, reports := s.reports, reportsLost := s.reportsLost }) hframe
  · obtain ⟨hflags, hreports, hlost⟩ := hquiet (by
      have hsame := congrArg State.faultInputs hframe
      exact hsame.trans hpins)
    have h1 := congrArg State.flags hframe
    have h2 := congrArg State.reports hframe
    have h3 := congrArg State.reportsLost hframe
    exact ⟨hflags.trans h1, hreports.trans h2, hlost.trans h3⟩
  · have hgranted := fun {y t : Domain} (h : u.waitsOrGranted d y t) => h.of_same (s := s) hcount
      (by have hsame := congrArg State.inrushLimit hframe; exact hsame)
      (by have hsame := congrArg State.faultInputs hframe; exact hsame)
    have hwaits := hgranted (hwaits d)
    have hsame := hsame d
    rw [hdomain] at hwaits hsame
    have hmerged := WakeClass.higher_b s.domains[d].unarmed.pendingClass
    have hstate : s.domains[d].unarmed.state = s.domains[d].state := rfl
    dsimp only
    split
    · rename_i h
      rw [Domain.asked_off (hstate.trans h)] at hwaits hsame
      split
      · rename_i hcut
        rw [if_pos ((hcutsOff s.domains[d].unarmed).2 hcut), hstate, h] at hsame
        exact hsame nofun
      · rename_i hcut
        rw [if_neg (mt (hcutsOff s.domains[d].unarmed).1 hcut)] at hwaits
        exact hwaits
    · rename_i h
      rw [Domain.asked_waiting (.inl (hstate.trans h)), hmerged] at hwaits
      exact hwaits
    · rename_i h
      rw [Domain.asked_waiting (.inr (hstate.trans h)), hmerged] at hsame
      exact hsame (by rw [hstate, h]; exact nofun)
    · rename_i h
      rw [Domain.asked_on (hstate.trans h)] at hsame
      exact hsame (by rw [hstate, h]; exact nofun)
    · rename_i h
      rw [Domain.asked_releasing (hstate.trans h)] at hsame
      exact hsame nofun
    · rename_i h
      rw [Domain.asked_fault (hstate.trans h), hstate, h] at hsame
      exact hsame nofun

end Sys2Proof.Machine
end

section
/-! Settling the statements about the two resets (section 1.6). -/

namespace Sys2Proof.Machine

variable {s : State}

/-! ## Warm reset -/

theorem BranchState.warmed_eq (x : BranchState) : x.warmed = { x with
    mode := .awake, chatterCount := 0, windowTimer := none, isolationTimer := none, cause := .none,
    seen := x.seen || (x.mode.atRest || x.mode == .isolated), drainTimer := none, closing := false } := by
  unfold BranchState.warmed BranchState.released BranchState.enter
  cases x.mode <;> simp [BranchMode.atRest]

/-- The state from which a warm reset lets the arbiter grant. -/
def State.warmed (s : State) (straps : Fin 4) : State := (s.warmStart straps).recomputeSilently

theorem State.warmed_domain (straps : Fin 4) (d : DomainIx) : (s.warmed straps).domains[d] = s.domains[d].warmed :=
  s.warmStart_domain straps d

/-- What a warm reset keeps and clears beside the domains and what it tells. -/
theorem State.warmed_frame (straps : Fin 4) :
    { s.warmed straps with
      domains := s.domains, lastGranted := s.lastGranted, flags := s.flags, reports := s.reports,
      reportsLost := s.reportsLost } = { s with
      mode := .unconfigured, strapPins := straps, strap := straps, deadline := 120, requests := [],
      requestOverrun := false, response := none, warmResetPending := false, trunk := .quiet,
      silence := none, pointer := 6, classification := none, freeBuffers := 96,
      ports := .ofFn fun p => s.ports[p].warmed,
      branches := .ofFn fun b => s.branches[b].warmed,
      rules := .ofFn fun r => { s.rules[r] with suspect := none, quarantine := none },
      schedule := .ofFn fun e => { s.schedule[e] with countdown := s.schedule[e].period },
      account := { s.account with carry := 0, timer := 250 }.recomputed s.budget } := rfl

theorem State.warmed_powerUpCount (straps : Fin 4) : (s.warmed straps).powerUpCount = s.powerUpCount :=
  State.powerUpCount_congr fun d => by
    rw [State.warmed_domain]
    unfold Domain.warmed Domain.unarmed
    cases s.domains[d].state <;> simp

section
variable {x : Domain}

theorem Domain.warmed_lit (h : x.state = .on ∨ x.state = .releasing) : x.warmed = { x with
    waker := none, awaiting := false, state := .on, remaining := x.defaultLinger, pending := 0, pendingClass := .c,
    settle := 0 } := by
  cases x
  rcases h with h | h <;> cases h <;> rfl

theorem Domain.warmed_powerUp (h : x.state = .powerUp) : x.warmed = { x with
    waker := none, awaiting := false, remaining := 0, pending := x.defaultLinger, pendingClass := .b,
    settle := x.settleTime } := by
  cases x; cases h; rfl

theorem Domain.warmed_dark (h : x.state = .queued ∨ x.state = .off ∨ x.state = .fault) : x.warmed = { x with
    waker := none, awaiting := false, state := .queued, remaining := 0, pending := x.defaultLinger, pendingClass := .b,
    settle := 0 } := by
  cases x
  rcases h with h | h | h <;> cases h <;> rfl

end

/-- Settles O18: both commands that reset warmly, the frame and each domain. -/
theorem warmResetKeepsAndClears : Obligations.WarmResetKeepsAndClears := by
  intro s straps c hc
  have hexec : exec c s = .next (s.warmReset straps) := by
    rcases hc with rfl | ⟨rfl, hpending, hresponse⟩
    · rfl
    · exact if_pos ⟨hpending, hresponse⟩
  have hframe := s.warmed_frame straps
  have hdomain := fun d => s.warmed_domain straps d
  have hcount := s.warmed_powerUpCount straps
  have hreset : s.warmReset straps = (s.warmed straps).runArbiter := s.warmReset_eq straps
  have hcleared : (s.warmed straps).flags = 0 ∧ (s.warmed straps).reports = [] ∧ (s.warmed straps).reportsLost = false :=
    ⟨rfl, rfl, rfl⟩
  have hexec : exec c s = .next (s.warmed straps).runArbiter := hexec.trans (congrArg Host.Outcome.next hreset)
  generalize s.warmed straps = u at hframe hdomain hcount hcleared hexec
  have hmode : u.mode = .unconfigured := by have h := congrArg State.mode hframe; exact h
  have hlimit : u.inrushLimit = s.inrushLimit := by have h := congrArg State.inrushLimit hframe; exact h
  have hpins : u.faultInputs = s.faultInputs := by have h := congrArg State.faultInputs hframe; exact h
  refine ⟨u.runArbiter, hexec, ?_, fun hquiet => ?_, fun d => ?_⟩
  · obtain ⟨ds, g, f, r, l, hrun⟩ := State.runArbiter_unparked (s := u) (by rw [hmode]; exact nofun)
    have hbranches : (Vector.ofFn fun b => s.branches[b].warmed) = .ofFn fun b : Branch => { s.branches[b] with
        mode := .awake, chatterCount := 0, windowTimer := none, isolationTimer := none, cause := .none,
        seen := s.branches[b].seen || (s.branches[b].mode.atRest || s.branches[b].mode == .isolated),
        drainTimer := none, closing := false } :=
      congrArg Vector.ofFn (funext fun b => s.branches[b].warmed_eq)
    rw [hbranches] at hframe
    rw [hrun]
    exact hframe
  · obtain ⟨hflags, hreports, hlost⟩ := State.runArbiter_told (s := u) (hpins.trans hquiet)
    exact ⟨hflags.trans hcleared.1, hreports.trans hcleared.2.1, hlost.trans hcleared.2.2⟩
  · have hwaits := State.runArbiter_waitsOrGranted (s := s) (u := u) (fun h => by rwa [hcount, hlimit] at h) hpins d
    have hsame := State.runArbiter_domain_of_not_queued (s := u) (d := d)
    rw [hdomain] at hwaits hsame
    dsimp only
    split
    · rename_i h
      rw [Domain.warmed_lit (.inl h)] at hsame
      exact hsame nofun
    · rename_i h
      rw [Domain.warmed_lit (.inr h)] at hsame
      exact hsame nofun
    · rename_i h
      rw [Domain.warmed_powerUp h] at hsame
      exact hsame (by rw [h]; exact nofun)
    · rename_i h
      rw [Domain.warmed_dark (.inl h)] at hwaits
      exact hwaits
    · rename_i h
      rw [Domain.warmed_dark (.inr (.inl h))] at hwaits
      exact hwaits
    · rename_i h
      rw [Domain.warmed_dark (.inr (.inr h))] at hwaits
      exact hwaits

/-! ## Full reset -/

/-- One round of the arbiter's grants. -/
theorem State.grantRounds_of_firstCandidate {g : DomainIx} (hfew : s.powerUpCount < s.inrushLimit)
    (hpin : s.faultInputs.getLsbD g.val = false) (h : s.firstCandidate g) (n : Nat) :
    s.grantRounds (n + 1) = (s.granted g).grantRounds n := by
  rw [State.grantRounds, if_pos hfew, State.chooseGrant_of_firstCandidate h]
  exact if_neg (by rw [hpin]; exact nofun)

/-- A domain right after a full reset before any grant (R2, R14). -/
def Domain.waitingReset : Domain := { Domain.cold with state := .queued, pending := 600, pendingClass := .b }

theorem State.firstCandidate_of_top {g : DomainIx} (hg : s.domains[g] = .waitingReset)
    (hclass : ∀ d : DomainIx, s.domains[d].state = .queued → s.domains[d] = .waitingReset)
    (htop : s.lastGranted - 1 = g) : s.firstCandidate g := by
  refine ⟨⟨congrArg Domain.state hg, ?_⟩, fun i _ => ?_⟩
  · rintro ⟨j, hj, ha⟩
    rw [hclass j hj] at ha
    cases ha
  · rw [htop, sub_self]
    exact Nat.zero_le _

/-- The first two grants after a full reset go to D15 and D14 (R105). -/
theorem State.runArbiter_of_waitingReset (hdomains : ∀ d : DomainIx, s.domains[d] = .waitingReset)
    (hlimit : s.inrushLimit = 2) (hpins : s.faultInputs = 0) (hlast : s.lastGranted = 0) :
    s.runArbiter = (s.granted 15).granted 14 := by
  have hqueued : ∀ d : DomainIx, s.domains[d].state = .queued := fun d => by rw [hdomains]; rfl
  have hnone : s.powerUpCount = 0 := List.countP_eq_zero.2 fun d _ => by
    rw [hqueued]
    exact nofun
  have hone : (s.granted 15).powerUpCount = 1 := by rw [State.granted_powerUpCount (hqueued 15), hnone]
  have hother : ∀ d : DomainIx, d ≠ 15 → (s.granted 15).domains[d] = .waitingReset := fun d hd =>
    (s.putDomain_get_ne _ hd).trans (hdomains d)
  have hfirst : (s.granted 15).domains[(15 : DomainIx)].state = .powerUp := by
    have h := s.putDomain_get 15 { s.domains[(15 : DomainIx)] with
      state := .powerUp, seen := true, settle := s.domains[(15 : DomainIx)].settleTime }
    exact congrArg Domain.state h
  have htwo : ((s.granted 15).granted 14).powerUpCount = 2 := by
    rw [State.granted_powerUpCount (by rw [hother 14 (by decide)]; rfl), hone]
  have hpin : ∀ d : DomainIx, s.faultInputs.getLsbD d.val = false := fun d => by rw [hpins]; exact BitVec.getLsbD_zero
  have hround : s.runArbiter = (s.granted 15).grantRounds 15 :=
    State.grantRounds_of_firstCandidate (by omega) (hpin 15)
      (State.firstCandidate_of_top (hdomains 15) (fun d _ => hdomains d) (by rw [hlast]; decide)) 15
  rw [hround, State.grantRounds_of_firstCandidate (s := s.granted 15) (g := 14) (by rw [hone]; exact hlimit ▸ Nat.lt_succ_self 1) (hpin 14)
    (State.firstCandidate_of_top (s := s.granted 15) (hother 14 (by decide)) (fun d hd => hother d ?_)
      (by exact (by decide : (15 : DomainIx) - 1 = 14))) 14]
  · exact State.grantRounds_of_idle (.inl (by rw [htwo]; exact hlimit.le)) 14
  · rintro rfl
    rw [hfirst] at hd
    cases hd

/-- A waiting domain once D15 and D14 have been granted. -/
theorem State.granted_waitingReset (hdomains : ∀ d : DomainIx, s.domains[d] = .waitingReset) :
    ((s.granted 15).granted 14).domains = State.reset.domains := eq_ofFn fun d => by
  have hseconds : ((s.granted 15).granted 14).domains[d] = if d = 14 then
      { (s.granted 15).domains[d] with state := .powerUp, seen := true, settle := (s.granted 15).domains[d].settleTime }
      else (s.granted 15).domains[d] := by
    split
    · rename_i h
      subst h
      exact (s.granted 15).putDomain_get 14 _
    · rename_i h
      exact (s.granted 15).putDomain_get_ne _ h
  have hfirst : (s.granted 15).domains[d] = if d = 15 then
      { s.domains[d] with state := .powerUp, seen := true, settle := s.domains[d].settleTime } else s.domains[d] := by
    split
    · rename_i h
      subst h
      exact s.putDomain_get 15 _
    · rename_i h
      exact s.putDomain_get_ne _ h
  rw [hseconds, hfirst, hdomains]
  clear hseconds hfirst
  revert d
  decide

/-- A full reset before its wake requests. -/
def State.coldRoused (s : State) (straps : Fin 4) : State := (s.coldStart straps).rouseBranches

theorem State.coldRoused_branch (straps : Fin 4) (b : Branch) : (s.coldRoused straps).branches[b] = BranchState.reset := by
  rw [State.coldRoused, State.rouseBranches_branch, State.coldStart_branch]
  rfl

theorem State.coldRoused_domain (straps : Fin 4) (d : DomainIx) : (s.coldRoused straps).domains[d] = Domain.cold := by
  rw [State.coldRoused, State.rouseBranches_domains, State.coldStart_domain]

theorem State.coldRoused_frame (straps : Fin 4) : (s.coldRoused straps).withDomains State.cold.domains = { State.cold with
    branches := .replicate 6 BranchState.reset, strapPins := straps, strap := straps, faultInputs := s.faultInputs,
    pending := s.pending } := by
  have hbranches : (s.coldRoused straps).branches = .replicate 6 BranchState.reset := Vector.ext fun i hi => by
    rw [Vector.getElem_replicate]
    exact s.coldRoused_branch straps ⟨i, hi⟩
  have hports : (s.coldRoused straps).ports = State.cold.ports := eq_ofFn fun p => by
    rw [State.coldRoused, State.rouseBranches_port, State.coldStart_port]
    rfl
  rw [← hbranches]
  exact congrArg (fun v : Vector PortState 7 => { State.cold with
    ports := v, branches := (s.coldRoused straps).branches, strapPins := straps, strap := straps,
    faultInputs := s.faultInputs, pending := s.pending }) hports

theorem State.coldRoused_asked (straps : Fin 4) (d : DomainIx) :
    (s.coldRoused straps).domains[d].asked ((s.coldRoused straps).cutsOff (s.coldRoused straps).domains[d]) =
      .waitingReset := by
  rw [State.coldRoused_domain]
  rfl

/-- Settles O17: the frame of the entry to Unconfigured, and the first two grants. -/
theorem fullResetState : Obligations.FullResetState := by
  intro s straps
  have hframe := s.coldRoused_frame straps
  have hbranch := fun b => s.coldRoused_branch straps b
  have hasked := fun d => s.coldRoused_asked straps d
  have hexec : exec (.fullReset straps) s = .next ((s.coldRoused straps).wakeGroup allDomains) := rfl
  generalize s.coldRoused straps = u at hframe hbranch hasked hexec
  have hpinned : u.faultInputs = s.faultInputs := by have h := congrArg State.faultInputs hframe; exact h
  have hmode : u.mode ≠ .parked := by
    have h := congrArg State.mode hframe
    exact fun hparked => nomatch hparked.symm.trans h
  have hdraining : ∀ b : Branch, u.branches[b].mode ≠ .draining := fun b => by rw [hbranch]; exact nofun
  obtain ⟨ds, g, f, r, l, hgroup, hquiet, hwaits, -⟩ := State.wakeGroup_told hmode hdraining
  refine ⟨u.withTold ds g f r l, hexec.trans (congrArg Host.Outcome.next hgroup), ?_, fun hpins => ?_, fun d => ?_⟩
  · exact congrArg (fun v : State => { v with
      domains := State.reset.domains, lastGranted := 14, flags := 0, reports := [], reportsLost := false }) hframe
  · have hwaiting : ∀ d : DomainIx, u.allAsked.domains[d] = .waitingReset := fun d => by
      rw [State.allAsked_domain]
      exact hasked d
    have hlimit : u.inrushLimit = 2 := by have h := congrArg State.inrushLimit hframe; exact h
    have hlast : u.lastGranted = 0 := by have h := congrArg State.lastGranted hframe; exact h
    obtain ⟨hflags, hreports, hlost⟩ := hquiet (hpinned.trans hpins)
    have hclear : u.flags = 0 ∧ u.reports = [] ∧ u.reportsLost = false := by
      have h1 := congrArg State.flags hframe
      have h2 := congrArg State.reports hframe
      have h3 := congrArg State.reportsLost hframe
      exact ⟨h1, h2, h3⟩
    have hrun := State.runArbiter_of_waitingReset (s := u.allAsked) hwaiting hlimit (hpinned.trans hpins) hlast
    rw [State.wakeGroup_unparked hmode hdraining, hrun] at hgroup
    have hdomains : State.reset.domains = ds :=
      (State.granted_waitingReset hwaiting).symm.trans (congrArg State.domains hgroup)
    have hgrant : 14 = g := by have h := congrArg State.lastGranted hgroup; exact h
    exact ⟨hdomains.symm, hgrant.symm, hflags.trans hclear.1, hreports.trans hclear.2.1, hlost.trans hclear.2.2⟩
  · have hdone := hwaits d
    rw [hasked, State.waitsOrGranted, hpinned] at hdone
    rcases hdone with h | ⟨-, h⟩
    · exact .inl (congrArg Domain.state h)
    · split at h
      · rename_i hpin
        exact .inr (.inr ⟨congrArg Domain.state h, hpin⟩)
      · exact .inr (.inl (congrArg Domain.state h))

end Sys2Proof.Machine
end

section
/-! Settling the statements about the entry to Fallback (section 1.3) and about the laws right after a full reset. -/

namespace Sys2Proof.Machine

variable {s : State}

/-! ## The flush of every queue -/

/-- The state with other port front ends and another count of free buffers. -/
def State.withPool (s : State) (ports : Vector PortState 7) (n : Nat) : State := { s with ports := ports, freeBuffers := n }

theorem State.purge_all (p : Port) : s.purge p (fun _ => false) =
    s.withPool (s.ports.set p (s.ports[p].purged fun _ => false)) (s.freeBuffers + idleFrames s.ports[p].queue) := by
  have hgone : (s.ports[p].queue.filter fun _ => !false) = s.ports[p].queue := List.filter_eq_self.2 fun _ _ => rfl
  unfold State.purge
  dsimp only
  rw [hgone]
  have hpurged : s.ports[p].purged (fun _ => false) = { s.ports[p] with
      queue := s.ports[p].queue.filter fun _ => false
      flight := if s.ports[p].queue.any QueueItem.sending then s.ports[p].flight.map Flight.orphan
        else s.ports[p].flight } := by
    unfold PortState.purged
    rw [hgone]
  rw [hpurged]
  rfl

/-- The flush frees the buffer of every entry that is not in transmission. -/
theorem State.foldl_purge_all : ∀ (l : List Port) (t : State), l.Nodup → ∃ ports,
    l.foldl (fun t p => t.purge p fun _ => false) t =
      t.withPool ports (t.freeBuffers + (l.map fun p => idleFrames t.ports[p].queue).sum)
  | [], t, _ => ⟨t.ports, rfl⟩
  | p :: l, t, hl => by
    obtain ⟨hp, hl⟩ := List.nodup_cons.1 hl
    obtain ⟨ports, hports⟩ := State.foldl_purge_all l (t.purge p fun _ => false) hl
    refine ⟨ports, ?_⟩
    rw [List.foldl_cons, hports, State.purge_all]
    have hsame : (l.map fun q => idleFrames
        (t.withPool (t.ports.set p (t.ports[p].purged fun _ => false)) (t.freeBuffers + idleFrames t.ports[p].queue)).ports[q].queue) =
        l.map fun q => idleFrames t.ports[q].queue := List.map_congr_left fun q hq => by
      have hne : q ≠ p := fun e => hp (e ▸ hq)
      have hport : (t.withPool (t.ports.set p (t.ports[p].purged fun _ => false))
          (t.freeBuffers + idleFrames t.ports[p].queue)).ports[q] = t.ports[q] := t.putPort_get_ne _ hne
      rw [hport]
    rw [hsame, List.map_cons, List.sum_cons, ← Nat.add_assoc]
    rfl

theorem State.flushQueues_frame : s.flushQueues = s.withPool (.ofFn fun p => s.ports[p].purged fun _ => false)
    (s.freeBuffers + (allPorts.map fun p => idleFrames s.ports[p].queue).sum) := by
  obtain ⟨ports, hports⟩ := State.foldl_purge_all allPorts s allPorts_nodup
  have hflush : s.flushQueues = _ := hports
  have hsame : ports = .ofFn fun p => s.ports[p].purged fun _ => false := eq_ofFn fun p => by
    have hport := s.flushQueues_port p
    rw [hflush] at hport
    exact hport
  rw [hflush, hsame]

theorem State.withPool_mapPorts (u : State) (g : Port → PortState) (f : Port → PortState → PortState) (n : Nat) :
    (u.withPool (.ofFn g) n).mapPorts f = u.withPool (.ofFn fun p => f p (g p)) n := by
  refine congrArg (State.withPool u · n) (congrArg Vector.ofFn (funext fun p => ?_))
  exact congrArg (f p) (ofFn_get g p)

theorem PortState.purged_fallen (ps : PortState) (p : Port) : (ps.purged fun _ => false).fallen p = { ps with
    landing := [], overrun := false, queue := [], flight := ps.flightAfter ps.queue,
    discards := if p = trunkPort then ps.discards else 0 } := by
  have hgone : (ps.queue.filter fun _ => !false) = ps.queue := List.filter_eq_self.2 fun _ _ => rfl
  have hkept : (ps.queue.filter fun _ => false) = [] := List.filter_eq_nil_iff.2 fun _ _ => nofun
  unfold PortState.purged
  rw [hgone, hkept]
  rfl

theorem Domain.cut_eq (x : Domain) : (if (true && x.state.active) = true then x.switchedOff else x) =
    if x.state = .off ∨ x.state = .fault then x else x.dark := by
  cases h : x.state with
  | off | fault => rw [if_neg (by decide), if_pos (by decide)]
  | queued | powerUp | on | releasing =>
    rw [if_pos (by decide), if_neg (by decide)]
    rfl

/-- A cut of every domain leaves none waiting, so nothing is granted (R117). -/
theorem State.cut_all : s.cut (fun _ => true) = s.withDomains (.ofFn fun d =>
    if s.domains[d].state = .off ∨ s.domains[d].state = .fault then s.domains[d] else s.domains[d].dark) := by
  have hdomains : s.mapDomains (fun _ d => if true && d.state.active then d.switchedOff else d) =
      s.withDomains (.ofFn fun d =>
        if s.domains[d].state = .off ∨ s.domains[d].state = .fault then s.domains[d] else s.domains[d].dark) := by
    refine congrArg (State.withDomains s) (congrArg Vector.ofFn (funext fun d => ?_))
    exact Domain.cut_eq _
  rw [State.cut, hdomains]
  refine State.runArbiter_of_idle (.inr fun d => ?_)
  have hget : (s.withDomains (.ofFn fun d => if s.domains[d].state = .off ∨ s.domains[d].state = .fault
      then s.domains[d] else s.domains[d].dark)).domains[d] = _ := ofFn_get _ d
  rw [hget]
  split
  · rename_i h
    rcases h with h | h <;> rw [h] <;> exact nofun
  · exact nofun

/-- Settles O39: the cut, the branches, the flush and the report. -/
theorem deadlineEntersFallback : Obligations.DeadlineEntersFallback := by
  intro s
  dsimp only
  refine ⟨fun hmode hdeadline => ?_, fun hmode => ?_⟩
  · have hexec : exec .configurationDeadlineExpiry s = .next s.enterFallback := by
      show Host.Outcome.next _ = _
      rw [if_pos (by rw [State.deadlineDue, hmode, hdeadline]; rfl)]
    rw [hexec, State.enterFallback_eq, State.cut_all, State.flushed, State.flushQueues_frame]
    refine congrArg (fun u : State => Host.Outcome.next (u.raise .fallbackEntered none 0 0)) ?_
    rw [State.withPool_mapPorts]
    refine congrArg (State.withPool _ · _) (congrArg Vector.ofFn (funext fun p => ?_))
    exact s.ports[p].purged_fallen p
  · show Host.Outcome.next _ = _
    rw [if_neg]
    rw [State.deadlineDue, beq_eq_false_iff_ne.2 hmode]
    exact nofun

/-! ## The laws right after a full reset -/

/-- The state right after a full reset is what a full reset leaves of the cold state. -/
theorem State.cold_fullReset : State.cold.fullReset 0 = State.reset := by
  obtain ⟨t, hexec, hframe, hquiet, -⟩ := fullResetState State.cold 0
  obtain ⟨hdomains, hlast, hflags, hreports, hlost⟩ := hquiet rfl
  have ht : State.cold.fullReset 0 = t := Host.Outcome.next.inj hexec
  rw [ht]
  calc t = { t with domains := State.reset.domains, lastGranted := 14, flags := 0, reports := [], reportsLost := false } := by
        rw [← hdomains, ← hlast, ← hflags, ← hreports, ← hlost]
    _ = State.reset := hframe

theorem State.reset_domain (d : DomainIx) : State.reset.domains[d] = Domain.reset d := ofFn_get _ d

theorem State.reset_branch (b : Branch) : State.reset.branches[b] = BranchState.reset := Vector.getElem_replicate _

theorem Domain.reset_laws : ∀ d : DomainIx, ((Domain.reset d).state = .queued ∨ (Domain.reset d).state = .powerUp)
    ∧ ((Domain.reset d).state ≠ .on → (Domain.reset d).remaining = 0)
    ∧ ((Domain.reset d).state ≠ .powerUp → (Domain.reset d).settle = 0)
    ∧ ((Domain.reset d).state.enabled = true → (Domain.reset d).seen = true)
    ∧ (Domain.reset d).waker = none ∧ (Domain.reset d).awaiting = false := by decide

/-- Settles O13: a full reset meets the laws that every step keeps. -/
theorem resetMeetsEveryLaw : Obligations.ResetMeetsEveryLaw := by
  have hlawful := State.cold.fullReset_lawful 0
  have hbalanced := State.cold.fullReset_balanced 0
  have hparameters := State.cold.fullReset_parameterLaw 0
  rw [State.cold_fullReset] at hlawful hbalanced hparameters
  refine ⟨hparameters, hlawful.pool, hlawful.marker, hlawful.rest, hlawful.capacity,
    ⟨by decide, by decide, hbalanced⟩, fun d => ?_, ⟨fun b => ?_, fun d => ?_⟩, ⟨fun d => ?_, fun b _ => ?_⟩,
    ?_, fun d => ?_, fun r => ?_⟩
  · rw [State.reset_domain]
    obtain ⟨hstate, hremaining, hsettle, -⟩ := Domain.reset_laws d
    refine ⟨hremaining, fun h => ?_, hsettle⟩
    rcases hstate with hstate | hstate <;> rw [hstate] at h <;> cases h
  · rw [State.reset_branch]
    exact .inl rfl
  · rw [State.reset_domain]
    rcases (Domain.reset_laws d).1 with h | h <;> rw [h] <;> exact nofun
  · rw [State.reset_domain]
    obtain ⟨-, -, -, hseen, -⟩ := Domain.reset_laws d
    exact hseen
  · rw [State.reset_branch]
    rfl
  · exact ⟨by decide, by decide, by decide, by decide, by decide, by decide, by decide, by decide⟩
  · rw [State.reset_domain]
    obtain ⟨-, -, -, -, hwaker, hawaiting⟩ := Domain.reset_laws d
    rw [hwaker, hawaiting]
    exact ⟨rfl, nofun⟩
  · have hrule : State.reset.rules[r] = Rule.reset := Vector.getElem_replicate _
    rw [hrule]
    exact .inl rfl

end Sys2Proof.Machine
end

section
/-! Settling the statement about the accounting expiry (section 8.3). -/

namespace Sys2Proof.Machine

variable {s : State}

/-- The state with another account and other marks. -/
def State.withMarked (s : State) (a : Account) (ds : Vector Domain 16) (bs : Vector BranchState 6) : State :=
  { s with account := a, domains := ds, branches := bs }

theorem State.withMarked_raise (a : Account) (ds : Vector Domain 16) (bs : Vector BranchState 6) (c : Condition)
    (x : Option Nat) (y z : Nat) : (s.withMarked a ds bs).raise c x y z = (s.raise c x y z).withMarked a ds bs := by
  unfold State.raise State.offerReport State.withMarked
  dsimp only
  split
  · split <;> rfl
  · rfl

/-- What is told looks at the override mark and the effective level alone. -/
theorem State.levelTold_congr {a b : Account} (hoverride : a.override = b.override) (heffective : a.effective = b.effective) :
    s.levelTold a = s.levelTold b := by
  unfold State.levelTold
  rw [hoverride, heffective]

/-- The records of domains and branches once the marks of what is no longer powered are cleared (R141). -/
def State.clearedDomains (s : State) : Vector Domain 16 :=
  .ofFn fun d => { s.domains[d] with seen := s.domains[d].seen && s.domains[d].state.enabled }

def State.clearedBranches (s : State) : Vector BranchState 6 :=
  .ofFn fun b => { s.branches[b] with seen := s.branches[b].seen && !(s.branches[b].mode.atRest || s.branches[b].mode == .isolated) }

theorem State.clearMarks_eq : s.clearMarks = s.withMarked s.account s.clearedDomains s.clearedBranches := rfl

/-- The work of an accounting expiry on the account `a` that the charge leaves. -/
theorem State.accountNow_eq (a : Account) (ha : s.account.charged s.budget s.drawSum = a) : s.accountNow =
    (let marked := s.withMarked (a.recomputed s.budget) s.clearedDomains s.clearedBranches
      if a.saturated = true ∧ s.account.saturated = false then marked.raise .accountSaturated none 0 0
        else marked).levelTold s.account := by
  obtain ⟨u, hu⟩ : ∃ u, (if a.saturated = true ∧ s.account.saturated = false then
    (s.withMarked a s.domains s.branches).raise .accountSaturated none 0 0 else s.withMarked a s.domains s.branches) = u :=
      ⟨_, rfl⟩
  have hframe : u.domains = s.domains ∧ u.branches = s.branches ∧ u.account = a ∧ u.budget = s.budget := by
    rw [← hu]
    split
    · obtain ⟨f, r, l, h⟩ := (s.withMarked a s.domains s.branches).raise_frame .accountSaturated none 0 0
      rw [h]
      exact ⟨rfl, rfl, rfl, rfl⟩
    · exact ⟨rfl, rfl, rfl, rfl⟩
  obtain ⟨hdomains, hbranches, haccount, hbudget⟩ := hframe
  have hnow : s.accountNow = u.clearMarks.recompute := by
    rw [← hu, ← ha]
    unfold State.accountNow
    dsimp only
    exact congrArg (fun v : State => v.clearMarks.recompute) (if_congr (by simp) rfl rfl)
  have hcleared : u.clearMarks = u.withMarked a s.clearedDomains s.clearedBranches := by
    rw [State.clearMarks_eq, haccount, State.clearedDomains, State.clearedBranches, hdomains, hbranches]
    rfl
  have hcharged : a.override = s.account.override ∧ a.effective = s.account.effective := by
    rw [← ha]
    exact ⟨rfl, rfl⟩
  have hrecompute : (u.withMarked a s.clearedDomains s.clearedBranches).recompute =
      (u.withMarked (a.recomputed u.budget) s.clearedDomains s.clearedBranches).levelTold a := State.recompute_eq
  rw [hnow, hcleared, hrecompute, hbudget, State.levelTold_congr hcharged.1 hcharged.2]
  refine congrArg (State.levelTold · s.account) ?_
  rw [← hu]
  dsimp only
  split
  · rw [State.withMarked_raise, State.withMarked_raise]
    rfl
  · rfl

theorem Account.charged_eq (a : Account) (b : Budget) (sum : Nat) : a.charged b sum = { a with
    consumed := min (a.consumed + (sum + a.carry) / 4) 4294967295
    carry := (sum + a.carry) % 4
    davg := ((a.davg : Int) + (16 * (sum : Int) - a.davg) / 2 ^ b.shift).toNat
    saturated := a.saturated || decide (4294967295 < a.consumed + (sum + a.carry) / 4) } := by
  have hdiv : (16 * (sum : Int) - (a.davg : Int)).fdiv (2 ^ b.shift) = (16 * (sum : Int) - a.davg) / 2 ^ b.shift :=
    Int.fdiv_eq_ediv_of_nonneg _ (by positivity)
  unfold Account.charged
  dsimp only
  rw [hdiv]
  rfl

theorem DomainState.enabled_eq (k : DomainState) : k.enabled = (k == .powerUp || k == .on || k == .releasing) := by
  cases k <;> rfl

theorem BranchMode.unpowered_eq (m : BranchMode) :
    (!(m.atRest || m == .isolated)) = (m == .waking || m == .awake || m == .draining) := by
  cases m <;> rfl

/-- Settles O45: the reload alone in Drive, and the work of R137 elsewhere. -/
theorem accountingChargesInterval : Obligations.AccountingChargesInterval := by
  intro s
  dsimp only
  intro htimer
  have hdue : s.accountingDue = true := by
    unfold State.accountingDue
    rw [htimer]
    rfl
  have hexec : exec .accountingExpiry s = .next
      (if s.mode = .drive then s.reloadAccounting else s.reloadAccounting.accountNow) :=
    congrArg Host.Outcome.next (if_pos hdue)
  refine ⟨fun hdrive => ?_, fun hdrive => ?_⟩
  · rw [hexec, if_pos hdrive]
    rfl
  · rw [hexec, if_neg hdrive, State.accountNow_eq _ (Account.charged_eq _ _ _)]
    have hdomains : s.reloadAccounting.clearedDomains = .ofFn fun d => { s.domains[d] with
        seen := s.domains[d].seen && (s.domains[d].state == .powerUp || s.domains[d].state == .on
          || s.domains[d].state == .releasing) } := by
      refine congrArg Vector.ofFn (funext fun d => ?_)
      rw [DomainState.enabled_eq]
      rfl
    have hbranches : s.reloadAccounting.clearedBranches = .ofFn fun b => { s.branches[b] with
        seen := s.branches[b].seen && (s.branches[b].mode == .waking || s.branches[b].mode == .awake
          || s.branches[b].mode == .draining) } := by
      refine congrArg Vector.ofFn (funext fun b => ?_)
      rw [BranchMode.unpowered_eq]
      rfl
    rw [hdomains, hbranches, State.levelTold_congr (a := s.reloadAccounting.account) (b := s.account) rfl rfl]
    rfl

end Sys2Proof.Machine
end

section
/-! A domain that leaves its place: what its branch does and where the place goes (sections 6.4, 6.6, 6.7 and 7.2). -/

namespace Sys2Proof.Machine

variable {s : State} {b : Branch} {d g : DomainIx}

/-! ## The branch's reaction -/

theorem State.anyDomainOf_iff {k : DomainState → Bool} : s.anyDomainOf b k = true ↔
    ∃ i : DomainIx, s.domains[i].branch = some b ∧ k s.domains[i].state = true := by
  unfold State.anyDomainOf
  rw [List.any_eq_true]
  simp only [mem_allDomains, true_and, Bool.and_eq_true, decide_eq_true_eq]

/-- Some other domain of the branch is in a state of the given kind. -/
abbrev State.otherDomain (s : State) (d : DomainIx) (b : Branch) (k : DomainState → Bool) : Prop :=
  ∃ i : DomainIx, i ≠ d ∧ s.domains[i].branch = some b ∧ k s.domains[i].state = true

theorem State.anyDomainOf_putDomain {x : Domain} {k : DomainState → Bool} (hx : k x.state = false) :
    (s.putDomain d x).anyDomainOf b k = true ↔ s.otherDomain d b k := by
  rw [State.anyDomainOf_iff]
  refine exists_congr fun i => ?_
  by_cases hi : i = d
  · subst hi
    rw [State.putDomain_get, hx]
    exact iff_of_false (fun h => nomatch h.2) fun h => h.1 rfl
  · rw [s.putDomain_get_ne _ hi]
    exact (and_iff_right hi).symm

theorem State.anyDomainOf_putDomain_self {x : Domain} {k : DomainState → Bool} (hb : x.branch = some b)
    (hx : k x.state = true) : (s.putDomain d x).anyDomainOf b k = true :=
  State.anyDomainOf_iff.2 ⟨d, by rw [State.putDomain_get]; exact ⟨hb, hx⟩⟩

/-- The loss of a domain as its branch takes it. -/
theorem State.followDomain_losing {lost : Domain} (hlost : lost.state = .off ∨ lost.state = .fault)
    (hkept : lost.branch = s.domains[d].branch)
    (hbranch : s.mode ≠ .parked ∨ s.domains[d].branch = none ∨ s.domains[d].branch = some b) :
    (s.putDomain d lost).followDomain d = s.losing d b lost := by
  have hdark : ∀ k : DomainState → Bool, k .off = false → k .fault = false → k lost.state = false := fun k h1 h2 => by
    rcases hlost with h | h <;> rw [h] <;> assumption
  have hrest : s.mode = .parked → s.branches[b].mode ≠ .listen →
      (s.putDomain d lost).returnToRest b = (s.putDomain d lost).rest b := fun hparked hmode =>
    State.returnToRest_eq (s := s.putDomain d lost) hparked hmode
  have hany := fun (k : DomainState → Bool) h1 h2 => State.anyDomainOf_putDomain (s := s) (d := d) (b := b) (hdark k h1 h2)
  have hget : (s.putDomain d lost).domains[d].branch = s.domains[d].branch := by rw [State.putDomain_get, hkept]
  have hmode : (s.putDomain d lost).branches[b].mode = s.branches[b].mode := rfl
  unfold State.followDomain State.losing
  rw [hget]
  dsimp only
  by_cases hparked : s.mode = .parked
  · rcases hbranch with h | h | h
    · exact absurd hparked h
    · rw [h, if_neg fun h => nomatch h.2]
    · rw [h, if_pos ⟨hparked, rfl⟩]
      dsimp only
      rw [State.branchFollow, if_pos (by exact hparked), hmode]
      cases hstate : s.branches[b].mode with
      | waking =>
        refine if_congr (hany _ rfl rfl) rfl (if_congr (hany _ rfl rfl) ?_ (hrest hparked (by rw [hstate]; exact nofun)))
        exact congrArg (State.putBranch (s.putDomain d lost) b) (BranchState.enter_awake_of_working (.inl hstate))
      | awake | draining =>
        exact if_congr (hany _ rfl rfl) rfl (hrest hparked (by rw [hstate]; exact nofun))
      | off | listen | isolated => rfl
  · rw [if_neg fun h => hparked h.1]
    cases s.domains[d].branch with
    | none => rfl
    | some c => exact if_neg hparked

theorem State.goRest_lastGranted (s : State) (b : Branch) : (s.goRest b).lastGranted = s.lastGranted := by
  unfold State.goRest
  dsimp only
  split
  · rfl
  · split <;> rfl

theorem State.followDomain_lastGranted (s : State) (d : DomainIx) : (s.followDomain d).lastGranted = s.lastGranted := by
  have hrest : ∀ b, (s.returnToRest b).lastGranted = s.lastGranted := fun b => by
    have hstop : ((s.purge (portOf b) QueueItem.held).stopDrain b).lastGranted = s.lastGranted := rfl
    rw [State.returnToRest]
    generalize (s.purge (portOf b) QueueItem.held).stopDrain b = u at hstop
    exact (u.goRest_lastGranted b).trans hstop
  unfold State.followDomain
  cases s.domains[d].branch with
  | none => rfl
  | some b =>
    dsimp only
    rcases s.branchFollow_cases b with h | ⟨-, ⟨-, -, -, h⟩ | ⟨-, h⟩⟩
    · rw [h]
    · rw [h]
      rfl
    · exact (congrArg State.lastGranted h).trans (hrest b)

/-! ## Grants and the branch's reaction -/

theorem State.withGrants_goRest (ds : Vector Domain 16) (g : DomainIx) :
    (s.withGrants ds g).goRest b = (s.goRest b).withGrants ds g := by
  have hput : (s.withGrants ds g).branches[b].params.rest = s.branches[b].params.rest := rfl
  unfold State.goRest
  dsimp only
  rw [hput]
  cases s.branches[b].params.rest with
  | off => rfl
  | listen =>
    dsimp only
    by_cases h : s.mode = .parked
    · rw [if_pos h, if_pos (by exact h)]
      rfl
    · rw [if_neg h, if_neg (by exact h)]
      rfl

theorem State.withGrants_returnToRest (ds : Vector Domain 16) (g : DomainIx) :
    (s.withGrants ds g).returnToRest b = (s.returnToRest b).withGrants ds g :=
  State.withGrants_goRest (s := (s.purge (portOf b) QueueItem.held).stopDrain b) ds g

/-- A branch reacts to domains with the same branches and, up to a move from Queued to PowerUp, the same states in the
same way. -/
theorem State.withGrants_branchFollow {ds : Vector Domain 16}
    (hsame : ∀ i : DomainIx, ds[i].branch = s.domains[i].branch ∧
      (ds[i].state = s.domains[i].state ∨ s.domains[i].state = .queued ∧ ds[i].state = .powerUp)) :
    (s.withGrants ds g).branchFollow b = (s.branchFollow b).withGrants ds g := by
  have hany : ∀ k : DomainState → Bool, k .queued = k .powerUp →
      (s.withGrants ds g).anyDomainOf b k = s.anyDomainOf b k := fun k hk => by
    rw [Bool.eq_iff_iff, State.anyDomainOf_iff, State.anyDomainOf_iff]
    refine exists_congr fun i => ?_
    have hbranch : (s.withGrants ds g).domains[i].branch = s.domains[i].branch := (hsame i).1
    have hstate : k (s.withGrants ds g).domains[i].state = k s.domains[i].state := by
      rcases (hsame i).2 with h | ⟨hq, hp⟩
      · exact congrArg k h
      · rw [hq, hk]
        exact congrArg k hp
    rw [hbranch, hstate]
  have hmode : (s.withGrants ds g).branches[b].mode = s.branches[b].mode := rfl
  have henter : (s.withGrants ds g).enterBranch b .awake = (s.enterBranch b .awake).withGrants ds g := rfl
  unfold State.branchFollow
  rw [State.withGrants_returnToRest, henter, hmode, hany _ rfl, hany _ rfl, hany _ rfl]
  by_cases hparked : s.mode = .parked
  · rw [if_pos hparked, if_pos (by exact hparked)]
    cases s.branches[b].mode with
    | waking =>
      dsimp only
      split
      · rfl
      · split <;> rfl
    | awake | draining =>
      dsimp only
      split <;> rfl
    | off | listen | isolated => rfl
  · rw [if_neg hparked, if_neg (by exact hparked)]

/-- The place granted first and the branch's reaction after it are the reaction with the place granted after it. -/
theorem State.followDomain_granted (hqueued : s.domains[g].state = .queued) :
    (s.granted g).followDomain d = (s.followDomain d).granted g := by
  have hsame : ∀ i : DomainIx, (s.granted g).domains[i].branch = s.domains[i].branch ∧
      ((s.granted g).domains[i].state = s.domains[i].state ∨
        s.domains[i].state = .queued ∧ (s.granted g).domains[i].state = .powerUp) := fun i => by
    by_cases hi : i = g
    · subst hi
      have hget : (s.granted i).domains[i] = _ := s.putDomain_get i _
      rw [hget]
      exact ⟨rfl, .inr ⟨hqueued, rfl⟩⟩
    · have hget : (s.granted g).domains[i] = s.domains[i] := s.putDomain_get_ne _ hi
      rw [hget]
      exact ⟨rfl, .inl rfl⟩
  have hgranted : ∀ u : State, u.domains = s.domains → u.granted g = u.withGrants (s.granted g).domains g := fun u hu => by
    unfold State.granted State.putDomain
    rw [hu]
    rfl
  rw [hgranted _ (s.followDomain_domains d), hgranted s rfl]
  have hbranch : (s.withGrants (s.granted g).domains g).domains[d].branch = s.domains[d].branch := (hsame d).1
  unfold State.followDomain
  rw [hbranch]
  cases s.domains[d].branch with
  | none => rfl
  | some b => exact State.withGrants_branchFollow hsame

/-! ## The place that a domain frees -/

/-- The first candidate of the search is the same where the Queued domains are. -/
theorem State.firstCandidate.transfer {t : State} (h : s.firstCandidate g) (hlast : t.lastGranted = s.lastGranted)
    (hsame : ∀ i : DomainIx, s.domains[i].state = .queued ∨ t.domains[i].state = .queued → t.domains[i] = s.domains[i]) :
    t.firstCandidate g := by
  have hqueued : ∀ i : DomainIx, t.domains[i].state = .queued ↔ s.domains[i].state = .queued := fun i =>
    ⟨fun ht => by rw [← hsame i (.inr ht)]; exact ht, fun hs => by rw [hsame i (.inl hs)]; exact hs⟩
  have hclass : ∀ i : DomainIx, s.domains[i].state = .queued → t.domains[i].pendingClass = s.domains[i].pendingClass :=
    fun i hi => by rw [hsame i (.inl hi)]
  have hcandidate : ∀ i : DomainIx,
      (t.domains[i].state = .queued ∧ ((∃ j : DomainIx, t.domains[j].state = .queued ∧ t.domains[j].pendingClass = .a) →
        t.domains[i].pendingClass = .a)) ↔
      (s.domains[i].state = .queued ∧ ((∃ j : DomainIx, s.domains[j].state = .queued ∧ s.domains[j].pendingClass = .a) →
        s.domains[i].pendingClass = .a)) := fun i => by
    rw [hqueued]
    refine and_congr_right fun hi => ?_
    rw [hclass i hi]
    refine imp_congr_left (exists_congr fun j => ?_)
    rw [hqueued]
    exact and_congr_right fun hj => by rw [hclass j hj]
  obtain ⟨hg, hfirst⟩ := h
  refine ⟨(hcandidate g).2 hg, fun i hi => ?_⟩
  rw [hlast]
  exact hfirst i ((hcandidate i).1 hi)

section
variable {t : State} (hother : ∀ i : DomainIx, i ≠ d → t.domains[i] = s.domains[i])
  (hs : s.domains[d].state ≠ .queued) (ht : t.domains[d].state ≠ .queued)
include hother hs ht

theorem State.firstCandidate.of_other (h : s.firstCandidate g) (hlast : t.lastGranted = s.lastGranted) : t.firstCandidate g :=
  h.transfer hlast fun i hi => by
    by_cases hid : i = d
    · subst hid
      exact absurd hi (not_or.2 ⟨hs, ht⟩)
    · exact hother i hid

theorem State.idle_of_none (hnone : ∀ i : DomainIx, s.domains[i].state ≠ .queued) : t.arbiterIdle :=
  .inr fun i => by
    by_cases hid : i = d
    · subst hid
      exact ht
    · rw [hother i hid]
      exact hnone i

omit hs ht in
/-- A domain that leaves PowerUp frees one place. -/
theorem State.powerUpCount_of_freed (hstate : s.domains[d].state = .powerUp) (hleft : t.domains[d].state ≠ .powerUp) :
    t.powerUpCount + 1 = s.powerUpCount := by
  refine Eq.symm (countP_of_lost (d := d) (p := fun i : DomainIx => decide (s.domains[i].state = .powerUp)) ?_ ?_
    allDomains_nodup (mem_allDomains d) fun i hi => ?_)
  · exact decide_eq_true hstate
  · exact decide_eq_false hleft
  · rw [hother i hi]

/-- The place that a domain frees goes to the first candidate (R104, R105). -/
theorem State.runArbiter_of_freed (hstate : s.domains[d].state = .powerUp) (hleft : t.domains[d].state ≠ .powerUp)
    (hlimit : t.inrushLimit = s.inrushLimit) (hlast : t.lastGranted = s.lastGranted)
    (hfull : s.powerUpCount = s.inrushLimit) (hpin : t.faultInputs.getLsbD g.val = false) (h : s.firstCandidate g) :
    t.runArbiter = t.granted g :=
  State.runArbiter_of_firstCandidate (by rw [State.powerUpCount_of_freed hother hstate hleft, hfull, hlimit]) hpin
    (h.of_other hother hs ht hlast)

end

end Sys2Proof.Machine
end

section
/-! Settling the statements about fault inputs and settled domains (sections 6.4 and 6.6). -/

namespace Sys2Proof.Machine

variable {s : State} {d g : DomainIx} {b : Branch}

theorem State.putDomain_arbiterIdle {x : Domain} (hs : s.domains[d].state ≠ .queued) (hx : x.state ≠ .queued)
    (hpowered : x.state = .powerUp → s.domains[d].state = .powerUp)
    (h : (∀ i : DomainIx, s.domains[i].state ≠ .queued) ∨ s.domains[d].state ≠ .powerUp ∧ s.inrushLimit ≤ s.powerUpCount) :
    (s.putDomain d x).arbiterIdle := by
  rcases h with hnone | ⟨hstate, hfull⟩
  · exact State.idle_of_none (s := s) (fun i hi => s.putDomain_get_ne _ hi) hs (by rw [State.putDomain_get]; exact hx) hnone
  · refine .inl (hfull.trans_eq (State.powerUpCount_congr fun i => ?_).symm)
    by_cases hi : i = d
    · subst hi
      rw [State.putDomain_get]
      exact iff_of_false (mt hpowered hstate) hstate
    · rw [s.putDomain_get_ne _ hi]

/-- Settles O40: the pin, the domain in Fault, the place it frees and its branch's reaction. -/
theorem faultInputActsOnPoweredDomain : Obligations.FaultInputActsOnPoweredDomain := by
  intro s d g b
  dsimp only
  obtain ⟨u, hu⟩ : ∃ u, { s with faultInputs := s.faultInputs ||| BitVec.twoPow 16 d.val } = u := ⟨_, rfl⟩
  rw [hu]
  have hdomains : u.domains = s.domains := by rw [← hu]
  have hget : u.domains[d] = s.domains[d] := by rw [hdomains]
  have hexec : exec (.faultInputAsserts d true) s = if s.domains[d].state.enabled then .next (u.enterFault d) else .next u := by
    rw [← hu]
    rfl
  refine ⟨rfl, fun hdark => ?_, fun hpowered hbranch => ?_⟩
  · have henabled : s.domains[d].state.enabled ≠ true := fun h => hdark (by
      rw [DomainState.enabled_eq] at h
      simpa [or_assoc] using h)
    rw [hexec, if_neg henabled]
  · have henabled : s.domains[d].state.enabled = true := by
      rcases hpowered with h | h | h <;> rw [h] <;> rfl
    have hnotqueued : u.domains[d].state ≠ .queued := by
      rw [hget]
      rcases hpowered with h | h | h <;> rw [h] <;> exact nofun
    have hfault : u.modDomain d Domain.faulted = u.putDomain d { s.domains[d].dark with state := .fault } := by
      rw [State.modDomain_eq_put, hget]
      rfl
    have hfollow : (u.putDomain d { s.domains[d].dark with state := .fault }).followDomain d =
        u.losing d b { s.domains[d].dark with state := .fault } :=
      State.followDomain_losing (.inr rfl) (by rw [hget]; rfl) (by rw [hget, ← hu]; exact hbranch)
    rw [hexec, if_pos henabled, State.enterFault, hget, hfault]
    refine ⟨fun hidle => ?_, fun hstate hfull hpin hfirst => ?_⟩
    · have hidle' : (u.putDomain d { s.domains[d].dark with state := .fault }).arbiterIdle :=
        State.putDomain_arbiterIdle hnotqueued nofun nofun (by rw [← hu]; exact hidle)
      rw [State.runArbiter_of_idle hidle', State.reportFault, hfollow]
    · have hqueued : s.domains[g].state = .queued := hfirst.1.1
      have hne : g ≠ d := by
        rintro rfl
        rw [hqueued] at hstate
        cases hstate
      have hpin' : u.faultInputs.getLsbD g.val = false := by
        rw [← hu]
        show (s.faultInputs ||| BitVec.twoPow 16 d.val).getLsbD g.val = false
        rw [BitVec.getLsbD_or, hpin, BitVec.getLsbD_twoPow, Bool.false_or]
        simp [Fin.val_ne_of_ne hne.symm]
      have hother : ∀ i : DomainIx, i ≠ d →
          (u.putDomain d { s.domains[d].dark with state := .fault }).domains[i] = s.domains[i] := fun i hi => by
        rw [u.putDomain_get_ne _ hi, hdomains]
      have hself : (u.putDomain d { s.domains[d].dark with state := .fault }).domains[d].state = .fault := by
        rw [State.putDomain_get]
      have hrun := State.runArbiter_of_freed (s := s) hother (by rw [hstate]; exact nofun) (by rw [hself]; exact nofun) hstate
        (by rw [hself]; exact nofun) (by rw [← hu]; rfl) (by rw [← hu]; rfl) hfull hpin' hfirst
      rw [hrun, State.reportFault, State.followDomain_granted (by rw [hother g hne]; exact hqueued), hfollow]

/-- A settled domain as its branch takes it (R105, R121). -/
theorem State.followDomain_settled {x : Domain} (hx : x.state = .on) (hkept : x.branch = s.domains[d].branch)
    (hbranch : s.mode ≠ .parked ∨ s.domains[d].branch = none ∨ s.domains[d].branch = some b) :
    (s.putDomain d x).followDomain d =
      if s.mode = .parked ∧ s.domains[d].branch = some b ∧ s.branches[b].mode = .waking
          ∧ ¬ s.otherDomain d b DomainState.waiting then
        (s.putDomain d x).putBranch b { s.branches[b] with mode := .awake }
      else s.putDomain d x := by
  have hmode : (s.putDomain d x).branches[b].mode = s.branches[b].mode := rfl
  have hget : (s.putDomain d x).domains[d].branch = s.domains[d].branch := by rw [State.putDomain_get, hkept]
  by_cases hparked : s.mode = .parked
  · rcases hbranch with h | h | h
    · exact absurd hparked h
    · rw [State.followDomain, hget, h, if_neg fun hall => nomatch hall.2.1]
    · have hactive : (s.putDomain d x).anyDomainOf b DomainState.active = true :=
        State.anyDomainOf_putDomain_self (hkept.trans h) (by rw [hx]; rfl)
      have hon : (s.putDomain d x).anyDomainOf b (· == .on) = true :=
        State.anyDomainOf_putDomain_self (hkept.trans h) (by rw [hx]; rfl)
      have hwaiting := State.anyDomainOf_putDomain (s := s) (d := d) (b := b) (x := x) (k := DomainState.waiting)
        (by rw [hx]; rfl)
      rw [State.followDomain, hget, h]
      dsimp only
      have hfollow : (s.putDomain d x).branchFollow b = match s.branches[b].mode with
          | .waking => if (s.putDomain d x).anyDomainOf b DomainState.waiting then s.putDomain d x
            else (s.putDomain d x).enterBranch b .awake
          | _ => s.putDomain d x := by
        unfold State.branchFollow
        rw [if_pos (by exact hparked), hmode, hactive, hon]
        cases s.branches[b].mode <;> rfl
      rw [hfollow]
      by_cases hwaking : s.branches[b].mode = .waking
      · have hawake : (s.putDomain d x).enterBranch b .awake =
            (s.putDomain d x).putBranch b { s.branches[b] with mode := .awake } :=
          congrArg (State.putBranch (s.putDomain d x) b) (BranchState.enter_awake_of_working (.inl hwaking))
        rw [hawake]
        by_cases hother : s.otherDomain d b DomainState.waiting
        · rw [if_neg (c := _ ∧ _) fun hall => hall.2.2.2 hother, hwaking]
          exact if_pos (hwaiting.2 hother)
        · rw [if_pos (c := _ ∧ _) ⟨hparked, rfl, hwaking, hother⟩, hwaking]
          exact if_neg (mt hwaiting.1 hother)
      · rw [if_neg (c := _ ∧ _) fun hall => hwaking hall.2.2.1]
        cases hstate : s.branches[b].mode with
        | waking => exact absurd hstate hwaking
        | awake | draining | off | listen | isolated => rfl
  · rw [if_neg fun hall => hparked hall.1, State.followDomain, hget]
    cases s.domains[d].branch with
    | none => rfl
    | some c => exact if_neg hparked

theorem DomainState.waiting_iff (k : DomainState) : k.waiting = true ↔ k = .queued ∨ k = .powerUp := by
  cases k <;> decide

/-- Settles O41: the settled domain, its branch's reaction and the place it frees. -/
theorem settledDomainGoesOn : Obligations.SettledDomainGoesOn := by
  intro s d g b hstate hsettle hbranch
  dsimp only
  obtain ⟨x, hx⟩ : ∃ x : Domain, { s.domains[d] with
    state := .on, remaining := s.domains[d].pending, pending := 0, pendingClass := .c, settle := 0 } = x := ⟨_, rfl⟩
  have hon : x.state = .on := by rw [← hx]
  have hput : s.modDomain d Domain.settled = s.putDomain d x := by
    rw [State.modDomain_eq_put, ← hx]
    rfl
  have hdue : s.settleDue d = true := by
    unfold State.settleDue
    rw [hstate, hsettle]
    rfl
  have hexec : exec (.settleExpiry d) s = .next ((s.putDomain d x).followDomain d).runArbiter := by
    rw [← hput]
    exact congrArg Host.Outcome.next (if_pos hdue)
  have hfollow := State.followDomain_settled (s := s) hon (by rw [← hx]) hbranch
  have hothers : s.otherDomain d b DomainState.waiting ↔ ∃ i : DomainIx, i ≠ d ∧ s.domains[i].branch = some b
      ∧ (s.domains[i].state = .queued ∨ s.domains[i].state = .powerUp) :=
    exists_congr fun i => and_congr_right fun _ => and_congr_right fun _ => DomainState.waiting_iff _
  have hfollowed : (s.putDomain d x).followDomain d =
      if s.mode = .parked ∧ s.domains[d].branch = some b ∧ s.branches[b].mode = .waking
          ∧ ¬ ∃ i : DomainIx, i ≠ d ∧ s.domains[i].branch = some b
            ∧ (s.domains[i].state = .queued ∨ s.domains[i].state = .powerUp) then
        (s.putDomain d x).putBranch b { s.branches[b] with mode := .awake }
      else s.putDomain d x := by
    rw [hfollow]
    exact if_congr (by rw [hothers]) rfl rfl
  rw [hx, hexec, ← hfollowed]
  have hdomains := (s.putDomain d x).followDomain_domains d
  have hheld := (s.putDomain d x).followDomain_held d
  have hlast := (s.putDomain d x).followDomain_lastGranted d
  generalize (s.putDomain d x).followDomain d = t at hdomains hheld hlast
  have hother : ∀ i : DomainIx, i ≠ d → t.domains[i] = s.domains[i] := fun i hi => by
    rw [hdomains, s.putDomain_get_ne _ hi]
  have hself : t.domains[d].state = .on := by rw [hdomains, State.putDomain_get, hon]
  refine ⟨fun hnone => ?_, fun hfull hpin hfirst => ?_⟩
  · rw [State.runArbiter_of_idle (State.idle_of_none hother (by rw [hstate]; exact nofun) (by rw [hself]; exact nofun) hnone)]
  · have hlimit : t.inrushLimit = (s.putDomain d x).inrushLimit := State.inrushLimit_of_held hheld
    have hpins : t.faultInputs = s.faultInputs := by
      have h := congrArg State.faultInputs hheld
      exact h
    rw [State.runArbiter_of_freed hother (by rw [hstate]; exact nofun) (by rw [hself]; exact nofun) hstate
      (by rw [hself]; exact nofun) hlimit hlast hfull (by rw [hpins]; exact hpin) hfirst]

end Sys2Proof.Machine
end

section
/-! Settling the statement about Force Domain (section 6.7). -/

namespace Sys2Proof.Machine

variable {s : State} {d g : DomainIx} {b : Branch}

/-! ## The request and its three actions -/

section
variable {tag i a : Byte} {more : List Byte} {rest : List (List Byte)} (hmode : s.mode ≠ .fallback)
  (hturn : s.turn ([0x22, tag, i, a] ++ more) rest)
include hmode hturn

theorem State.turn.forceDomain_refused {r : Result} (h : actForceDomain (i :: a :: more) s = .error r) :
    exec (rowOf ([0x22, tag, i, a] ++ more)) s = .next (s.answered rest [0x22, tag, byte r.code]) := by
  have hexec : exec (rowOf ([0x22, tag, i, a] ++ more)) s =
      .next (s.execute (rowOf ([0x22, tag, i, a] ++ more)) 2 anyMode actForceDomain) := by
    show exec (forceRow (i :: a :: more)) s = .next (s.execute (forceRow (i :: a :: more)) 2 anyMode actForceDomain)
    unfold forceRow
    split <;> rfl
  rw [hexec]
  exact congrArg Host.Outcome.next (hturn.execute_of_refused rfl (by simp) ((anyMode_iff _).2 hmode) h)

theorem State.turn.forceDomain_badIndex (hi : 15 < i.toNat) :
    exec (rowOf ([0x22, tag, i, a] ++ more)) s = .next (s.answered rest [0x22, tag, 2]) := by
  refine hturn.forceDomain_refused (r := .badIndex) hmode ?_
  show (need .badIndex (index? 16 i.toNat) >>= _) = _
  rw [index?_of_ge hi]
  rfl

variable (hi : i.toNat = d.val)
include hi

theorem State.turn.forceDomain_badAction (ha : 2 < a.toNat) :
    exec (rowOf ([0x22, tag, i, a] ++ more)) s = .next (s.answered rest [0x22, tag, 3]) := by
  refine hturn.forceDomain_refused (r := .badValue) hmode ?_
  show (need .badIndex (index? 16 i.toNat) >>= fun d => match a.toNat with
    | 0 => pure (s.wake d .a (s.cappedDefault d) none, [])
    | 1 => pure (s.switchOff d, [])
    | 2 => s.clearFault d >>= fun s1 => pure (s1, [])
    | _ => .error .badValue) = _
  rw [index?_of_eq hi]
  match a.toNat, ha with
  | n + 3, _ => rfl

end

section
variable {tag i : Byte} {more : List Byte} {rest : List (List Byte)} (hmode : s.mode ≠ .fallback) (hi : i.toNat = d.val)
include hmode hi

theorem State.turn.forceDomainOn (hturn : s.turn ([0x22, tag, i, 0] ++ more) rest) : exec .forceDomainOn s =
    .next ((s.wake d .a (s.cappedAt s.domains[d].defaultLinger) none).answered rest [0x22, tag, 0]) := by
  have hact : actForceDomain (i :: 0 :: more) s = .ok (s.wake d .a (s.cappedDefault d) none, []) := by
    show (need .badIndex (index? 16 i.toNat) >>= _) = _
    rw [index?_of_eq hi]
    rfl
  have hkept := congrArg State.requests (s.wake_held d .a (s.cappedDefault d) none)
  rw [← State.cappedDefault_eq]
  exact congrArg Host.Outcome.next (hturn.execute_of_accepted rfl (by simp) ((anyMode_iff _).2 hmode) hact hkept)

theorem State.turn.forceDomainOff (hturn : s.turn ([0x22, tag, i, 1] ++ more) rest) : exec .forceDomainOff s =
    .next ((s.switchOff d).answered rest [0x22, tag, 0]) := by
  have hact : actForceDomain (i :: 1 :: more) s = .ok (s.switchOff d, []) := by
    show (need .badIndex (index? 16 i.toNat) >>= _) = _
    rw [index?_of_eq hi]
    rfl
  have hkept := congrArg State.requests (s.switchOff_held d)
  exact congrArg Host.Outcome.next (hturn.execute_of_accepted rfl (by simp) ((anyMode_iff _).2 hmode) hact hkept)

theorem State.turn.clearFault {t : State} (hturn : s.turn ([0x22, tag, i, 2] ++ more) rest) (h : s.clearFault d = .ok t)
    (hkept : t.requests = s.requests) : exec .clearFault s = .next (t.answered rest [0x22, tag, 0]) := by
  have hact : actForceDomain (i :: 2 :: more) s = .ok (t, []) := by
    show (need .badIndex (index? 16 i.toNat) >>= fun d => s.clearFault d >>= fun t => pure (t, [])) = _
    rw [index?_of_eq hi]
    show (s.clearFault d >>= fun t => pure (t, [])) = _
    rw [h]
    rfl
  exact congrArg Host.Outcome.next (hturn.execute_of_accepted rfl (by simp) ((anyMode_iff _).2 hmode) hact hkept)

theorem State.turn.clearFault_refused {r : Result} (hturn : s.turn ([0x22, tag, i, 2] ++ more) rest)
    (h : s.clearFault d = .error r) : exec .clearFault s = .next (s.answered rest [0x22, tag, byte r.code]) := by
  have hact : actForceDomain (i :: 2 :: more) s = .error r := by
    show (need .badIndex (index? 16 i.toNat) >>= fun d => s.clearFault d >>= fun t => pure (t, [])) = _
    rw [index?_of_eq hi]
    show (s.clearFault d >>= fun t => pure (t, [])) = _
    rw [h]
    rfl
  exact congrArg Host.Outcome.next
    (hturn.execute_of_refused (row := .clearFault) rfl (by simp) ((anyMode_iff _).2 hmode) hact)

end

/-! ## Force Domain Off and Clear Fault -/

/-- A domain switched off, as its branch takes it, before the grants. -/
theorem State.switchOff_eq (hactive : s.domains[d].state ≠ .off ∧ s.domains[d].state ≠ .fault)
    (hbranch : s.mode ≠ .parked ∨ s.domains[d].branch = none ∨ s.domains[d].branch = some b) :
    s.switchOff d = (s.losing d b s.domains[d].dark).runArbiter := by
  rw [State.switchOff, if_pos ((DomainState.active_iff _).2 hactive), State.modDomain_eq_put,
    ← State.followDomain_losing (lost := s.domains[d].dark) (.inl rfl) rfl hbranch]
  rfl

theorem State.losing_domains {lost : Domain} (hlost : lost.state = .off ∨ lost.state = .fault)
    (hkept : lost.branch = s.domains[d].branch)
    (hbranch : s.mode ≠ .parked ∨ s.domains[d].branch = none ∨ s.domains[d].branch = some b) :
    (s.losing d b lost).domains = (s.putDomain d lost).domains ∧ (s.losing d b lost).inrushLimit = s.inrushLimit
      ∧ (s.losing d b lost).lastGranted = s.lastGranted ∧ (s.losing d b lost).faultInputs = s.faultInputs := by
  rw [← State.followDomain_losing hlost hkept hbranch]
  have hheld := (s.putDomain d lost).followDomain_held d
  have hlimit := congrArg State.inrushLimit hheld
  have hpins := congrArg State.faultInputs hheld
  exact ⟨State.followDomain_domains _ d, hlimit, State.followDomain_lastGranted _ d, hpins⟩

section
variable (hactive : s.domains[d].state ≠ .off ∧ s.domains[d].state ≠ .fault)
  (hbranch : s.mode ≠ .parked ∨ s.domains[d].branch = none ∨ s.domains[d].branch = some b)
include hactive hbranch

theorem State.switchOff_idle (hidle : (∀ j : DomainIx, j ≠ d → s.domains[j].state ≠ .queued)
    ∨ s.domains[d].state ≠ .powerUp ∧ s.inrushLimit ≤ s.powerUpCount) : s.switchOff d = s.losing d b s.domains[d].dark := by
  rw [State.switchOff_eq hactive hbranch]
  obtain ⟨hdomains, hlimit, -, -⟩ := State.losing_domains (lost := s.domains[d].dark) (.inl rfl) rfl hbranch
  generalize s.losing d b s.domains[d].dark = t at hdomains hlimit
  have hself : t.domains[d].state = .off := by rw [hdomains, State.putDomain_get]; rfl
  have hother : ∀ j : DomainIx, j ≠ d → t.domains[j] = s.domains[j] := fun j hj => by
    rw [hdomains, s.putDomain_get_ne _ hj]
  refine State.runArbiter_of_idle ?_
  rcases hidle with hnone | ⟨hstate, hfull⟩
  · refine .inr fun j => ?_
    by_cases hj : j = d
    · subst hj
      rw [hself]
      exact nofun
    · rw [hother j hj]
      exact hnone j hj
  · refine .inl (hlimit.trans_le (hfull.trans_eq (State.powerUpCount_congr fun j => ?_).symm))
    by_cases hj : j = d
    · subst hj
      rw [hself]
      exact iff_of_false nofun hstate
    · rw [hother j hj]

theorem State.switchOff_freed (hstate : s.domains[d].state = .powerUp) (hfull : s.powerUpCount = s.inrushLimit)
    (hpin : s.faultInputs.getLsbD g.val = false) (hfirst : s.firstCandidate g) :
    s.switchOff d = (s.losing d b s.domains[d].dark).granted g := by
  rw [State.switchOff_eq hactive hbranch]
  obtain ⟨hdomains, hlimit, hlast, hpins⟩ := State.losing_domains (lost := s.domains[d].dark) (.inl rfl) rfl hbranch
  generalize s.losing d b s.domains[d].dark = t at hdomains hlimit hlast hpins
  have hself : t.domains[d].state = .off := by rw [hdomains, State.putDomain_get]; rfl
  exact State.runArbiter_of_freed (s := s) (fun j hj => by rw [hdomains, s.putDomain_get_ne _ hj])
    (by rw [hstate]; exact nofun) (by rw [hself]; exact nofun) hstate (by rw [hself]; exact nofun) hlimit hlast hfull
    (by rw [hpins]; exact hpin) hfirst

end

/-- A cleared domain leaves a branch that follows its domains as it is (R116, R121). -/
theorem State.losing_of_fault {y : Domain} (hfault : s.domains[d].state = .fault)
    (hbranch : s.mode ≠ .parked ∨ s.domains[d].branch = none ∨ s.domains[d].branch = some b ∧ s.branchFollows b) :
    s.losing d b y = s.putDomain d y := by
  have hother : ∀ {k l : DomainState → Bool}, s.hasDomain b k → k .fault = false → (∀ x, k x = true → l x = true) →
      s.otherDomain d b l := by
    rintro k l ⟨i, hi, hk⟩ hdark hkl
    refine ⟨i, ?_, hi, hkl _ hk⟩
    rintro rfl
    rw [hfault, hdark] at hk
    cases hk
  unfold State.losing
  dsimp only
  by_cases hparked : s.mode = .parked ∧ s.domains[d].branch = some b
  · have hfollows : s.branchFollows b := by
      rcases hbranch with h | h | h
      · exact absurd hparked.1 h
      · rw [hparked.2] at h
        cases h
      · exact h.2
    rw [if_pos hparked]
    unfold State.branchFollows at hfollows
    cases hmode : s.branches[b].mode with
    | waking =>
      rw [hmode] at hfollows
      exact if_pos (hother hfollows.1 rfl fun _ => id)
    | awake =>
      rw [hmode] at hfollows
      exact if_pos (hother hfollows.1 rfl fun x hx => by revert hx; cases x <;> decide)
    | draining =>
      rw [hmode] at hfollows
      exact if_pos (hother hfollows.1 rfl fun x hx => by revert hx; cases x <;> decide)
    | off | listen | isolated => rfl
  · rw [if_neg hparked]

theorem State.clearFault_cleared (hfault : s.domains[d].state = .fault) (hpin : s.faultInputs.getLsbD d.val = false)
    (hbranch : s.mode ≠ .parked ∨ s.domains[d].branch = none ∨ s.domains[d].branch = some b ∧ s.branchFollows b) :
    s.clearFault d = .ok (s.putDomain d { s.domains[d] with state := .off }) := by
  rw [State.clearFault, if_pos hfault, if_neg (by rw [hpin]; exact nofun), State.modDomain_eq_put,
    State.followDomain_losing (lost := { s.domains[d] with state := .off }) (.inl rfl) rfl
      (hbranch.imp_right (Or.imp_right And.left)), State.losing_of_fault hfault hbranch]

theorem WakeClass.higher_a (x : WakeClass) : x.higher .a = .a := by
  cases x <;> rfl

/-- Settles O57: the refusals, and each action by the state of the domain. -/
theorem forceDomainActs : Obligations.ForceDomainActs := by
  intro s tag i a d g b more rest hmode hturn
  dsimp only
  refine ⟨hturn.forceDomain_badIndex hmode, hturn.forceDomain_badAction hmode, fun hi ha hidle => ?_, fun hi ha => ?_,
    fun hi ha => ?_⟩
  · subst ha
    rw [hturn.forceDomainOn hmode hi]
    have hstands : s.domains[d].branch = none ∨ s.domains[d].branch = some b ∧ s.branches[b].mode ≠ .isolated
        ∧ s.mode ≠ .parked → s.standsBeside d b := Or.imp_right (And.imp_right fun h => .inr (.inr h))
    obtain ⟨answer, hanswer⟩ : ∃ answer : State → Host.Outcome State Fault Refusal,
      (fun t : State => Host.Outcome.next (t.answered rest [0x22, tag, 0])) = answer := ⟨_, rfl⟩
    have hnext : ∀ t : State, Host.Outcome.next (t.answered rest [0x22, tag, 0]) = answer t := congrFun hanswer
    simp only [hnext]
    refine ⟨fun hoff hfull => ⟨fun h => ?_, fun hb hparked => ?_⟩, fun hoff hfree hpin => ⟨fun h => ?_, fun hb hparked hb' => ?_⟩,
      fun hoff hb hb' => ?_, fun h => ?_, fun h => ?_, fun h => ⟨fun hb => ?_, fun hb hb' => ?_⟩, fun h => ?_⟩
    all_goals refine congrArg answer ?_
    · exact State.wake_full hoff (hstands h) hfull
    · by_cases hb' : s.branches[b].mode = .isolated
      · rw [State.wake_isolated hidle hoff hb hb', State.joined_isolated hb']
      · exact State.wake_full_parked hoff hb hb' hparked hfull
    · exact State.wake_free hidle hoff (hstands h) hfree hpin
    · exact State.wake_free_parked hidle hoff hb hb' hparked hfree hpin
    · exact State.wake_isolated hidle hoff hb hb'
    · rw [State.wake_waiting hidle h, WakeClass.higher_a]
    · exact State.wake_on hidle h
    · exact State.wake_releasing (b := b) hidle h (.inl hb)
    · exact State.wake_revived hidle h hb hb'
    · exact State.wake_fault hidle h
  · subst ha
    rw [hturn.forceDomainOff hmode hi]
    refine ⟨fun h => ?_, fun hoff hfault hbranch => ⟨fun hnone => ?_, fun hstate hfull hpin hfirst => ?_⟩⟩
    · have hdark : ¬ s.domains[d].state.active = true := fun hactive => by
        obtain ⟨hoff, hfault⟩ := (DomainState.active_iff _).1 hactive
        exact h.elim hoff hfault
      rw [State.switchOff, if_neg hdark]
    · rw [State.switchOff_idle ⟨hoff, hfault⟩ hbranch hnone]
    · rw [State.switchOff_freed ⟨hoff, hfault⟩ hbranch hstate hfull hpin hfirst]
  · subst ha
    refine ⟨fun h => ?_, fun hfault hpin => ?_, fun hfault hpin hbranch => ?_⟩
    · exact hturn.clearFault hmode hi (if_neg h) rfl
    · exact hturn.clearFault_refused (r := .wrongState) hmode hi (by rw [State.clearFault, if_pos hfault, if_pos hpin])
    · exact hturn.clearFault hmode hi (State.clearFault_cleared hfault hpin hbranch) rfl

end Sys2Proof.Machine
end

section
/-! Settling the statements about linger expiries (sections 6.5 and 9.4). -/

namespace Sys2Proof.Machine

variable {s : State} {d : DomainIx} {b : Branch} {r : RuleIx}

/-! ## Where a domain goes -/

/-- Another domain of the branch is in Queued, PowerUp or On. -/
abbrev State.keptUp (s : State) (d : DomainIx) (b : Branch) : Prop :=
  ∃ i : DomainIx, i ≠ d ∧ s.domains[i].branch = some b
    ∧ (s.domains[i].state = .queued ∨ s.domains[i].state = .powerUp ∨ s.domains[i].state = .on)

theorem State.othersKeep_iff : s.othersKeep b d = true ↔ s.keptUp d b := by
  unfold State.othersKeep
  rw [List.any_eq_true]
  refine exists_congr fun i => ?_
  rw [and_iff_right (mem_allDomains i)]
  simp only [Bool.and_eq_true, bne_iff_ne, beq_iff_eq, Bool.or_eq_true, DomainState.waiting_iff, and_assoc, or_assoc]

theorem State.lingerOut_alone (hbranch : s.domains[d].branch = none) : s.lingerOut d = s.putDomain d s.domains[d].dark := by
  rw [State.lingerOut, hbranch, ← State.modDomain_eq_put]
  rfl

theorem State.lingerOut_beside (hbranch : s.domains[d].branch = some b) (h : s.keptUp d b) :
    s.lingerOut d = s.putDomain d s.domains[d].dark := by
  rw [State.lingerOut, hbranch]
  dsimp only
  rw [if_pos (State.othersKeep_iff.2 h), State.modDomain_eq_put]
  rfl

theorem BranchState.enter_draining {x : BranchState} (h : x.mode = .awake) : x.enter .draining = { x with mode := .draining } := by
  unfold BranchState.enter
  rw [h]
  simp

/-- A marker placed on the records of the branch and its port. -/
theorem State.marked_eq_put (h : s.branches[b].mode = .awake) : s.marked b =
    (s.putBranch b { s.branches[b] with
      mode := .draining, drainTimer := some s.branches[b].params.drainLimit, closing := false }).putPort (portOf b)
        { s.ports[portOf b] with queue := s.ports[portOf b].queue ++ [.marker] } := by
  have htwice := (s.modPort (portOf b) fun ps => { ps with queue := ps.queue ++ [.marker] }).modBranch_twice b
    (fun bs => bs.enter .draining) (fun bs => { bs with drainTimer := some bs.params.drainLimit, closing := false })
  refine htwice.trans ?_
  have hbranch : (s.modPort (portOf b) fun ps => { ps with queue := ps.queue ++ [.marker] }).branches[b] = s.branches[b] := rfl
  rw [hbranch, BranchState.enter_draining h]
  rfl

/-- The rest of a branch does not read what it clears of the branch's record and its port's. -/
theorem State.rest_put {x : BranchState} {y : PortState} (hx : x.rested = s.branches[b].rested)
    (hy : y.rested x.params.rest = s.ports[portOf b].rested s.branches[b].params.rest)
    (hfree : idleFrames (y.queue.filter fun i => !i.held) =
      idleFrames (s.ports[portOf b].queue.filter fun i => !i.held)) :
    ((s.putBranch b x).putPort (portOf b) y).rest b = s.rest b := by
  have hbranch : ((s.putBranch b x).putPort (portOf b) y).branches[b] = x := s.putBranch_get b x
  have hport : ((s.putBranch b x).putPort (portOf b) y).ports[portOf b] = y := (s.putBranch b x).putPort_get (portOf b) y
  unfold State.rest
  rw [hbranch, hport, hx, hy, hfree]
  simp only [State.putBranch, State.putPort, Vector.set_set]

section
variable (hmode : s.branches[b].mode = .awake)
include hmode

/-- A marker placed behind entries stands (R86). -/
theorem State.placeMarker_stands (hqueue : s.ports[portOf b].queue ≠ [])
    (hhead : s.ports[portOf b].queue.head? ≠ some .marker) : s.placeMarker b =
      (s.putBranch b { s.branches[b] with
        mode := .draining, drainTimer := some s.branches[b].params.drainLimit, closing := false }).putPort (portOf b)
          { s.ports[portOf b] with queue := s.ports[portOf b].queue ++ [.marker] } := by
  rw [s.placeMarker_eq hmode, State.marked_eq_put hmode]
  refine State.settlePort_of_noDrainEnds fun c hc _ => ?_
  obtain rfl := portOf_injective hc
  rw [State.putPort_get]
  refine ⟨?_, fun hclosing => ?_⟩
  · rw [List.head?_append_of_ne_nil _ hqueue]
    exact hhead
  · have hget := (s.putBranch_get b { s.branches[b] with
      mode := .draining, drainTimer := some s.branches[b].params.drainLimit, closing := false })
    have hfalse := (congrArg BranchState.closing hget).symm.trans hclosing
    cases hfalse

/-- A marker placed in an empty queue goes straight through the drain (R122). -/
theorem State.placeMarker_sleeps (hparked : s.mode = .parked) (hqueue : s.ports[portOf b].queue = []) :
    s.placeMarker b = s.slept b := by
  have hsettle := State.settlePort_of_drainEnds (s := s.marked b) (b := b) hparked
  rw [s.placeMarker_eq hmode]
  rw [State.marked_eq_put hmode] at hsettle ⊢
  rw [hsettle (congrArg BranchState.mode (s.putBranch_get b _)) (.inl (by rw [State.putPort_get, hqueue]; rfl))]
  refine congrArg (fun u : State => u.withDomains (s.slept b).domains) (State.rest_put ?_ ?_ ?_)
  · unfold BranchState.rested
    dsimp only
  · rw [hqueue]
    unfold PortState.rested
    dsimp only
    rw [hqueue]
    rfl
  · rw [hqueue]
    rfl

end

theorem State.lingerOut_leaves (hbranch : s.domains[d].branch = some b) (h : ¬ s.keptUp d b) : s.lingerOut d =
    (s.putDomain d { s.domains[d] with state := .releasing, remaining := 0 }).placeMarker b := by
  rw [State.lingerOut, hbranch]
  dsimp only
  rw [if_neg (mt State.othersKeep_iff.1 h), State.modDomain_eq_put]

theorem State.lingerOut_drains (hbranch : s.domains[d].branch = some b) (h : ¬ s.keptUp d b)
    (hmode : s.branches[b].mode = .awake) (hqueue : s.ports[portOf b].queue ≠ [])
    (hhead : s.ports[portOf b].queue.head? ≠ some .marker) : s.lingerOut d =
      ((s.putDomain d { s.domains[d] with state := .releasing, remaining := 0 }).putBranch b { s.branches[b] with
        mode := .draining, drainTimer := some s.branches[b].params.drainLimit, closing := false }).putPort (portOf b)
          { s.ports[portOf b] with queue := s.ports[portOf b].queue ++ [.marker] } := by
  rw [State.lingerOut_leaves hbranch h]
  exact State.placeMarker_stands (s := s.putDomain d _) hmode hqueue hhead

theorem State.lingerOut_sleeps (hparked : s.mode = .parked) (hbranch : s.domains[d].branch = some b)
    (hdark : ∀ i : DomainIx, i ≠ d → s.domains[i].branch = some b → s.domains[i].state = .off ∨ s.domains[i].state = .fault)
    (hmode : s.branches[b].mode = .awake) (hqueue : s.ports[portOf b].queue = []) :
    s.lingerOut d = (s.putDomain d s.domains[d].dark).rest b := by
  have hkept : ¬ s.keptUp d b := fun ⟨i, hi, hb, hstate⟩ => by
    rcases hdark i hi hb with h | h <;> rw [h] at hstate <;> rcases hstate with h | h | h <;> cases h
  rw [State.lingerOut_leaves hbranch hkept,
    State.placeMarker_sleeps (s := s.putDomain d { s.domains[d] with state := .releasing, remaining := 0 }) hmode hparked hqueue]
  refine congrArg (State.withDomains (s.rest b)) (Vector.ext fun i hi => ?_)
  have hslept := ofFn_get (fun i : DomainIx =>
    if (s.putDomain d { s.domains[d] with state := .releasing, remaining := 0 }).domains[i].branch = some b
        ∧ (s.putDomain d { s.domains[d] with state := .releasing, remaining := 0 }).domains[i].state = .releasing then
      (s.putDomain d { s.domains[d] with state := .releasing, remaining := 0 }).domains[i].dark
    else (s.putDomain d { s.domains[d] with state := .releasing, remaining := 0 }).domains[i]) ⟨i, hi⟩
  refine hslept.trans ?_
  by_cases hid : (⟨i, hi⟩ : DomainIx) = d
  · subst hid
    rw [State.putDomain_get, if_pos ⟨hbranch, rfl⟩]
    exact (s.putDomain_get ⟨i, hi⟩ _).symm
  · rw [s.putDomain_get_ne _ hid, if_neg]
    · exact (s.putDomain_get_ne _ hid).symm
    · rintro ⟨hb, hstate⟩
      rcases hdark _ hid hb with h | h <;> rw [h] at hstate <;> cases hstate

/-! ## Who is charged -/

theorem exec_lingerExpiry (hparked : s.mode = .parked) (hon : s.domains[d].state = .on) (hzero : s.domains[d].remaining = 0) :
    exec (.lingerExpiry d) s = .next ((s.judge d).lingerOut d) := by
  have hdue : s.lingerDue d = true := by
    unfold State.lingerDue
    rw [hparked, hon, hzero]
    rfl
  exact congrArg Host.Outcome.next (if_pos hdue)

/-- A domain that awaits no confirmation is not judged. -/
theorem State.judge_eq_self (hawaiting : s.domains[d].awaiting = false) (hwaker : s.domains[d].waker = none) :
    s.judge d = s := by
  have hsame : s.domains[d].unarmed = s.domains[d] := by
    generalize s.domains[d] = x at hawaiting hwaker
    cases x
    cases hawaiting
    cases hwaker
    rfl
  unfold State.judge
  rw [hawaiting]
  dsimp only
  rw [State.modDomain_eq_put, hsame, State.putDomain_self]

/-- Settles O42: the destination, straight through the drain at an empty queue. -/
theorem lingerExpiryDestination : Obligations.LingerExpiryDestination := by
  intro s d b hparked hon hzero hawaiting hwaker
  dsimp only
  rw [exec_lingerExpiry hparked hon hzero, State.judge_eq_self hawaiting hwaker]
  refine ⟨fun hb => ?_, fun hb hothers => ?_, fun hb hothers hmode hqueue hhead => ?_, fun hb hdark hmode hqueue => ?_⟩
  · rw [State.lingerOut_alone hb]
  · rw [State.lingerOut_beside hb hothers]
  · rw [State.lingerOut_drains hb hothers hmode hqueue hhead]
  · rw [State.lingerOut_sleeps hparked hb hdark hmode hqueue]

/-- The state after the charge of an unconfirmed wake to a rule (R157). -/
def State.charged (s : State) (r : RuleIx) (d : DomainIx) : State :=
  let x := s.rules[r]
  let unarmed := s.classification.map fun c =>
    match c.verdict with
    | .matched m => if m.rule = r then { c with verdict := .matched { m with confirm := false } } else c
    | _ => c
  if x.quarantine.isSome then s.putTableRule r { x with quarantine := some s.quarantineTime }
  else if x.suspect.isSome then
    ({ s with classification := unarmed }.putTableRule r
      { x with suspect := none, quarantine := some s.quarantineTime }).raise .ruleQuarantined (some r.val) d.val
        s.quarantineTime
  else s.putTableRule r { x with suspect := some s.suspectWindow }

theorem State.charge_eq (s : State) (r : RuleIx) (d : DomainIx) : s.charge r d = s.charged r d := by
  unfold State.charge State.charged
  dsimp only
  refine if_congr Iff.rfl rfl (if_congr Iff.rfl ?_ rfl)
  refine congrArg (fun u : State => u.raise .ruleQuarantined (some r.val) d.val s.quarantineTime) ?_
  unfold State.dropConfirm
  refine congrArg (fun c : Option Classification => { s.putTableRule r
    { s.rules[r] with suspect := none, quarantine := some s.quarantineTime } with classification := c }) ?_
  refine congrArg (Option.map · s.classification) (funext fun c => ?_)
  cases c.verdict <;> rfl

theorem State.raise_records (s : State) (c : Condition) (x : Option Nat) (y z : Nat) : (s.raise c x y z).mode = s.mode
    ∧ (s.raise c x y z).branches = s.branches ∧ (s.raise c x y z).ports = s.ports
    ∧ (s.raise c x y z).domains = s.domains := by
  obtain ⟨f, r, l, h⟩ := s.raise_frame c x y z
  rw [h]
  exact ⟨rfl, rfl, rfl, rfl⟩

/-- A charge leaves mode, branches, ports and domains as they are. -/
theorem State.charged_frame (s : State) (r : RuleIx) (d : DomainIx) : (s.charged r d).mode = s.mode
    ∧ (s.charged r d).branches = s.branches ∧ (s.charged r d).ports = s.ports ∧ (s.charged r d).domains = s.domains := by
  unfold State.charged
  dsimp only
  split
  · exact ⟨rfl, rfl, rfl, rfl⟩
  · split
    · exact State.raise_records _ _ _ _ _
    · exact ⟨rfl, rfl, rfl, rfl⟩

/-- An awaiting domain is charged to its rule, and its waker and mark are cleared. -/
theorem State.judge_eq_charged (hawaiting : s.domains[d].awaiting = true) (hwaker : s.domains[d].waker = some r) :
    s.judge d = (s.charged r d).putDomain d { s.domains[d] with waker := none, awaiting := false } := by
  obtain ⟨-, -, -, hdomains⟩ := s.charged_frame r d
  unfold State.judge
  rw [hawaiting, hwaker]
  dsimp only
  rw [State.charge_eq, State.modDomain_eq_put, hdomains]
  rfl

/-- Settles O43: the charge, and the destination of the domain that no longer awaits. -/
theorem unconfirmedWakeIsCharged : Obligations.UnconfirmedWakeIsCharged := by
  intro s d b r hparked hon hawaiting hwaker hzero x unarmed charged y others ps
  have hcharged : charged = s.charged r d := rfl
  clear_value charged
  obtain ⟨hmode, hbranches, hports, hdomains⟩ := s.charged_frame r d
  rw [← hcharged] at hmode hbranches hports hdomains
  have hget : (charged.putDomain d y).domains[d] = y := charged.putDomain_get d y
  have hother : ∀ i : DomainIx, i ≠ d → (charged.putDomain d y).domains[i] = s.domains[i] := fun i hi => by
    rw [charged.putDomain_get_ne _ hi, hdomains]
  have hparked' : (charged.putDomain d y).mode = .parked := hmode.trans hparked
  have hbranch' : s.domains[d].branch = some b → (charged.putDomain d y).domains[d].branch = some b := fun h => by
    rw [hget]
    exact h
  have hkept : (charged.putDomain d y).keptUp d b ↔ others := exists_congr fun i => and_congr_right fun hi => by
    rw [hother i hi]
  have hawake : s.branches[b].mode = .awake → (charged.putDomain d y).branches[b].mode = .awake := fun h => by
    show charged.branches[b].mode = _
    rw [hbranches]
    exact h
  have hport : (charged.putDomain d y).ports[portOf b] = s.ports[portOf b] := by
    show charged.ports[portOf b] = _
    rw [hports]
  have htwice : ∀ z, (charged.putDomain d y).putDomain d z = charged.putDomain d z := fun z => charged.putDomain_putDomain d y z
  have hbranch : (charged.putDomain d y).branches[b] = s.branches[b] := by
    show charged.branches[b] = _
    rw [hbranches]
  have hdark : (charged.putDomain d y).domains[d].dark = s.domains[d].dark := by
    rw [hget]
    rfl
  rw [exec_lingerExpiry hparked hon hzero, State.judge_eq_charged hawaiting hwaker, ← hcharged]
  refine ⟨?_, fun hb hothers => ?_, fun hb hothers hstate hqueue hhead => ?_, fun hb hdarks hstate hqueue => ?_⟩
  · rw [exec_lingerExpiry hparked' (by rw [hget]; exact hon) (by rw [hget]; exact hzero),
      State.judge_eq_self (by rw [hget]) (by rw [hget])]
  · have hout := State.lingerOut_beside (hbranch' hb) (hkept.2 hothers)
    rw [htwice, hdark] at hout
    exact congrArg Host.Outcome.next hout
  · have hout := State.lingerOut_drains (hbranch' hb) (mt hkept.1 hothers) (hawake hstate) (by rw [hport]; exact hqueue)
      (by rw [hport]; exact hhead)
    rw [htwice, hbranch, hport, hget] at hout
    exact congrArg Host.Outcome.next hout
  · have hout := State.lingerOut_sleeps hparked' (hbranch' hb) (fun i hi hib => by
      rw [hother i hi] at hib ⊢
      exact hdarks i hi hib) (hawake hstate) (by rw [hport]; exact hqueue)
    rw [htwice, hdark] at hout
    exact congrArg Host.Outcome.next hout

end Sys2Proof.Machine
end

section
/-! Settling the statement about the end of an isolation (section 7.4). -/

namespace Sys2Proof.Machine

variable {s : State} {d : DomainIx} {b : Branch}

/-- Each domain of a list without repetition that is as the list's operation takes it, replaced by its image. -/
theorem State.foldl_putDomain_of_mem {f : Domain → Domain} {op : State → DomainIx → State} {p : State → Prop}
    {q : Domain → Prop} (hop : ∀ t d, p t → q t.domains[d] → op t d = t.putDomain d (f t.domains[d]))
    (hp : ∀ t d x, p t → p (t.putDomain d x)) :
    ∀ (l : List DomainIx) (t : State), l.Nodup → p t → (∀ d ∈ l, q t.domains[d]) →
      l.foldl op t = t.withDomains (.ofFn fun d => if d ∈ l then f t.domains[d] else t.domains[d])
  | [], t, _, _, _ => congrArg (State.withDomains t) (Vector.ext fun i hi => by
      rw [Vector.getElem_ofFn]
      rfl)
  | d :: l, t, hnodup, ht, hq => by
    obtain ⟨hd, hl⟩ := List.nodup_cons.1 hnodup
    have hlater : ∀ i ∈ l, q (t.putDomain d (f t.domains[d])).domains[i] := fun i hi => by
      have hne : i ≠ d := ne_of_mem_of_not_mem hi hd
      rw [t.putDomain_get_ne _ hne]
      exact hq i (List.mem_cons_of_mem _ hi)
    rw [List.foldl_cons, hop t d ht (hq d List.mem_cons_self),
      State.foldl_putDomain_of_mem hop hp l _ hl (hp t d _ ht) hlater]
    refine congrArg (State.withDomains t) (congrArg Vector.ofFn (funext fun i => ?_))
    by_cases hi : i = d
    · subst hi
      rw [if_neg hd, State.putDomain_get, if_pos (List.mem_cons_self ..)]
    · rw [t.putDomain_get_ne _ hi]
      exact if_congr (by simp [hi]) rfl rfl

/-! ## The domains of a branch that leaves Isolated -/

/-- The Off domains of a branch requested with class B and their default lingers. -/
def State.offAsked (s : State) (b : Branch) : State :=
  s.withDomains (.ofFn fun d =>
    if s.domains[d].branch = some b ∧ s.domains[d].state = .off then
      { s.domains[d] with state := .queued, pending := s.domains[d].defaultLinger, pendingClass := .b }
    else s.domains[d])

theorem State.offAsked_domain (d : DomainIx) : (s.offAsked b).domains[d] =
    if s.domains[d].branch = some b ∧ s.domains[d].state = .off then
      { s.domains[d] with state := .queued, pending := s.domains[d].defaultLinger, pendingClass := .b }
    else s.domains[d] := ofFn_get _ d

theorem State.wakeGroup_off (hmode : s.branches[b].mode = .awake) :
    s.wakeGroup (allDomains.filter fun d => s.domains[d].branch = some b ∧ s.domains[d].state = .off) =
      (s.offAsked b).runArbiter := by
  have hfold := State.foldl_putDomain_of_mem
    (f := fun x => { x with state := .queued, pending := x.defaultLinger, pendingClass := .b })
    (op := fun t d => t.requestWake d .b t.domains[d].defaultLinger none) (p := fun t => t.branches[b].mode = .awake)
    (q := fun x => x.branch = some b ∧ x.state = .off)
    (fun t d ht hd => State.requestWake_off hd.2 (.inr ⟨hd.1, .inr (.inl ht)⟩)) (fun _ _ _ => id)
    (allDomains.filter fun d => s.domains[d].branch = some b ∧ s.domains[d].state = .off) s
    (allDomains_nodup.filter _) hmode fun d hd => of_decide_eq_true (List.mem_filter.1 hd).2
  rw [State.wakeGroup, hfold]
  refine congrArg (fun ds => (s.withDomains ds).runArbiter) (congrArg Vector.ofFn (funext fun d => ?_))
  exact if_congr (by simp [mem_allDomains]) rfl rfl

theorem State.offAsked_powerUpCount (s : State) (b : Branch) : (s.offAsked b).powerUpCount = s.powerUpCount :=
  State.powerUpCount_congr fun d => by
    rw [State.offAsked_domain]
    split
    · rename_i h
      rw [h.2]
      exact iff_of_false nofun nofun
    · exact Iff.rfl

theorem State.offAsked_of_none (h : ∀ d : DomainIx, s.domains[d].branch ≠ some b) : s.offAsked b = s := by
  refine congrArg (State.withDomains s) (eq_ofFn fun d => ?_).symm
  rw [if_neg fun hall => h d hall.1]

/-- What the requests to the Off domains of a branch come to outside Parked. -/
theorem State.offAsked_outcome (hmode : s.mode ≠ .parked) :
    { (s.offAsked b).runArbiter with
      domains := s.domains, lastGranted := s.lastGranted, flags := s.flags, reports := s.reports,
      reportsLost := s.reportsLost } = s
    ∧ (s.faultInputs = 0 → (s.offAsked b).runArbiter.flags = s.flags ∧ (s.offAsked b).runArbiter.reports = s.reports
        ∧ (s.offAsked b).runArbiter.reportsLost = s.reportsLost)
    ∧ ∀ d : DomainIx,
      if s.domains[d].branch = some b ∧ s.domains[d].state = .off then
        s.waitsOrGranted d
          { s.domains[d] with state := .queued, pending := s.domains[d].defaultLinger, pendingClass := .b }
          (s.offAsked b).runArbiter.domains[d]
      else if s.domains[d].state = .queued then s.waitsOrGranted d s.domains[d] (s.offAsked b).runArbiter.domains[d]
      else (s.offAsked b).runArbiter.domains[d] = s.domains[d] := by
  have hcount := s.offAsked_powerUpCount b
  have hdomain := fun d => s.offAsked_domain (b := b) d
  obtain ⟨ds, hds⟩ : ∃ ds, s.offAsked b = s.withDomains ds := ⟨_, rfl⟩
  rw [hds] at hcount hdomain ⊢
  refine ⟨?_, fun hpins => State.runArbiter_told (s := s.withDomains ds) hpins, fun d => ?_⟩
  · obtain ⟨ds', g, f, r, l, hrun⟩ := State.runArbiter_unparked (s := s.withDomains ds) hmode
    rw [hrun]
    rfl
  · have hwaits := State.runArbiter_waitsOrGranted (s := s) (u := s.withDomains ds)
      (fun h => by rw [hcount] at h; exact h) rfl d
    have hsame := State.runArbiter_domain_of_not_queued (s := s.withDomains ds) (d := d)
    rw [hdomain] at hwaits hsame
    split
    · rename_i h
      rw [if_pos h] at hwaits
      exact hwaits
    · rename_i h
      rw [if_neg h] at hwaits hsame
      split
      · exact hwaits
      · rename_i hqueued
        exact hsame hqueued

/-! ## The branch that leaves Isolated -/

/-- A branch whose isolation has ended and its port, before they go on (R130). -/
def State.unisolated (s : State) (b : Branch) : State :=
  (s.putBranch b { s.branches[b] with cause := .none, isolationTimer := none, chatterCount := 0 }).putPort (portOf b)
    { s.ports[portOf b] with discards := 0 }

theorem State.unisolated_eq : (s.modBranch b BranchState.released).modPort (portOf b) (fun ps => { ps with discards := 0 }) =
    s.unisolated b := rfl

theorem State.unisolated_branch (s : State) (b : Branch) : (s.unisolated b).branches[b] =
    { s.branches[b] with cause := .none, isolationTimer := none, chatterCount := 0 } := s.putBranch_get b _

theorem State.unisolated_port (s : State) (b : Branch) : (s.unisolated b).ports[portOf b] = { s.ports[portOf b] with discards := 0 } :=
  State.putPort_get (s.putBranch b _) (portOf b) _

/-- The count of the isolation timer does not matter to what follows it. -/
theorem State.leaveIsolated_due : (s.putBranch b { s.branches[b] with isolationTimer := some 0 }).leaveIsolated b =
    s.leaveIsolated b := by
  have hunisolated : (s.putBranch b { s.branches[b] with isolationTimer := some 0 }).unisolated b = s.unisolated b := by
    unfold State.unisolated
    rw [State.putBranch_get, State.putBranch_putBranch]
    rfl
  unfold State.leaveIsolated
  dsimp only
  rw [State.unisolated_eq, State.unisolated_eq, hunisolated]
  rfl

section
variable (hmode : s.branches[b].mode = .isolated)
include hmode

theorem State.unisolated_awake : (s.unisolated b).enterBranch b .awake = (s.unisolated b).putBranch b { s.branches[b] with
    cause := .none, isolationTimer := none, chatterCount := 0, mode := .awake, seen := true } := by
  rw [State.enterBranch, State.modBranch_eq_put, State.unisolated_branch]
  refine congrArg ((s.unisolated b).putBranch b) ?_
  unfold BranchState.enter
  dsimp only
  rw [hmode]
  simp

omit hmode in
theorem State.leaveIsolated_listen (hparked : s.mode = .parked) (hrest : s.branches[b].params.rest = .listen) :
    s.leaveIsolated b = (s.unisolated b).putBranch b { s.branches[b] with
      cause := .none, isolationTimer := none, chatterCount := 0, mode := .listen,
      windowTimer := some s.branches[b].params.chatterWindow } := by
  have hresting : ({ s.branches[b] with cause := .none, isolationTimer := none, chatterCount := 0 } :
      BranchState).resting true = { s.branches[b] with
        cause := .none, isolationTimer := none, chatterCount := 0, mode := .listen,
        windowTimer := some s.branches[b].params.chatterWindow } := by
    unfold BranchState.resting
    dsimp only
    rw [hrest]
    unfold BranchState.enter BranchState.freshWindow
    simp
  unfold State.leaveIsolated
  dsimp only
  rw [hparked, State.unisolated_eq]
  dsimp only
  rw [(s.unisolated b).goRest_eq_put (by exact hparked), State.unisolated_branch, hresting, State.unisolated_port]
  dsimp only
  rw [hrest]
  refine (congrArg (State.putPort _ (portOf b)) ?_).trans (State.putPort_self _ (portOf b))
  exact (s.unisolated_port b).symm

theorem State.leaveIsolated_off (hparked : s.mode = .parked) (hrest : s.branches[b].params.rest = .off) :
    s.leaveIsolated b = ((s.unisolated b).putBranch b { s.branches[b] with
      cause := .none, isolationTimer := none, chatterCount := 0, mode := .off }).putPort (portOf b)
        { s.ports[portOf b] with landing := [], overrun := false, discards := 0 } := by
  have hresting : ({ s.branches[b] with cause := .none, isolationTimer := none, chatterCount := 0 } :
      BranchState).resting true = { s.branches[b] with
        cause := .none, isolationTimer := none, chatterCount := 0, mode := .off } := by
    unfold BranchState.resting
    dsimp only
    rw [hrest]
    unfold BranchState.enter
    dsimp only
    rw [hmode]
    simp
  unfold State.leaveIsolated
  dsimp only
  rw [hparked, State.unisolated_eq]
  dsimp only
  rw [(s.unisolated b).goRest_eq_put (by exact hparked), State.unisolated_branch, hresting, State.unisolated_port]
  dsimp only
  rw [hrest]
  rfl

/-- Outside Parked and Fallback the branch is Awake, and its Off domains are requested (R11). -/
theorem State.leaveIsolated_awake (h : s.mode = .unconfigured ∨ s.mode = .drive) :
    s.leaveIsolated b = (((s.unisolated b).putBranch b { s.branches[b] with
      cause := .none, isolationTimer := none, chatterCount := 0, mode := .awake, seen := true }).offAsked b).runArbiter := by
  have hwake := State.wakeGroup_off (s := (s.unisolated b).putBranch b { s.branches[b] with
    cause := .none, isolationTimer := none, chatterCount := 0, mode := .awake, seen := true }) (b := b)
    (congrArg BranchState.mode ((s.unisolated b).putBranch_get b _))
  rw [← State.unisolated_awake hmode] at hwake ⊢
  rw [← hwake]
  unfold State.leaveIsolated
  dsimp only
  rw [State.unisolated_eq]
  rcases h with h | h <;> rw [h] <;> rfl

end

theorem exec_isolationTimerExpiry_due (hmode : s.branches[b].mode = .isolated) :
    exec (.isolationTimerExpiry b) (s.putBranch b { s.branches[b] with isolationTimer := some 0 }) =
      .next (s.leaveIsolated b) := by
  have hdue : (s.putBranch b { s.branches[b] with isolationTimer := some 0 }).isolationDue b = true := by
    unfold State.isolationDue
    rw [State.putBranch_get]
    dsimp only
    rw [hmode]
    rfl
  rw [← State.leaveIsolated_due]
  exact congrArg Host.Outcome.next (if_pos hdue)

/-- Release Port acts on the port of its index (R131). -/
theorem actReleasePort_of_index {p : Port} {i : Byte} {more : List Byte} (hi : i.toNat = p.val) :
    actReleasePort (i :: more) s = match branchOf p with
      | none => .error .wrongState
      | some b => if s.branches[b].mode = .isolated then .ok (s.leaveIsolated b, []) else .error .wrongState := by
  show (need .badIndex (index? 7 i.toNat) >>= _) = _
  rw [index?_of_eq hi]
  rfl

theorem byte_port_toNat : ∀ p : Port, (byte p.val).toNat = p.val := by decide

theorem actReleasePort_portOf {more : List Byte} : actReleasePort (byte (portOf b).val :: more) s =
    if s.branches[b].mode = .isolated then .ok (s.leaveIsolated b, []) else .error .wrongState := by
  rw [actReleasePort_of_index (byte_port_toNat (portOf b)), branchOf_portOf]

/-- Settles O46: the branch goes to rest or Awake, and Release Port does the same. -/
theorem isolationEnds : Obligations.IsolationEnds := by
  intro s b p tag i more rest hp
  subst hp
  dsimp only
  refine ⟨fun hparked hmode hrest => ?_, fun hparked hmode hrest => ?_, fun hmode hisolated hidle hnone => ?_,
    fun hmode hisolated => ?_, fun hmode hturn hisolated => ?_, fun hmode hturn hopen => ?_, fun hmode hturn => ?_,
    fun hmode hturn hi => ?_⟩
  · rw [exec_isolationTimerExpiry_due hmode, State.leaveIsolated_listen hparked hrest]
    rfl
  · rw [exec_isolationTimerExpiry_due hmode, State.leaveIsolated_off hmode hparked hrest]
    rfl
  · rw [exec_isolationTimerExpiry_due hisolated, State.leaveIsolated_awake hisolated hmode]
    obtain ⟨u, hu⟩ : ∃ u, (s.unisolated b).putBranch b { s.branches[b] with
      cause := .none, isolationTimer := none, chatterCount := 0, mode := .awake, seen := true } = u := ⟨_, rfl⟩
    have hidle' : u.arbiterIdle := by
      rw [← hu]
      exact hidle
    have hnone' : ∀ d : DomainIx, u.domains[d].branch ≠ some b := by
      rw [← hu]
      exact hnone
    rw [hu, State.offAsked_of_none hnone', State.runArbiter_of_idle hidle', ← hu]
    rfl
  · obtain ⟨u, hu⟩ : ∃ u, (s.unisolated b).putBranch b { s.branches[b] with
      cause := .none, isolationTimer := none, chatterCount := 0, mode := .awake, seen := true } = u := ⟨_, rfl⟩
    have hexec := (exec_isolationTimerExpiry_due hisolated).trans
      (congrArg Host.Outcome.next (State.leaveIsolated_awake hisolated hmode))
    rw [hu] at hexec
    have hunparked : u.mode ≠ .parked := by
      rw [← hu]
      exact fun h => by rcases hmode with hm | hm <;> exact nomatch hm.symm.trans h
    obtain ⟨hframe, htold, hdomains⟩ := State.offAsked_outcome (b := b) hunparked
    refine ⟨(u.offAsked b).runArbiter, hexec, ?_, ?_, ?_⟩
    · rw [← hu] at hframe ⊢
      exact hframe
    · rw [← hu] at htold ⊢
      exact htold
    · rw [← hu] at hdomains ⊢
      exact hdomains
  · refine ⟨_, exec_isolationTimerExpiry_due hisolated, ?_⟩
    have hkept := congrArg State.requests (s.leaveIsolated_held b)
    exact congrArg Host.Outcome.next (hturn.execute_of_accepted (row := .releasePort) (nargs := 1) rfl (by simp)
      ((anyMode_iff _).2 hmode) (actReleasePort_portOf.trans (if_pos hisolated)) hkept)
  · exact congrArg Host.Outcome.next (hturn.execute_of_refused (row := .releasePort) (nargs := 1) (r := .wrongState) rfl
      (by simp) ((anyMode_iff _).2 hmode) (actReleasePort_portOf.trans (if_neg hopen)))
  · exact congrArg Host.Outcome.next (hturn.execute_of_refused (row := .releasePort) (nargs := 1) (r := .wrongState) rfl
      (by simp) ((anyMode_iff _).2 hmode) (actReleasePort_of_index (p := trunkPort) rfl))
  · have hact : actReleasePort (i :: more) s = .error .badIndex := by
      show (need .badIndex (index? 7 i.toNat) >>= _) = _
      rw [index?_of_ge hi]
      rfl
    exact congrArg Host.Outcome.next (hturn.execute_of_refused (row := .releasePort) (nargs := 1) rfl (by simp)
      ((anyMode_iff _).2 hmode) hact)

end Sys2Proof.Machine
end

section
/-! What Park makes of a branch, and of all of them (section 1.4). -/

namespace Sys2Proof.Machine

variable {s : State} {b c : Branch} {d : DomainIx}

/-- The state with other records of branches, ports and domains and another count of free buffers. -/
def State.withLanes (s : State) (ps : Vector PortState 7) (bs : Vector BranchState 6) (ds : Vector Domain 16) (n : Nat) :
    State :=
  { s with ports := ps, branches := bs, domains := ds, freeBuffers := n }

/-! ## One branch -/

/-- A return to rest on the records of the branch and its port, from any state of the branch. -/
theorem State.returnToRest_eq_put (hparked : s.mode = .parked) : s.returnToRest b =
    s.withLanes (s.ports.set (portOf b) (s.ports[portOf b].rested s.branches[b].params.rest))
      (s.branches.set b (({ s.branches[b] with drainTimer := none, closing := false } : BranchState).resting true)) s.domains
      (s.freeBuffers + idleFrames (s.ports[portOf b].queue.filter fun i => !i.held)) := by
  have hrest : ∀ (n : Nat) (x : BranchState) (y : PortState),
      ({ (s.putBranch b x).putPort (portOf b) y with freeBuffers := n } : State).goRest b =
        s.withLanes (s.ports.set (portOf b) (y.resting x.params.rest)) (s.branches.set b (x.resting true)) s.domains n := by
    intro n x y
    have hbranch : ({ (s.putBranch b x).putPort (portOf b) y with freeBuffers := n } : State).branches[b] = x :=
      s.putBranch_get b x
    have hport : ({ (s.putBranch b x).putPort (portOf b) y with freeBuffers := n } : State).ports[portOf b] = y :=
      (s.putBranch b x).putPort_get (portOf b) y
    rw [State.goRest_eq_put _ (by exact hparked), hbranch, hport]
    simp only [State.putBranch, State.putPort, Vector.set_set]
    rfl
  rw [State.returnToRest, State.purgeStop_eq_put]
  refine (hrest _ _ _).trans ?_
  rw [PortState.resting_eq_rested]

/-- A branch whose marker is withdrawn. -/
def BranchState.woken (x : BranchState) : BranchState :=
  if x.mode = .draining then { x with mode := .awake, drainTimer := none, closing := false } else x

/-- A port whose branch's marker is withdrawn. -/
def PortState.unmarked (y : PortState) (m : BranchMode) : PortState :=
  if m = .draining then { y with queue := y.queue.filter QueueItem.isFrame } else y

/-- The domains once the marker of a branch is withdrawn (R111). -/
def State.revivedOf (s : State) (b : Branch) : Vector Domain 16 :=
  .ofFn fun i =>
    if s.branches[b].mode = .draining ∧ s.domains[i].branch = some b ∧ s.domains[i].state = .releasing then
      { s.domains[i] with state := .on, remaining := s.cappedAt s.domains[i].defaultLinger }
    else s.domains[i]

theorem State.withdrawMarker_lanes (s : State) (b : Branch) : s.withdrawMarker b =
    s.withLanes (s.ports.set (portOf b) (s.ports[portOf b].unmarked s.branches[b].mode))
      (s.branches.set b s.branches[b].woken) (s.revivedOf b) s.freeBuffers := by
  unfold PortState.unmarked BranchState.woken State.revivedOf
  by_cases h : s.branches[b].mode = .draining
  · rw [State.withdrawMarker_eq_put h, if_pos h, if_pos h]
    refine congrArg (fun ds => s.withLanes _ _ ds s.freeBuffers) (congrArg Vector.ofFn (funext fun i => ?_))
    exact if_congr (by simp only [h, true_and]) rfl rfl
  · rw [s.withdrawMarker_eq_self h, if_neg h, if_neg h, set_get_same, set_get_same]
    have hdomains : s.domains = .ofFn fun i =>
        if s.branches[b].mode = .draining ∧ s.domains[i].branch = some b ∧ s.domains[i].state = .releasing then
          { s.domains[i] with state := .on, remaining := s.cappedAt s.domains[i].defaultLinger }
        else s.domains[i] := eq_ofFn fun i => (if_neg fun hall => h hall.1).symm
    exact congrArg (fun ds => s.withLanes s.ports s.branches ds s.freeBuffers) hdomains

/-- Park sends the branch to rest. -/
def State.settlesAt (s : State) (b : Branch) : Bool :=
  s.branches[b].mode != .isolated && !s.anyDomainOf b DomainState.active
    && s.branches[b].mode != s.branches[b].params.rest.mode

/-- Park wakes the branch. -/
def State.wakesAt (s : State) (b : Branch) : Bool :=
  s.branches[b].mode != .isolated && (s.anyDomainOf b DomainState.waiting || s.anyDomainOf b (· == .on))

/-- A branch record after Park. -/
def State.parkedBranch (s : State) (b : Branch) : BranchState :=
  if s.wakesAt b then s.branches[b].woken.enter (if s.anyDomainOf b DomainState.waiting then .waking else .awake)
  else if s.settlesAt b then ({ s.branches[b] with drainTimer := none, closing := false } : BranchState).resting true
  else s.branches[b]

/-- A branch's port after Park. -/
def State.parkedPort (s : State) (b : Branch) : PortState :=
  if s.wakesAt b then s.ports[portOf b].unmarked s.branches[b].mode
  else if s.settlesAt b then s.ports[portOf b].rested s.branches[b].params.rest
  else s.ports[portOf b]

/-- The buffers that Park frees at a branch. -/
def State.parkFreed (s : State) (b : Branch) : Nat :=
  if s.settlesAt b then idleFrames (s.ports[portOf b].queue.filter fun i => !i.held) else 0

/-- The domains after Park has brought a branch into line. -/
def State.parkedDomains (s : State) (b : Branch) : Vector Domain 16 := if s.wakesAt b then s.revivedOf b else s.domains

theorem State.anyDomainOf_active (s : State) (b : Branch) : s.anyDomainOf b DomainState.active =
    (s.anyDomainOf b DomainState.waiting || s.anyDomainOf b (· == .on) || s.anyDomainOf b (· == .releasing)) := by
  have hstate : ∀ k : DomainState, k.active = true ↔ (k.waiting = true ∨ (k == .on) = true) ∨ (k == .releasing) = true := by
    intro k
    cases k <;> decide
  rw [Bool.eq_iff_iff]
  simp only [Bool.or_eq_true, State.anyDomainOf_iff, hstate, and_or_left, exists_or]

theorem State.wakesAt_iff : s.wakesAt b = true ↔ s.branches[b].mode ≠ .isolated ∧
    (s.anyDomainOf b DomainState.waiting = true ∨ s.anyDomainOf b (· == .on) = true) := by
  unfold State.wakesAt
  rw [Bool.and_eq_true, bne_iff_ne, Bool.or_eq_true]

theorem State.settlesAt_iff : s.settlesAt b = true ↔ s.branches[b].mode ≠ .isolated
    ∧ s.anyDomainOf b DomainState.active = false ∧ s.branches[b].mode ≠ s.branches[b].params.rest.mode := by
  unfold State.settlesAt
  rw [Bool.and_eq_true, Bool.and_eq_true, bne_iff_ne, bne_iff_ne, Bool.not_eq_true', and_assoc]

theorem State.settlesAt_of_wakesAt (h : s.wakesAt b = true) : s.settlesAt b = false := by
  refine Bool.eq_false_iff.2 fun hsettles => ?_
  obtain ⟨-, hactive, -⟩ := State.settlesAt_iff.1 hsettles
  obtain ⟨-, hkept⟩ := State.wakesAt_iff.1 h
  rw [State.anyDomainOf_active, Bool.or_eq_false_iff, Bool.or_eq_false_iff] at hactive
  rcases hkept with hwaiting | hon
  · rw [hactive.1.1] at hwaiting
    cases hwaiting
  · rw [hactive.1.2] at hon
    cases hon

/-- Park withdraws the marker of a branch that it wakes. -/
theorem State.parkBranch_wakes (h : s.wakesAt b = true) : s.parkBranch b = (s.withdrawMarker b).enterBranch b
    (if s.anyDomainOf b DomainState.waiting then .waking else .awake) := by
  obtain ⟨hne, hkept⟩ := State.wakesAt_iff.1 h
  unfold State.parkBranch
  rw [if_neg hne]
  by_cases hwaiting : s.anyDomainOf b DomainState.waiting = true
  · rw [if_pos hwaiting, if_pos hwaiting]
  · rw [if_neg hwaiting, if_neg hwaiting, if_pos (hkept.resolve_left hwaiting)]

theorem State.parkBranch_settles (h : s.settlesAt b = true) : s.parkBranch b = s.returnToRest b := by
  obtain ⟨hne, hactive, hrest⟩ := State.settlesAt_iff.1 h
  rw [State.anyDomainOf_active, Bool.or_eq_false_iff, Bool.or_eq_false_iff] at hactive
  obtain ⟨⟨hwaiting, hon⟩, hreleasing⟩ := hactive
  unfold State.parkBranch
  rw [if_neg hne, hwaiting, hon, hreleasing, if_neg Bool.false_ne_true, if_neg Bool.false_ne_true,
    if_neg Bool.false_ne_true, if_neg hrest]

theorem State.parkBranch_stays (hwakes : s.wakesAt b = false) (hsettles : s.settlesAt b = false) : s.parkBranch b = s := by
  have hkept := mt State.wakesAt_iff.2 (Bool.eq_false_iff.1 hwakes)
  have hrests := mt State.settlesAt_iff.2 (Bool.eq_false_iff.1 hsettles)
  unfold State.parkBranch
  by_cases hisolated : s.branches[b].mode = .isolated
  · rw [if_pos hisolated]
  · have hnone := not_or.1 (not_and.1 hkept hisolated)
    rw [if_neg hisolated, if_neg hnone.1, if_neg hnone.2]
    split
    · rfl
    · rename_i hreleasing
      refine if_pos (by_contra fun hrest => hrests ⟨hisolated, ?_, hrest⟩)
      rw [State.anyDomainOf_active, Bool.eq_false_iff.2 hnone.1, Bool.eq_false_iff.2 hnone.2, Bool.eq_false_iff.2 hreleasing]
      rfl

theorem State.withdrawMarker_enterBranch (m : BranchMode) : (s.withdrawMarker b).enterBranch b m =
    s.withLanes (s.ports.set (portOf b) (s.ports[portOf b].unmarked s.branches[b].mode))
      (s.branches.set b (s.branches[b].woken.enter m)) (s.revivedOf b) s.freeBuffers := by
  rw [State.withdrawMarker_lanes, State.enterBranch, State.modBranch_eq_put]
  have hget : (s.withLanes (s.ports.set (portOf b) (s.ports[portOf b].unmarked s.branches[b].mode))
    (s.branches.set b s.branches[b].woken) (s.revivedOf b) s.freeBuffers).branches[b] = s.branches[b].woken :=
    s.putBranch_get b _
  rw [hget]
  refine congrArg (fun bs => s.withLanes _ bs (s.revivedOf b) s.freeBuffers) ?_
  exact Vector.set_set ..

/-- Park at one branch, on the records it replaces (R8). -/
theorem State.parkBranch_eq_put (hparked : s.mode = .parked) : s.parkBranch b =
    s.withLanes (s.ports.set (portOf b) (s.parkedPort b)) (s.branches.set b (s.parkedBranch b)) (s.parkedDomains b)
      (s.freeBuffers + s.parkFreed b) := by
  unfold State.parkedPort State.parkedBranch State.parkedDomains State.parkFreed
  cases hwakes : s.wakesAt b with
  | true =>
    rw [State.settlesAt_of_wakesAt hwakes, State.parkBranch_wakes hwakes, State.withdrawMarker_enterBranch]
    rfl
  | false =>
    cases hsettles : s.settlesAt b with
    | true =>
      rw [State.parkBranch_settles hsettles, State.returnToRest_eq_put hparked]
      rfl
    | false =>
      rw [State.parkBranch_stays hwakes hsettles]
      simp only [Bool.false_eq_true, if_false, set_get_same]
      rfl

end Sys2Proof.Machine
end

section
/-! Settling the statement about Park (section 1.4): the branches are brought into line one by one, and no branch looks
at what another one changes. -/

namespace Sys2Proof.Machine

variable {s : State} {b c : Branch} {d : DomainIx}

/-! ## What Park at one branch leaves of another -/

theorem State.revivedOf_domain (i : DomainIx) : (s.revivedOf b)[i] =
    if s.branches[b].mode = .draining ∧ s.domains[i].branch = some b ∧ s.domains[i].state = .releasing then
      { s.domains[i] with state := .on, remaining := s.cappedAt s.domains[i].defaultLinger }
    else s.domains[i] := ofFn_get _ i

theorem State.parkedDomains_branch (i : DomainIx) : (s.parkedDomains c)[i].branch = s.domains[i].branch := by
  unfold State.parkedDomains
  split
  · rw [State.revivedOf_domain]
    split <;> rfl
  · rfl

/-- A branch that is not a Draining one that Park wakes revives none of its domains. -/
theorem State.parkedDomains_of_not (i : DomainIx)
    (h : s.domains[i].branch = some c → ¬ (s.branches[c].mode = .draining ∧ s.wakesAt c = true)) :
    (s.parkedDomains c)[i] = s.domains[i] := by
  unfold State.parkedDomains
  split
  · rename_i hwakes
    rw [State.revivedOf_domain, if_neg fun hall => h hall.2.1 ⟨hall.1, hwakes⟩]
  · rfl

section
variable (hparked : s.mode = .parked)
include hparked

theorem State.parkBranch_domains (i : DomainIx) : (s.parkBranch c).domains[i] = (s.parkedDomains c)[i] := by
  rw [State.parkBranch_eq_put hparked]
  rfl

theorem State.parkBranch_branch_ne (h : b ≠ c) : (s.parkBranch c).branches[b] = s.branches[b] := by
  rw [State.parkBranch_eq_put hparked]
  exact s.putBranch_get_ne _ h

theorem State.parkBranch_port_ne {p : Port} (h : p ≠ portOf c) : (s.parkBranch c).ports[p] = s.ports[p] := by
  rw [State.parkBranch_eq_put hparked]
  exact s.putPort_get_ne _ h

theorem State.parkBranch_branch : (s.parkBranch c).branches[c] = s.parkedBranch c := by
  rw [State.parkBranch_eq_put hparked]
  exact s.putBranch_get c _

theorem State.parkBranch_port : (s.parkBranch c).ports[portOf c] = s.parkedPort c := by
  rw [State.parkBranch_eq_put hparked]
  exact s.putPort_get (portOf c) _

theorem State.parkBranch_anyDomainOf (h : b ≠ c) (k : DomainState → Bool) :
    (s.parkBranch c).anyDomainOf b k = s.anyDomainOf b k := by
  rw [Bool.eq_iff_iff, State.anyDomainOf_iff, State.anyDomainOf_iff]
  refine exists_congr fun i => ?_
  rw [State.parkBranch_domains hparked]
  by_cases hi : s.domains[i].branch = some b
  · rw [State.parkedDomains_of_not i fun hc => absurd (Option.some.inj (hi.symm.trans hc)) h]
  · rw [State.parkedDomains_branch]
    exact iff_of_false (fun hall => hi hall.1) fun hall => hi hall.1

theorem State.parkBranch_wakesAt (h : b ≠ c) : (s.parkBranch c).wakesAt b = s.wakesAt b := by
  unfold State.wakesAt
  rw [State.parkBranch_branch_ne hparked h, State.parkBranch_anyDomainOf hparked h, State.parkBranch_anyDomainOf hparked h]

theorem State.parkBranch_settlesAt (h : b ≠ c) : (s.parkBranch c).settlesAt b = s.settlesAt b := by
  unfold State.settlesAt
  rw [State.parkBranch_branch_ne hparked h, State.parkBranch_anyDomainOf hparked h]

theorem State.parkBranch_parkedBranch (h : b ≠ c) : (s.parkBranch c).parkedBranch b = s.parkedBranch b := by
  unfold State.parkedBranch
  rw [State.parkBranch_wakesAt hparked h, State.parkBranch_settlesAt hparked h, State.parkBranch_branch_ne hparked h,
    State.parkBranch_anyDomainOf hparked h]

theorem State.parkBranch_parkedPort (h : b ≠ c) : (s.parkBranch c).parkedPort b = s.parkedPort b := by
  unfold State.parkedPort
  rw [State.parkBranch_wakesAt hparked h, State.parkBranch_settlesAt hparked h, State.parkBranch_branch_ne hparked h,
    State.parkBranch_port_ne hparked fun e => h (portOf_injective e)]

theorem State.parkBranch_parkFreed (h : b ≠ c) : (s.parkBranch c).parkFreed b = s.parkFreed b := by
  unfold State.parkFreed
  rw [State.parkBranch_settlesAt hparked h, State.parkBranch_port_ne hparked fun e => h (portOf_injective e)]

end

/-! ## All branches -/

/-- What Park at the branches of a list leaves. -/
structure State.ParkedAt (s : State) (l : List Branch) (t : State) : Prop where
  frame : ∃ ps bs ds n, t = s.withLanes ps bs ds n
  branch : ∀ b : Branch, t.branches[b] = if b ∈ l then s.parkedBranch b else s.branches[b]
  port : ∀ b : Branch, t.ports[portOf b] = if b ∈ l then s.parkedPort b else s.ports[portOf b]
  trunk : t.ports[trunkPort] = s.ports[trunkPort]
  domain : ∀ d : DomainIx,
    (∀ b ∈ l, s.domains[d].branch = some b → ¬ (s.branches[b].mode = .draining ∧ s.wakesAt b = true)) →
      t.domains[d] = s.domains[d]
  freed : t.freeBuffers = s.freeBuffers + (l.map s.parkFreed).sum

theorem State.ParkedAt.foldl : ∀ (l : List Branch) {s : State}, s.mode = .parked → l.Nodup →
    s.ParkedAt l (l.foldl State.parkBranch s)
  | [], s, _, _ => ⟨⟨s.ports, s.branches, s.domains, s.freeBuffers, rfl⟩, fun _ => rfl, fun _ => rfl, rfl, fun _ _ => rfl, rfl⟩
  | c :: l, s, hparked, hnodup => by
    obtain ⟨hc, hl⟩ := List.nodup_cons.1 hnodup
    have hput := State.parkBranch_eq_put (b := c) hparked
    have hparked' : (s.parkBranch c).mode = .parked := by rw [hput]; exact hparked
    have hlater := State.ParkedAt.foldl l hparked' hl
    rw [List.foldl_cons]
    refine ⟨?_, fun b => ?_, fun b => ?_, ?_, fun d hd => ?_, ?_⟩
    · obtain ⟨ps, bs, ds, n, h⟩ := hlater.frame
      refine ⟨ps, bs, ds, n, h.trans ?_⟩
      rw [hput]
      rfl
    · rw [hlater.branch]
      by_cases hb : b = c
      · subst hb
        rw [if_neg hc, if_pos List.mem_cons_self, State.parkBranch_branch hparked]
      · rw [State.parkBranch_parkedBranch hparked hb, State.parkBranch_branch_ne hparked hb]
        exact if_congr (by simp [hb]) rfl rfl
    · rw [hlater.port]
      by_cases hb : b = c
      · subst hb
        rw [if_neg hc, if_pos List.mem_cons_self, State.parkBranch_port hparked]
      · rw [State.parkBranch_parkedPort hparked hb, State.parkBranch_port_ne hparked fun e => hb (portOf_injective e)]
        exact if_congr (by simp [hb]) rfl rfl
    · rw [hlater.trunk, State.parkBranch_port_ne hparked (portOf_ne_trunkPort c).symm]
    · have hsame : (s.parkBranch c).domains[d] = s.domains[d] := by
        rw [State.parkBranch_domains hparked, State.parkedDomains_of_not d (hd c List.mem_cons_self)]
      refine (hlater.domain d fun b hmem hb => ?_).trans hsame
      have hbc : b ≠ c := ne_of_mem_of_not_mem hmem hc
      rw [hsame] at hb
      rw [State.parkBranch_branch_ne hparked hbc, State.parkBranch_wakesAt hparked hbc]
      exact hd b (List.mem_cons_of_mem _ hmem) hb
    · have hfreed : (l.map (s.parkBranch c).parkFreed) = l.map s.parkFreed := List.map_congr_left fun b hb =>
        State.parkBranch_parkFreed hparked (ne_of_mem_of_not_mem hb hc)
      have hone : (s.parkBranch c).freeBuffers = s.freeBuffers + s.parkFreed c := by rw [hput]; rfl
      rw [hlater.freed, hfreed, hone, List.map_cons, List.sum_cons, Nat.add_assoc]

end Sys2Proof.Machine
end

section
/-! Settling the statement about Park (section 1.4): the restarted account, the loaded lingers, and every branch. -/

namespace Sys2Proof.Machine

variable {s : State} {b : Branch} {d : DomainIx}

/-! ## The account and the lingers -/

/-- A domain as the cap order leaves it (R110). -/
def Domain.levelled (x : Domain) (lcap : Nat) : Domain :=
  match x.state with
  | .on => { x with remaining := min x.remaining lcap }
  | .queued | .powerUp => { x with pending := min x.pending lcap }
  | .off | .releasing | .fault => x

/-- What is told of a level, by its frame and by what the cap order does to a domain. -/
theorem State.levelTold_frame (s : State) (was : Account) : ∃ ds f r l,
    s.levelTold was = s.withTold ds s.lastGranted f r l
      ∧ ∀ d : DomainIx, ds[d] = s.domains[d] ∨ ds[d] = s.domains[d].levelled s.budget.lcap := by
  unfold State.levelTold
  dsimp only
  obtain ⟨u, hu⟩ : ∃ u, (if s.account.override = true ∧ was.override = false then
    s.raise .batteryLow none s.account.vb 0 else s) = u := ⟨_, rfl⟩
  rw [hu]
  obtain ⟨f, r, l, hlow⟩ : ∃ f r l, u = s.withTold s.domains s.lastGranted f r l := by
    rw [← hu]
    split
    · exact s.raise_told _ _ _ _
    · exact ⟨s.flags, s.reports, s.reportsLost, rfl⟩
  obtain ⟨f', r', l', htold⟩ := u.raise_told .levelChanged none was.effective.code s.account.effective.code
  have htold' : u.raise .levelChanged none was.effective.code s.account.effective.code =
      s.withTold s.domains s.lastGranted f' r' l' := by
    rw [htold, hlow]
    rfl
  split
  · exact ⟨_, f, r, l, hlow, fun _ => .inl rfl⟩
  · rw [htold']
    split
    · exact ⟨.ofFn fun i => s.domains[i].levelled s.budget.lcap, f', r', l', rfl, fun d => .inr (ofFn_get _ d)⟩
    · exact ⟨_, f', r', l', rfl, fun _ => .inl rfl⟩

/-- A domain as Park loads it (R8). -/
def Domain.loadedWith (x : Domain) (n : Nat) : Domain :=
  match x.state with
  | .on => { x with remaining := n }
  | .queued | .powerUp => { x with pending := n }
  | .off | .releasing | .fault => x

theorem Domain.parked_eq (x : Domain) (n : Nat) : x.parked n = x.loadedWith n := by
  unfold Domain.parked Domain.loadedWith
  cases x.state <;> rfl

theorem Domain.levelled_loadedWith (x : Domain) (lcap n : Nat) : (x.levelled lcap).loadedWith n = x.loadedWith n := by
  cases x with
  | mk _ _ _ _ state => cases state <;> rfl

theorem Domain.levelled_defaultLinger (x : Domain) (lcap : Nat) : (x.levelled lcap).defaultLinger = x.defaultLinger := by
  unfold Domain.levelled
  cases x.state <;> rfl

theorem Domain.loadedWith_state (x : Domain) (n : Nat) : (x.loadedWith n).state = x.state ∧ (x.loadedWith n).branch = x.branch := by
  cases x with
  | mk _ _ _ _ state => cases state <;> exact ⟨rfl, rfl⟩

/-- The state that Park tells the level from. -/
def State.restarted (s : State) : State :=
  { s with
    parkClock := 0
    account := ({ s.account with
      consumed := 0, carry := 0, davg := 16 * s.budget.ibase, saturated := false, timer := 250 } : Account).recomputed
        s.budget }

/-- The linger that Park loads (R8). -/
def State.parkLinger (s : State) (d : DomainIx) : Nat :=
  if s.restarted.account.effective = .red ∨ s.restarted.account.effective = .exhausted then
    min s.domains[d].defaultLinger s.budget.lcap
  else s.domains[d].defaultLinger

theorem State.parkStarted_eq : s.parkStarted = { s.restarted.levelTold s.account with
    mode := .parked
    schedule := .ofFn fun e => if s.schedule[e].enabled then { s.schedule[e] with countdown := s.schedule[e].firstDelay }
      else s.schedule[e] } := by
  have hrecompute : ({ s with account := s.account.restarted s.budget, parkClock := 0 } : State).recompute =
      s.restarted.levelTold s.account := by
    rw [State.recompute_eq, State.levelTold_congr (b := s.account) rfl rfl]
    rfl
  obtain ⟨ds, f, r, l, htold, -⟩ := s.restarted.levelTold_frame s.account
  unfold State.parkStarted
  dsimp only
  rw [hrecompute, htold]
  rfl

/-- Park before its branches: the told level, the mode, the countdowns, and the lingers (R7, R8). -/
theorem State.parkLoaded_frame : s.parkLoaded = { s.restarted.levelTold s.account with
    mode := .parked
    schedule := .ofFn fun e => if s.schedule[e].enabled then { s.schedule[e] with countdown := s.schedule[e].firstDelay }
      else s.schedule[e]
    domains := .ofFn fun d => s.domains[d].loadedWith (s.parkLinger d) } := by
  obtain ⟨ds, f, r, l, htold, hdomains⟩ := s.restarted.levelTold_frame s.account
  rw [State.parkLoaded, State.parkStarted_eq, htold]
  refine congrArg (State.withDomains _) (congrArg Vector.ofFn (funext fun d => ?_))
  show ds[d].parked (capLinger s.restarted.account.effective s.budget.lcap ds[d].defaultLinger) = _
  have hlinger : capLinger s.restarted.account.effective s.budget.lcap ds[d].defaultLinger = s.parkLinger d := by
    have hdefault : ds[d].defaultLinger = s.domains[d].defaultLinger := by
      rcases hdomains d with h | h
      · rw [h]
        rfl
      · rw [h]
        exact Domain.levelled_defaultLinger _ _
    rw [hdefault]
    exact if_congr (Level.capping_iff _) rfl rfl
  rw [hlinger, Domain.parked_eq]
  rcases hdomains d with h | h
  · rw [h]
    rfl
  · rw [h]
    exact Domain.levelled_loadedWith _ _ _

end Sys2Proof.Machine
end

section
/-! Settling the statement about Park (section 1.4): the whole state. -/

namespace Sys2Proof.Machine

variable {s : State} {b : Branch} {d : DomainIx}

/-! ## The records of a branch after Park -/

/-- A branch record that Park wakes, other than from Draining. -/
def BranchState.wokenTo (x : BranchState) (m : BranchMode) (seen : Bool) : BranchState :=
  { x with
    mode := m, seen := seen
    chatterCount := if x.mode = .listen then 0 else x.chatterCount
    windowTimer := if x.mode = .listen then none else x.windowTimer }

section
variable {x : BranchState} (hdraining : x.mode ≠ .draining)
include hdraining

theorem BranchState.woken_waking : x.woken.enter .waking = x.wokenTo .waking (x.seen || x.mode != .waking) := by
  unfold BranchState.woken BranchState.wokenTo BranchState.enter
  rw [if_neg hdraining]
  simp

theorem BranchState.woken_awake (hisolated : x.mode ≠ .isolated) :
    x.woken.enter .awake = x.wokenTo .awake (x.seen || x.mode.atRest) := by
  have hmarks : (x.mode != .waking && x.mode != .draining && x.mode != .awake) = x.mode.atRest := by
    cases h : x.mode with
    | draining => exact absurd h hdraining
    | isolated => exact absurd h hisolated
    | off | listen | waking | awake => rfl
  unfold BranchState.woken BranchState.wokenTo BranchState.enter
  rw [if_neg hdraining]
  dsimp only
  rw [hmarks]
  simp

end

/-- A branch that goes to rest, from Listen too. -/
theorem BranchState.resting_eq {x : BranchState} (hrest : x.mode ≠ x.params.rest.mode) :
    ({ x with drainTimer := none, closing := false } : BranchState).resting true =
      if x.mode = .listen then { x.rested with chatterCount := 0, windowTimer := none } else x.rested := by
  split
  · rename_i hlisten
    have hoff : x.params.rest = .off := by
      cases h : x.params.rest with
      | off => rfl
      | listen =>
        rw [hlisten, h] at hrest
        exact absurd rfl hrest
    unfold BranchState.resting BranchState.rested
    dsimp only
    rw [hoff]
    unfold BranchState.enter
    dsimp only
    rw [hlisten]
    simp
  · rename_i hlisten
    exact x.resting_eq_rested hlisten

theorem BranchState.rested_mode (x : BranchState) : x.rested.mode = x.params.rest.mode := by
  unfold BranchState.rested
  cases x.params.rest <;> rfl

theorem allBranches_complete : ∀ b : Branch, b ∈ allBranches := by decide

theorem allBranches_distinct : allBranches.Nodup := by decide

/-! ## The loaded state -/

theorem State.parkLoaded_records : s.parkLoaded.branches = s.branches ∧ s.parkLoaded.ports = s.ports
    ∧ s.parkLoaded.freeBuffers = s.freeBuffers ∧ s.parkLoaded.mode = .parked
    ∧ ∀ d : DomainIx, s.parkLoaded.domains[d] = s.domains[d].loadedWith (s.parkLinger d) := by
  obtain ⟨ds, f, r, l, htold, -⟩ := s.restarted.levelTold_frame s.account
  rw [State.parkLoaded_frame, htold]
  exact ⟨rfl, rfl, rfl, rfl, fun d => ofFn_get _ d⟩

/-- Some domain of the branch is in a state of the given kind. -/
abbrev State.hasAny (s : State) (b : Branch) (k : DomainState → Bool) : Prop :=
  ∃ d : DomainIx, s.domains[d].branch = some b ∧ k s.domains[d].state = true

/-- Park finds a domain of the branch that waits or is On. -/
abbrev State.keepsUp (s : State) (b : Branch) : Prop :=
  s.branches[b].mode ≠ .isolated ∧ (s.hasAny b DomainState.waiting ∨ s.hasAny b (· == .on))

/-- Park sends the branch to rest. -/
abbrev State.goesToRest (s : State) (b : Branch) : Prop :=
  s.branches[b].mode ≠ .isolated ∧ ¬ s.hasAny b DomainState.active ∧ s.branches[b].mode ≠ s.branches[b].params.rest.mode

theorem State.hasAny_active (s : State) (b : Branch) : s.hasAny b DomainState.active ↔
    (s.hasAny b DomainState.waiting ∨ s.hasAny b (· == .on)) ∨ s.hasAny b (· == .releasing) := by
  have h := s.anyDomainOf_active b
  rw [Bool.eq_iff_iff, Bool.or_eq_true, Bool.or_eq_true, State.anyDomainOf_iff, State.anyDomainOf_iff, State.anyDomainOf_iff,
    State.anyDomainOf_iff] at h
  exact h

theorem State.parkLoaded_anyDomainOf (k : DomainState → Bool) : s.parkLoaded.anyDomainOf b k = true ↔ s.hasAny b k := by
  obtain ⟨-, -, -, -, hdomains⟩ := s.parkLoaded_records
  rw [State.anyDomainOf_iff]
  refine exists_congr fun i => ?_
  obtain ⟨hstate, hbranch⟩ := s.domains[i].loadedWith_state (s.parkLinger i)
  rw [hdomains, hstate, hbranch]

theorem State.parkLoaded_wakesAt : s.parkLoaded.wakesAt b = true ↔ s.keepsUp b := by
  obtain ⟨hbranches, -⟩ := s.parkLoaded_records
  rw [State.wakesAt_iff, hbranches, State.parkLoaded_anyDomainOf, State.parkLoaded_anyDomainOf]

theorem State.parkLoaded_settlesAt : s.parkLoaded.settlesAt b = true ↔ s.goesToRest b := by
  obtain ⟨hbranches, -⟩ := s.parkLoaded_records
  rw [State.settlesAt_iff, hbranches, ← Bool.not_eq_true, State.parkLoaded_anyDomainOf]

/-! ## The branches after Park -/

theorem State.parkNow_parkedAt (s : State) : s.parkLoaded.ParkedAt allBranches s.parkNow := by
  obtain ⟨-, -, -, hparked, -⟩ := s.parkLoaded_records
  rw [State.parkNow_eq]
  exact State.ParkedAt.foldl allBranches hparked allBranches_distinct

theorem State.parkNow_branch (s : State) (b : Branch) : s.parkNow.branches[b] = s.parkLoaded.parkedBranch b :=
  (s.parkNow_parkedAt.branch b).trans (if_pos (allBranches_complete b))

theorem State.parkNow_port (s : State) (b : Branch) : s.parkNow.ports[portOf b] = s.parkLoaded.parkedPort b :=
  (s.parkNow_parkedAt.port b).trans (if_pos (allBranches_complete b))

theorem State.parkNow_stays (hkept : ¬ s.keepsUp b) (hrest : ¬ s.goesToRest b) :
    s.parkNow.branches[b] = s.branches[b] ∧ s.parkNow.ports[portOf b] = s.ports[portOf b] := by
  obtain ⟨hbranches, hports, -⟩ := s.parkLoaded_records
  have hwakes := mt State.parkLoaded_wakesAt.1 hkept
  have hsettles := mt State.parkLoaded_settlesAt.1 hrest
  rw [State.parkNow_branch, State.parkNow_port, State.parkedBranch, State.parkedPort, if_neg hwakes, if_neg hsettles,
    if_neg hwakes, if_neg hsettles, hbranches, hports]
  exact ⟨rfl, rfl⟩

theorem State.parkNow_rests (h : s.goesToRest b) :
    s.parkNow.ports[portOf b] = s.ports[portOf b].rested s.branches[b].params.rest
      ∧ s.parkNow.branches[b] = if s.branches[b].mode = .listen then
          { s.branches[b].rested with chatterCount := 0, windowTimer := none } else s.branches[b].rested := by
  obtain ⟨hbranches, hports, -⟩ := s.parkLoaded_records
  have hsettles := State.parkLoaded_settlesAt.2 h
  have hwakes : ¬ s.parkLoaded.wakesAt b = true := fun hw => by
    have hfalse := State.settlesAt_of_wakesAt hw
    rw [hsettles] at hfalse
    cases hfalse
  rw [State.parkNow_branch, State.parkNow_port, State.parkedBranch, State.parkedPort, if_neg hwakes, if_neg hwakes,
    if_pos hsettles, if_pos hsettles, hbranches, hports]
  exact ⟨rfl, BranchState.resting_eq h.2.2⟩

section
variable (hisolated : s.branches[b].mode ≠ .isolated) (hdraining : s.branches[b].mode ≠ .draining)
include hisolated hdraining

theorem State.parkNow_waking (h : s.hasAny b DomainState.waiting) : s.parkNow.branches[b] =
    s.branches[b].wokenTo .waking (s.branches[b].seen || s.branches[b].mode != .waking) := by
  obtain ⟨hbranches, -⟩ := s.parkLoaded_records
  rw [State.parkNow_branch, State.parkedBranch, if_pos (State.parkLoaded_wakesAt.2 ⟨hisolated, .inl h⟩),
    if_pos ((State.parkLoaded_anyDomainOf _).2 h), hbranches, BranchState.woken_waking hdraining]

theorem State.parkNow_awake (hwaiting : ¬ s.hasAny b DomainState.waiting) (h : s.hasAny b (· == .on)) :
    s.parkNow.branches[b] = s.branches[b].wokenTo .awake (s.branches[b].seen || s.branches[b].mode.atRest) := by
  obtain ⟨hbranches, -⟩ := s.parkLoaded_records
  rw [State.parkNow_branch, State.parkedBranch, if_pos (State.parkLoaded_wakesAt.2 ⟨hisolated, .inr h⟩),
    if_neg (mt (State.parkLoaded_anyDomainOf _).1 hwaiting), hbranches, BranchState.woken_awake hdraining hisolated]

theorem State.parkNow_branchMode : s.parkNow.branches[b].mode =
    if s.hasAny b DomainState.waiting then .waking
    else if s.hasAny b (· == .on) then .awake
    else if s.hasAny b (· == .releasing) then s.branches[b].mode
    else s.branches[b].params.rest.mode := by
  split
  · rename_i h
    rw [State.parkNow_waking hisolated hdraining h]
    rfl
  · rename_i hwaiting
    split
    · rename_i h
      rw [State.parkNow_awake hisolated hdraining hwaiting h]
      rfl
    · rename_i hon
      have hkept : ¬ s.keepsUp b := fun h => h.2.elim hwaiting hon
      split
      · rename_i h
        have hrest : ¬ s.goesToRest b := fun hr => hr.2.1 ((s.hasAny_active b).2 (.inr h))
        rw [(State.parkNow_stays hkept hrest).1]
      · rename_i hreleasing
        have hdark : ¬ s.hasAny b DomainState.active := fun h => ((s.hasAny_active b).1 h).elim (·.elim hwaiting hon) hreleasing
        by_cases hmode : s.branches[b].mode = s.branches[b].params.rest.mode
        · rw [(State.parkNow_stays hkept fun hr => hr.2.2 hmode).1, hmode]
        · rw [(State.parkNow_rests ⟨hisolated, hdark, hmode⟩).2]
          split <;> exact s.branches[b].rested_mode

end

theorem State.parkNow_port_of_not (hdraining : s.branches[b].mode ≠ .draining) (hrest : ¬ s.goesToRest b) :
    s.parkNow.ports[portOf b] = s.ports[portOf b] := by
  obtain ⟨hbranches, hports, -⟩ := s.parkLoaded_records
  by_cases h : s.keepsUp b
  · rw [State.parkNow_port, State.parkedPort, if_pos (State.parkLoaded_wakesAt.2 h), hbranches, hports, PortState.unmarked,
      if_neg hdraining]
  · exact (State.parkNow_stays h hrest).2

/-! ## The rest of the state after Park -/

theorem State.parkNow_domain (h : ∀ b : Branch, s.domains[d].branch = some b → s.branches[b].mode = .draining →
    ¬ s.hasAny b DomainState.waiting ∧ ¬ s.hasAny b (· == .on)) :
    s.parkNow.domains[d] = s.domains[d].loadedWith (s.parkLinger d) := by
  obtain ⟨hbranches, -, -, -, hdomains⟩ := s.parkLoaded_records
  refine (s.parkNow_parkedAt.domain d fun b _ hb => ?_).trans (hdomains d)
  rw [hdomains, (s.domains[d].loadedWith_state _).2] at hb
  rintro ⟨hdraining, hwakes⟩
  rw [hbranches] at hdraining
  obtain ⟨hwaiting, hon⟩ := h b hb hdraining
  exact (State.parkLoaded_wakesAt.1 hwakes).2.elim hwaiting hon

theorem State.parkNow_freed (s : State) : s.parkNow.freeBuffers = s.freeBuffers + (allBranches.map fun b =>
    if s.goesToRest b then idleFrames (s.ports[portOf b].queue.filter fun i => !i.held) else 0).sum := by
  obtain ⟨-, hports, hfree, -, -⟩ := s.parkLoaded_records
  rw [s.parkNow_parkedAt.freed, hfree]
  refine congrArg (fun l => s.freeBuffers + List.sum l) (List.map_congr_left fun b _ => ?_)
  rw [State.parkFreed, hports]
  exact if_congr State.parkLoaded_settlesAt rfl rfl

/-- Park beside ports, branches, domains and free buffers. -/
theorem State.parkNow_frame (s : State) : ∃ ps bs ds n, s.parkNow = ({ s.restarted.levelTold s.account with
    mode := .parked
    schedule := .ofFn fun e => if s.schedule[e].enabled then { s.schedule[e] with countdown := s.schedule[e].firstDelay }
      else s.schedule[e] } : State).withLanes ps bs ds n := by
  obtain ⟨ps, bs, ds, n, hframe⟩ := s.parkNow_parkedAt.frame
  refine ⟨ps, bs, ds, n, hframe.trans ?_⟩
  rw [State.parkLoaded_frame]
  rfl

theorem State.parkNow_told (s : State) : s.parkNow.flags = (s.restarted.levelTold s.account).flags
    ∧ s.parkNow.reports = (s.restarted.levelTold s.account).reports
    ∧ s.parkNow.reportsLost = (s.restarted.levelTold s.account).reportsLost := by
  obtain ⟨ps, bs, ds, n, hframe⟩ := s.parkNow_frame
  rw [hframe]
  generalize s.restarted.levelTold s.account = u
  exact ⟨rfl, rfl, rfl⟩

/-- Settles O59: the frame, what is told, each branch and its port, the domains, and the freed buffers. -/
theorem parkStartsParkedPeriod : Obligations.ParkStartsParkedPeriod := by
  intro s tag more rest hmode hturn
  obtain ⟨ps, bs, ds, n, hframe⟩ := s.parkNow_frame
  obtain ⟨ds', f, r, l, htold, -⟩ := s.restarted.levelTold_frame s.account
  have hrequests : s.parkNow.requests = s.requests := by
    rw [hframe, htold]
    rfl
  have hexec : exec .park s = .next (s.parkNow.answered rest [0x60, tag, 0]) := congrArg Host.Outcome.next
    (hturn.execute_of_accepted (row := .park) (nargs := 0) rfl (Nat.zero_le _) ((anyMode_iff _).2 hmode) rfl hrequests)
  have htrunk : s.parkNow.ports[trunkPort] = s.ports[trunkPort] := by
    obtain ⟨-, hports, -⟩ := s.parkLoaded_records
    exact s.parkNow_parkedAt.trunk.trans (by rw [hports])
  have hstays := fun b => State.parkNow_stays (s := s) (b := b)
  have hrests := fun b => State.parkNow_rests (s := s) (b := b)
  have hmodes := fun b => State.parkNow_branchMode (s := s) (b := b)
  have hwaking := fun b => State.parkNow_waking (s := s) (b := b)
  have hawake := fun b => State.parkNow_awake (s := s) (b := b)
  have hports := fun b => State.parkNow_port_of_not (s := s) (b := b)
  have hdomains := fun d => State.parkNow_domain (s := s) (d := d)
  have hfreed := s.parkNow_freed
  obtain ⟨hflags, hreports, hlost⟩ := s.parkNow_told
  generalize s.parkNow = t at hframe hexec htrunk hstays hrests hmodes hwaking hawake hports hdomains hfreed hflags hreports hlost
  refine ⟨t.answered rest [0x60, tag, 0], hexec, ?_, hflags, hreports, hlost, fun b hi => ?_, hmodes,
    hwaking, hawake, hdomains, hrests, fun b ha hs => ?_, fun b hd hr hw ho => ?_, hports, htrunk, hfreed⟩
  · rw [hframe, htold]
    rfl
  · exact hstays b (fun h => h.1 hi) fun h => h.1 hi
  · exact hstays b (fun h => ha ((s.hasAny_active b).2 (.inl h.2))) hs
  · exact hstays b (fun h => h.2.elim hw ho) fun h => h.2.1 ((s.hasAny_active b).2 (.inr hr))

end Sys2Proof.Machine
end

section
/-! What the law of branches and domains reads of a state, and the changes that keep it (sections 1.1, 7.2 and 7.5). -/

namespace Sys2Proof.Machine

/-- The states that a wake request keeps a branch working for: Queued, PowerUp and On. -/
abbrev DomainState.working (k : DomainState) : Bool := k.waiting || k == .on

theorem DomainState.active_of_working {k : DomainState} (h : k.working = true) : k.active = true := by
  cases k with
  | queued | powerUp | on | releasing => rfl
  | off | fault => cases h

theorem DomainState.active_of_waiting {k : DomainState} (h : k.waiting = true) : k.active = true :=
  active_of_working (by rw [DomainState.working, h, Bool.true_or])

/-- What the law of branches and domains reads of a state. -/
structure Stance where
  mode : PartMode
  branch : Branch → BranchMode
  state : DomainIx → DomainState
  home : DomainIx → Option Branch
  /-- A classification is in flight in Fallback, where none may be. -/
  stray : Bool

def State.stance (s : State) : Stance where
  mode := s.mode
  branch b := s.branches[b].mode
  state d := s.domains[d].state
  home d := s.domains[d].branch
  stray := s.mode == .fallback && s.classification.isSome

namespace Stance

variable {x y : Stance} {b c : Branch} {d : DomainIx} {D D' : Branch → Prop} {m : BranchMode}

/-! ## The law -/

/-- Some domain of the branch is in one of the given states. -/
def has (x : Stance) (b : Branch) (k : DomainState → Bool) : Prop := ∃ d, x.home d = some b ∧ k (x.state d) = true

/-- In Parked a branch state that goes with the states of the branch's domains. -/
def fits (x : Stance) (b : Branch) : BranchMode → Prop
  | .off | .listen | .isolated => ¬ x.has b DomainState.active
  | .waking => x.has b DomainState.waiting ∧ ¬ x.has b (· == .releasing)
  | .awake => x.has b DomainState.working ∧ ¬ x.has b (· == .releasing)
  | .draining => x.has b (· == .releasing) ∧ ¬ x.has b DomainState.working

/-- The half of `fits` that outlasts the loss of a domain. -/
def bounds (x : Stance) (b : Branch) : BranchMode → Prop
  | .off | .listen | .isolated => ¬ x.has b DomainState.active
  | .waking | .awake => ¬ x.has b (· == .releasing)
  | .draining => ¬ x.has b DomainState.working

/-- The law in Unconfigured and Drive. -/
def runs (x : Stance) : Prop :=
  (∀ b, x.branch b = .awake ∨ x.branch b = .isolated ∧ ¬ x.has b DomainState.active) ∧ ∀ d, x.state d ≠ .releasing

/-- The law in Fallback. -/
def sleeps (x : Stance) : Prop :=
  (∀ b, x.branch b = .listen) ∧ (∀ d, (x.state d).active = false) ∧ x.stray = false

/-- The law in Parked, but for branches that have yet to follow the loss of a domain. -/
def followsBut (D : Branch → Prop) (x : Stance) : Prop :=
  (∀ b, x.bounds b (x.branch b) ∧ (¬ D b → x.fits b (x.branch b)))
    ∧ ∀ d, x.state d = .releasing → (x.home d).isSome = true

/-- The law of branches and domains, but for the branches of a set, which in Parked have yet to follow. -/
@[irreducible] def lawfulBut (D : Branch → Prop) (x : Stance) : Prop :=
  match x.mode with
  | .unconfigured | .drive => x.runs
  | .fallback => x.sleeps
  | .parked => x.followsBut D

/-- The law of branches and domains. -/
abbrev lawful (x : Stance) : Prop := x.lawfulBut fun _ => False

theorem lawfulBut_of_parked (h : x.mode = .parked) : x.lawfulBut D ↔ x.followsBut D := by
  rw [lawfulBut, h]

theorem lawfulBut_of_fallback (h : x.mode = .fallback) : x.lawfulBut D ↔ x.sleeps := by
  rw [lawfulBut, h]

theorem lawfulBut_of_runs (hp : x.mode ≠ .parked) (hf : x.mode ≠ .fallback) : x.lawfulBut D ↔ x.runs := by
  rw [lawfulBut]
  cases h : x.mode with
  | parked => exact absurd h hp
  | fallback => exact absurd h hf
  | unconfigured => exact Iff.rfl
  | drive => exact Iff.rfl

/-- The law by the part mode. -/
theorem lawfulBut_cases (h : x.lawfulBut D) : x.mode = .parked ∧ x.followsBut D ∨ x.mode = .fallback ∧ x.sleeps ∨
    x.mode ≠ .parked ∧ x.mode ≠ .fallback ∧ x.runs := by
  by_cases hp : x.mode = .parked
  · exact .inl ⟨hp, (lawfulBut_of_parked hp).1 h⟩
  · by_cases hf : x.mode = .fallback
    · exact .inr (.inl ⟨hf, (lawfulBut_of_fallback hf).1 h⟩)
    · exact .inr (.inr ⟨hp, hf, (lawfulBut_of_runs hp hf).1 h⟩)

/-! ## The domains of a branch -/

theorem has_working_of_waiting (h : x.has b DomainState.waiting) : x.has b DomainState.working := by
  obtain ⟨d, hd, hk⟩ := h
  exact ⟨d, hd, by rw [DomainState.working, hk, Bool.true_or]⟩

theorem has_active_iff : x.has b DomainState.active ↔ x.has b DomainState.working ∨ x.has b (· == .releasing) := by
  have hstate : ∀ k : DomainState, k.active = (k.working || k == .releasing) := fun k => by
    cases k <;> rfl
  simp only [has, hstate, Bool.or_eq_true, and_or_left, exists_or]

theorem has_working_iff : x.has b DomainState.working ↔ x.has b DomainState.waiting ∨ x.has b (· == .on) := by
  simp only [has, DomainState.working, Bool.or_eq_true, and_or_left, exists_or]

theorem has_congr {k : DomainState → Bool} (hhome : y.home = x.home) (h : ∀ d, x.home d = some b → y.state d = x.state d) :
    y.has b k ↔ x.has b k := by
  refine exists_congr fun d => ?_
  rw [hhome]
  exact and_congr_right fun hd => by rw [h d hd]

theorem fits_congr (hhome : y.home = x.home) (h : ∀ d, x.home d = some b → y.state d = x.state d) :
    y.fits b m ↔ x.fits b m := by
  cases m <;> simp only [fits, has_congr hhome h]

theorem bounds_congr (hhome : y.home = x.home) (h : ∀ d, x.home d = some b → y.state d = x.state d) :
    y.bounds b m ↔ x.bounds b m := by
  cases m <;> simp only [bounds, has_congr hhome h]

theorem bounds_of_fits (h : x.fits b m) : x.bounds b m := by
  cases m with
  | off | listen | isolated => exact h
  | waking | awake | draining => exact h.2

/-- A branch whose domains are all dark fits no state but rest and Isolated. -/
theorem fits_of_dark (hm : m = .off ∨ m = .listen ∨ m = .isolated) (h : ¬ x.has b DomainState.active) : x.fits b m := by
  rcases hm with rfl | rfl | rfl <;> exact h

/-! ## Changes that keep the law -/

theorem lawfulBut.mono (h : x.lawfulBut D) (hD : ∀ b, D b → D' b) : x.lawfulBut D' := by
  rcases lawfulBut_cases h with ⟨hmode, hbranches, hreleasing⟩ | ⟨hmode, h⟩ | ⟨hp, hf, h⟩
  · exact (lawfulBut_of_parked hmode).2 ⟨fun b => ⟨(hbranches b).1, fun hb => (hbranches b).2 fun e => hb (hD b e)⟩, hreleasing⟩
  · exact (lawfulBut_of_fallback hmode).2 h
  · exact (lawfulBut_of_runs hp hf).2 h

end Stance

/-- A move that gives a branch no domain of a kind it has none of. -/
def DomainState.eases (k l : DomainState) : Prop :=
  (l.active = true → k.active = true) ∧ (l = .releasing → k = .releasing) ∧ (l.working = true → k.working = true)

theorem DomainState.eases_refl (k : DomainState) : k.eases k := ⟨id, id, id⟩

theorem DomainState.eases_of_dark {k l : DomainState} (h : l.active = false) : k.eases l := by
  refine ⟨fun e => ?_, ?_, fun e => ?_⟩
  · rw [h] at e
    cases e
  · rintro rfl
    cases h
  · exact absurd (DomainState.active_of_working e) (Bool.eq_false_iff.1 h)

namespace Stance

variable {x y : Stance} {b c : Branch} {d : DomainIx} {D D' : Branch → Prop} {m : BranchMode}

/-- Domains that ease keep the law, but for the branches that lose more than a grant changes. -/
theorem lawfulBut.ease {f : DomainIx → DomainState} (h : x.lawfulBut D) (hstate : ∀ d, (x.state d).eases (f d))
    (hclean : ∀ b, ¬ D' b → ¬ D b ∧ ∀ d, x.home d = some b →
      f d = x.state d ∨ (x.state d).waiting = true ∧ (f d).waiting = true) :
    ({ x with state := f } : Stance).lawfulBut D' := by
  have hactive : ∀ {b}, ¬ x.has b DomainState.active → ¬ ({ x with state := f } : Stance).has b DomainState.active :=
    fun hb ⟨d, hd, hk⟩ => hb ⟨d, hd, (hstate d).1 hk⟩
  have hreleasing : ∀ {b}, ¬ x.has b (· == .releasing) → ¬ ({ x with state := f } : Stance).has b (· == .releasing) :=
    fun hb ⟨d, hd, hk⟩ => hb ⟨d, hd, beq_iff_eq.2 ((hstate d).2.1 (beq_iff_eq.1 hk))⟩
  have hworking : ∀ {b}, ¬ x.has b DomainState.working → ¬ ({ x with state := f } : Stance).has b DomainState.working :=
    fun hb ⟨d, hd, hk⟩ => hb ⟨d, hd, (hstate d).2.2 hk⟩
  rcases lawfulBut_cases h with ⟨hmode, hbranches, hhomes⟩ | ⟨hmode, hlisten, hdark, hstray⟩ | ⟨hp, hf, hruns, hnone⟩
  · refine (lawfulBut_of_parked (x := { x with state := f }) hmode).2 ⟨fun b => ?_, fun d hd => hhomes d ((hstate d).2.1 hd)⟩
    obtain ⟨hbounds, hfits⟩ := hbranches b
    have hbounds' : ({ x with state := f } : Stance).bounds b (x.branch b) := by
      cases hm : x.branch b <;> rw [hm] at hbounds
      case off | listen | isolated => exact hactive hbounds
      case waking | awake => exact hreleasing hbounds
      case draining => exact hworking hbounds
    refine ⟨hbounds', fun hb => ?_⟩
    obtain ⟨hD, hsame⟩ := hclean b hb
    have hfits := hfits hD
    have hkept : ∀ k : DomainState → Bool, (∀ l, l.waiting = true → k l = k .queued) → x.has b k →
        ({ x with state := f } : Stance).has b k := fun k hk ⟨d, hd, hx⟩ => by
      refine ⟨d, hd, ?_⟩
      rcases hsame d hd with h | ⟨h, h'⟩
      · exact (congrArg k h).trans hx
      · exact (hk _ h').trans ((hk _ h).symm.trans hx)
    cases hm : x.branch b <;> rw [hm] at hfits hbounds'
    case off | listen | isolated => exact hbounds'
    case waking => exact ⟨hkept _ (fun l hl => hl) hfits.1, hbounds'⟩
    case awake => exact ⟨hkept _ (fun l hl => by rw [DomainState.working, hl]; rfl) hfits.1, hbounds'⟩
    case draining => exact ⟨hkept _ (fun l hl => by cases l with
      | queued | powerUp | off | on | fault => rfl
      | releasing => cases hl) hfits.1, hbounds'⟩
  · exact (lawfulBut_of_fallback (x := { x with state := f }) hmode).2 ⟨hlisten, fun d => Bool.eq_false_iff.2 fun e =>
      Bool.eq_false_iff.1 (hdark d) ((hstate d).1 e), hstray⟩
  · exact (lawfulBut_of_runs (x := { x with state := f }) hp hf).2 ⟨fun b => (hruns b).imp_right fun ⟨hb, hn⟩ => ⟨hb, hactive hn⟩,
      fun d hd => hnone d ((hstate d).2.1 hd)⟩

/-- In Parked a change at one branch and its domains keeps the law where the branch then fits. -/
theorem lawfulBut.change (h : x.lawfulBut D) (hmode : x.mode = .parked) (hmode' : y.mode = .parked)
    (hhome : y.home = x.home) (hbranch : ∀ c, c ≠ b → y.branch c = x.branch c)
    (hstate : ∀ d, x.home d ≠ some b → y.state d = x.state d) (hfits : y.fits b (y.branch b))
    (hD : ∀ c, c ≠ b → D c → D' c) : y.lawfulBut D' := by
  obtain ⟨hbranches, hhomes⟩ := (lawfulBut_of_parked hmode).1 h
  refine (lawfulBut_of_parked hmode').2 ⟨fun c => ?_, fun d hd => ?_⟩
  · by_cases hc : c = b
    · subst hc
      exact ⟨bounds_of_fits hfits, fun _ => hfits⟩
    · have hsame : ∀ d, x.home d = some c → y.state d = x.state d := fun d hd =>
        hstate d (by rw [hd]; exact fun e => hc (Option.some.inj e))
      rw [hbranch c hc, bounds_congr hhome hsame, fits_congr hhome hsame]
      exact ⟨(hbranches c).1, fun hn => (hbranches c).2 fun e => hn (hD c hc e)⟩
  · rw [hhome]
    by_cases hb : x.home d = some b
    · rw [hb]
      rfl
    · exact hhomes d (by rwa [hstate d hb] at hd)

end Stance

/-- The law of branches and domains as a law of the stance. -/
theorem branchLaw_iff (s : State) : BranchLaw s ↔ s.stance.lawful := by
  have hfollows : (∀ b : Branch, s.branchFollows b) ↔
      ∀ b, s.stance.bounds b (s.stance.branch b) ∧ (¬ False → s.stance.fits b (s.stance.branch b)) := by
    refine forall_congr' fun b => ?_
    have hfits : s.branchFollows b ↔ s.stance.fits b (s.stance.branch b) := by
      unfold State.branchFollows
      show _ ↔ s.stance.fits b s.branches[b].mode
      cases s.branches[b].mode <;> exact Iff.rfl
    rw [hfits]
    exact ⟨fun h => ⟨Stance.bounds_of_fits h, fun _ => h⟩, fun h => h.2 id⟩
  unfold BranchLaw Stance.lawful Stance.lawfulBut
  show _ ↔ match s.mode with
    | .unconfigured | .drive => s.stance.runs
    | .fallback => s.stance.sleeps
    | .parked => s.stance.followsBut fun _ => False
  cases hmode : s.mode with
  | unconfigured | drive => exact Iff.rfl
  | fallback =>
    refine and_congr_right fun _ => and_congr_right fun _ => ?_
    show _ ↔ (s.mode == .fallback && s.classification.isSome) = false
    rw [hmode]
    cases s.classification <;> simp
  | parked => exact and_congr_left fun _ => hfollows

end Sys2Proof.Machine
end

section
/-! What the shared operations on branches and domains do to the law's stance (chapters 6 and 7). -/

namespace Sys2Proof.Machine

namespace Stance

variable {x y : Stance} {b c : Branch} {d : DomainIx} {D D' : Branch → Prop} {k : DomainState}

/-- A branch in another state. -/
def enter (x : Stance) (b : Branch) (m : BranchMode) : Stance := { x with branch := Function.update x.branch b m }

/-- A domain in another state. -/
def turn (x : Stance) (d : DomainIx) (k : DomainState) : Stance := { x with state := Function.update x.state d k }

/-- The Releasing domains of a branch in another state. -/
def released (x : Stance) (b : Branch) (k : DomainState) : Stance :=
  { x with state := fun d => if x.home d = some b ∧ x.state d = .releasing then k else x.state d }

@[simp] theorem enter_self : x.enter b (x.branch b) = x := by
  rw [enter, Function.update_eq_self]

@[simp] theorem turn_self : x.turn d (x.state d) = x := by
  rw [turn, Function.update_eq_self]

@[simp] theorem enter_branch_self (m : BranchMode) : (x.enter b m).branch b = m := Function.update_self ..

theorem enter_branch_ne (m : BranchMode) (h : c ≠ b) : (x.enter b m).branch c = x.branch c := Function.update_of_ne h ..

@[simp] theorem turn_state_self : (x.turn d k).state d = k := Function.update_self ..

theorem turn_state_ne {i : DomainIx} (h : i ≠ d) : (x.turn d k).state i = x.state i := Function.update_of_ne h ..

theorem released_state_ne {i : DomainIx} (h : x.home i ≠ some b) : (x.released b k).state i = x.state i :=
  if_neg fun e => h e.1

/-- Once they are off, a branch with Releasing domains alone is dark. -/
theorem released_off_dark (h : ¬ x.has b DomainState.working) : ¬ (x.released b .off).has b DomainState.active := by
  rintro ⟨d, hd, hk⟩
  have hk : (if x.home d = some b ∧ x.state d = .releasing then DomainState.off else x.state d).active = true := hk
  split at hk
  · cases hk
  · rename_i hn
    have hactive : x.has b DomainState.active := ⟨d, hd, hk⟩
    rcases has_active_iff.1 hactive with hw | ⟨i, -, -⟩
    · exact h hw
    · cases hs : x.state d with
      | releasing => exact hn ⟨hd, hs⟩
      | off | fault => rw [hs] at hk; cases hk
      | queued | powerUp | on => exact h ⟨d, hd, by rw [hs]; rfl⟩

theorem released_on_none : ¬ (x.released b .on).has b (· == .releasing) := by
  rintro ⟨d, hd, hk⟩
  have hk : (if x.home d = some b ∧ x.state d = .releasing then DomainState.on else x.state d) = .releasing :=
    beq_iff_eq.1 hk
  split at hk
  · cases hk
  · rename_i hn
    exact hn ⟨hd, hk⟩

theorem released_on_working (h : x.has b (· == .releasing)) : (x.released b .on).has b DomainState.working := by
  obtain ⟨d, hd, hk⟩ := h
  refine ⟨d, hd, ?_⟩
  show (if x.home d = some b ∧ x.state d = .releasing then DomainState.on else x.state d).working = true
  rw [if_pos ⟨hd, beq_iff_eq.1 hk⟩]
  rfl

/-- A domain that eases keeps the law, but for its branch unless it waits on. -/
theorem lawfulBut.turn (h : x.lawfulBut D) (hk : (x.state d).eases k) (hD : ∀ b, D b → D' b)
    (hd : ∀ b, x.home d = some b → ¬ D' b → (x.state d).waiting = true ∧ k.waiting = true) :
    (x.turn d k).lawfulBut D' := by
  refine h.ease (fun i => ?_) fun b hb => ⟨fun e => hb (hD b e), fun i hi => ?_⟩
  · rcases eq_or_ne i d with rfl | hne
    · rwa [Function.update_self]
    · rw [Function.update_of_ne hne]
      exact DomainState.eases_refl _
  · rcases eq_or_ne i d with rfl | hne
    · rw [Function.update_self]
      exact .inr (hd b hi hb)
    · exact .inl (Function.update_of_ne hne ..)

theorem lawfulBut.parked_of_draining (h : x.lawfulBut D) (hb : x.branch b = .draining) : x.mode = .parked := by
  rcases lawfulBut_cases h with ⟨hmode, -⟩ | ⟨-, hlisten, -⟩ | ⟨-, -, hruns, -⟩
  · exact hmode
  · rw [hlisten b] at hb
    cases hb
  · rcases hruns b with e | ⟨e, -⟩ <;> rw [e] at hb <;> cases hb

/-- Under the law a Releasing domain has a Draining branch. -/
theorem lawfulBut.draining_of_releasing (h : x.lawful) (hd : x.state d = .releasing) :
    x.mode = .parked ∧ ∃ b, x.home d = some b ∧ x.branch b = .draining := by
  rcases lawfulBut_cases h with ⟨hmode, hbranches, hhomes⟩ | ⟨-, -, hdark, -⟩ | ⟨-, -, -, hnone⟩
  · obtain ⟨b, hb⟩ := Option.isSome_iff_exists.1 (hhomes d hd)
    refine ⟨hmode, b, hb, ?_⟩
    have hhas : x.has b (· == .releasing) := ⟨d, hb, beq_iff_eq.2 hd⟩
    have hfits := (hbranches b).2 id
    cases hm : x.branch b with
    | off | listen | isolated =>
      rw [hm] at hfits
      exact absurd (has_active_iff.2 (.inr hhas)) hfits
    | waking | awake =>
      rw [hm] at hfits
      exact absurd hhas hfits.2
    | draining => rfl
  · have := hdark d
    rw [hd] at this
    cases this
  · exact absurd hd (hnone d)

/-- A domain of no Isolated branch keeps the law of Unconfigured and Drive in every state but Releasing. -/
theorem runs.turn (h : x.runs) (hk : k ≠ .releasing) (hd : ∀ b, x.home d = some b → x.branch b ≠ .isolated) :
    (x.turn d k).runs := by
  obtain ⟨hbranches, hnone⟩ := h
  refine ⟨fun b => ?_, fun i => ?_⟩
  · refine (hbranches b).imp_right fun ⟨hb, hdark⟩ => ⟨hb, ?_⟩
    rintro ⟨i, hi, hactive⟩
    rcases eq_or_ne i d with rfl | hne
    · exact hd b hi hb
    · rw [turn_state_ne hne] at hactive
      exact hdark ⟨i, hi, hactive⟩
  · by_cases hi : i = d
    · rw [hi, turn_state_self]
      exact hk
    · rw [turn_state_ne hi]
      exact hnone i

theorem lawful.turn_homeless (h : x.lawful) (hmode : x.mode ≠ .fallback) (hk : k ≠ .releasing) (hd : x.home d = none) :
    (x.turn d k).lawful := by
  rcases lawfulBut_cases h with ⟨hparked, hbranches, hhomes⟩ | ⟨hf, -⟩ | ⟨hp, hf, hruns⟩
  · have hne : ∀ {b i}, x.home i = some b → i ≠ d := fun hi e => by rw [e, hd] at hi; cases hi
    refine (lawfulBut_of_parked (x := x.turn d k) hparked).2 ⟨fun b => ?_, fun i hi => ?_⟩
    · have hsame : ∀ i, x.home i = some b → (x.turn d k).state i = x.state i := fun i hi => turn_state_ne (hne hi)
      show (x.turn d k).bounds b (x.branch b) ∧ (¬ False → (x.turn d k).fits b (x.branch b))
      rw [bounds_congr (x := x) (y := x.turn d k) rfl hsame, fits_congr (x := x) (y := x.turn d k) rfl hsame]
      exact hbranches b
    · rcases eq_or_ne i d with rfl | hi'
      · rw [turn_state_self] at hi
        exact absurd hi hk
      · rw [turn_state_ne hi'] at hi
        exact hhomes i hi
  · exact absurd hf hmode
  · exact (lawfulBut_of_runs (x := x.turn d k) hp hf).2 (hruns.turn hk fun b hb => by rw [hd] at hb; cases hb)

end Stance

/-! ## The stance after an operation -/

section
variable (s : State) {b : Branch} {d : DomainIx}

theorem State.raise_stance (k : Condition) (i : Option Nat) (m n : Nat) : (s.raise k i m n).stance = s.stance := by
  unfold State.raise State.offerReport
  dsimp only
  repeat' split
  all_goals rfl

theorem State.modBranch_stance (f : BranchState → BranchState) :
    (s.modBranch b f).stance = s.stance.enter b (f s.branches[b]).mode := by
  refine congrArg (fun g => ({ s.stance with branch := g } : Stance)) (funext fun c => ?_)
  show _ = Function.update (fun i : Branch => s.branches[i].mode) b (f s.branches[b]).mode c
  rw [State.modBranch_get, Function.update_apply]
  exact apply_ite BranchState.mode _ _ _

theorem State.modBranch_stance_same (f : BranchState → BranchState) (h : ∀ y, (f y).mode = y.mode) :
    (s.modBranch b f).stance = s.stance := by
  rw [State.modBranch_stance, h]
  exact Stance.enter_self

theorem State.mapBranches_stance (f : Branch → BranchState → BranchState) :
    (s.mapBranches f).stance = { s.stance with branch := fun b => (f b s.branches[b]).mode } :=
  congrArg (fun g => ({ s.stance with branch := g } : Stance)) (funext fun b => by rw [State.mapBranches_get])

theorem State.mapBranches_stance_same (f : Branch → BranchState → BranchState) (h : ∀ b y, (f b y).mode = y.mode) :
    (s.mapBranches f).stance = s.stance := by
  rw [State.mapBranches_stance]
  exact congrArg (fun g => ({ s.stance with branch := g } : Stance)) (funext fun b => h b _)

theorem State.modDomain_stance (f : Domain → Domain) (h : ∀ y, (f y).branch = y.branch) :
    (s.modDomain d f).stance = s.stance.turn d (f s.domains[d]).state := by
  have hstate : (fun i : DomainIx => (s.modDomain d f).domains[i].state) =
      Function.update (fun i : DomainIx => s.domains[i].state) d (f s.domains[d]).state := funext fun i => by
    rw [State.modDomain_get, Function.update_apply]
    exact apply_ite Domain.state _ _ _
  have hhome : (fun i : DomainIx => (s.modDomain d f).domains[i].branch) = fun i : DomainIx => s.domains[i].branch :=
    funext fun i => by
      rw [State.modDomain_get]
      split
      · rename_i hi
        rw [h, hi]
      · rfl
  exact congrArg₂ (fun g i => ({ s.stance with state := g, home := i } : Stance)) hstate hhome

theorem State.modDomain_stance_same (f : Domain → Domain)
    (h : (f s.domains[d]).branch = s.domains[d].branch ∧ (f s.domains[d]).state = s.domains[d].state) :
    (s.modDomain d f).stance = s.stance := by
  have hstate : (fun i : DomainIx => (s.modDomain d f).domains[i].state) = fun i : DomainIx => s.domains[i].state :=
    funext fun i => by
      rw [State.modDomain_get]
      split
      · rename_i hi
        rw [h.2, hi]
      · rfl
  have hhome : (fun i : DomainIx => (s.modDomain d f).domains[i].branch) = fun i : DomainIx => s.domains[i].branch :=
    funext fun i => by
      rw [State.modDomain_get]
      split
      · rename_i hi
        rw [h.1, hi]
      · rfl
  exact congrArg₂ (fun g i => ({ s.stance with state := g, home := i } : Stance)) hstate hhome

theorem State.mapDomains_stance (f : DomainIx → Domain → Domain) (h : ∀ d y, (f d y).branch = y.branch) :
    (s.mapDomains f).stance = { s.stance with state := fun d => (f d s.domains[d]).state } := by
  have hstate : (fun i : DomainIx => (s.mapDomains f).domains[i].state) = fun i : DomainIx => (f i s.domains[i]).state :=
    funext fun i => by rw [State.mapDomains_get]
  have hhome : (fun i : DomainIx => (s.mapDomains f).domains[i].branch) = fun i : DomainIx => s.domains[i].branch :=
    funext fun i => by rw [State.mapDomains_get, h]
  exact congrArg₂ (fun g i => ({ s.stance with state := g, home := i } : Stance)) hstate hhome

theorem State.mapDomains_stance_same (f : DomainIx → Domain → Domain)
    (h : ∀ d y, (f d y).branch = y.branch ∧ (f d y).state = y.state) : (s.mapDomains f).stance = s.stance := by
  rw [State.mapDomains_stance s f fun d y => (h d y).1]
  exact congrArg (fun g => ({ s.stance with state := g } : Stance)) (funext fun d => (h d _).2)

theorem State.enterBranch_stance (m : BranchMode) : (s.enterBranch b m).stance = s.stance.enter b m :=
  s.modBranch_stance _

theorem State.stopDrain_stance : (s.stopDrain b).stance = s.stance := s.modBranch_stance_same _ fun _ => rfl

theorem State.goRest_stance : (s.goRest b).stance = s.stance.enter b s.branches[b].params.rest.mode := by
  have h : (s.enterBranch b s.branches[b].params.rest.mode).stance = _ := s.enterBranch_stance _
  unfold State.goRest
  dsimp only
  split
  · exact h
  · split
    · rw [State.modBranch_stance_same]
      · exact h
      · exact fun _ => rfl
    · exact h

theorem State.stopDrain_rest (c : Branch) : (s.stopDrain b).branches[c].params = s.branches[c].params := by
  rw [State.stopDrain, State.modBranch_get]
  split
  · rename_i h
    rw [h]
  · rfl

theorem State.returnToRest_stance : (s.returnToRest b).stance = s.stance.enter b s.branches[b].params.rest.mode := by
  rw [State.returnToRest, State.goRest_stance, State.stopDrain_stance, State.stopDrain_rest]
  rfl

theorem State.switchOffReleasing_stance : (s.switchOffReleasing b).stance = s.stance.released b .off := by
  rw [State.switchOffReleasing, State.mapDomains_stance _ _ fun d y => by split <;> rfl]
  exact congrArg (fun g => ({ s.stance with state := g } : Stance)) (funext fun d => apply_ite Domain.state _ _ _)

theorem State.reviveReleasing_stance : (s.reviveReleasing b).stance = s.stance.released b .on := by
  rw [State.reviveReleasing, State.mapDomains_stance _ _ fun d y => by split <;> rfl]
  exact congrArg (fun g => ({ s.stance with state := g } : Stance)) (funext fun d => apply_ite Domain.state _ _ _)

theorem State.completeDrain_stance :
    (s.completeDrain b).stance = (s.stance.released b .off).enter b s.branches[b].params.rest.mode := by
  have hrest : (((s.purge (portOf b) QueueItem.held).stopDrain b).switchOffReleasing b).branches[b].params =
      s.branches[b].params := by
    rw [State.switchOffReleasing, State.mapDomains_branches, State.stopDrain_rest]
    rfl
  rw [State.completeDrain, State.goRest_stance, State.switchOffReleasing_stance, State.stopDrain_stance, hrest]
  rfl

theorem State.withdrawMarker_stance (h : s.branches[b].mode = .draining) :
    (s.withdrawMarker b).stance = (s.stance.enter b .awake).released b .on := by
  rw [State.withdrawMarker, if_pos h]
  dsimp only
  rw [State.reviveReleasing_stance, State.enterBranch_stance, State.stopDrain_stance]
  rfl

end

end Sys2Proof.Machine
end

section
/-! The operations on branches, domains and the arbiter keep the law of branches and domains (chapters 5 to 7). -/

namespace Sys2Proof.Machine

open Stance

theorem RestState.mode_cases (r : RestState) : r.mode = .off ∨ r.mode = .listen ∨ r.mode = .isolated := by
  cases r
  · exact .inl rfl
  · exact .inr (.inl rfl)

/-- Some states may disobey the law at branches that have yet to follow a domain's loss. -/
abbrev State.obeysBut (D : Branch → Prop) (s : State) : Prop := s.stance.lawfulBut D

/-- The law of branches and domains holds. -/
abbrev State.obeys (s : State) : Prop := s.stance.lawful

variable {s : State} {b : Branch} {d : DomainIx} {D D' : Branch → Prop}

theorem State.obeys.of_stance {t : State} (h : s.obeys) (e : t.stance = s.stance) : t.obeys := by
  rwa [State.obeys, e]

/-! ## Drains -/

theorem State.completeDrain_obeys (h : s.obeys) (hb : s.branches[b].mode = .draining) : (s.completeDrain b).obeys := by
  have hparked : s.stance.mode = .parked := h.parked_of_draining hb
  have hbounds := (((lawfulBut_of_parked hparked).1 h).1 b).1
  have hb' : s.stance.branch b = .draining := hb
  rw [hb'] at hbounds
  rw [State.obeys, State.completeDrain_stance]
  refine h.change (b := b) hparked hparked rfl (fun c hc => enter_branch_ne _ hc) (fun i hi => released_state_ne hi) ?_
    fun _ _ => id
  rw [enter_branch_self]
  exact fits_of_dark (RestState.mode_cases _) (released_off_dark hbounds)

theorem State.settleDrain_obeys (h : s.obeys) (b : Branch) : (s.settleDrain b).obeys := by
  unfold State.settleDrain
  split
  · rename_i hends
    exact State.completeDrain_obeys h hends.1
  · exact h

theorem State.settlePort_obeys (h : s.obeys) (p : Port) : (s.settlePort p).obeys := by
  unfold State.settlePort
  split
  · exact h
  · exact State.settleDrain_obeys h _

theorem State.withdrawMarker_obeys (h : s.obeys) (b : Branch) : (s.withdrawMarker b).obeys := by
  by_cases hb : s.branches[b].mode = .draining
  · have hparked : s.stance.mode = .parked := h.parked_of_draining hb
    have hfits := (((lawfulBut_of_parked hparked).1 h).1 b).2 id
    have hb' : s.stance.branch b = .draining := hb
    rw [hb'] at hfits
    rw [State.obeys, s.withdrawMarker_stance hb]
    refine h.change (b := b) hparked hparked rfl (fun c hc => enter_branch_ne _ hc)
      (fun i hi => released_state_ne (x := s.stance.enter b .awake) hi) ?_ fun _ _ => id
    show ((s.stance.enter b .awake).released b .on).fits b ((s.stance.enter b .awake).branch b)
    rw [enter_branch_self]
    exact ⟨released_on_working (x := s.stance.enter b .awake) hfits.1, released_on_none⟩
  · rwa [s.withdrawMarker_eq_self hb]

/-- A Releasing domain returned to On with the marker of its branch withdrawn. -/
theorem State.revival_obeys (h : s.obeys) (hd : s.domains[d].state = .releasing) (f : Domain → Domain)
    (hf : ∀ y, (f y).branch = y.branch ∧ (f y).state = .on) :
    ∃ b, s.domains[d].branch = some b ∧ ((s.modDomain d f).withdrawMarker b).obeys := by
  obtain ⟨-, b, hb, hm⟩ := lawfulBut.draining_of_releasing h hd
  have hb : s.domains[d].branch = some b := hb
  refine ⟨b, hb, ?_⟩
  refine (State.withdrawMarker_obeys h b).of_stance ?_
  have hm : s.branches[b].mode = .draining := hm
  rw [State.withdrawMarker_stance _ hm, State.withdrawMarker_stance (s.modDomain d f) hm,
    s.modDomain_stance f fun y => (hf y).1, (hf _).2]
  refine congrArg (fun g => ({ s.stance.enter b .awake with state := g } : Stance)) (funext fun i => ?_)
  show (if s.domains[i].branch = some b ∧ (s.stance.turn d .on).state i = .releasing then DomainState.on
    else (s.stance.turn d .on).state i) = if s.domains[i].branch = some b ∧ s.domains[i].state = .releasing then DomainState.on
    else s.domains[i].state
  rcases eq_or_ne i d with rfl | hne
  · rw [turn_state_self, ite_self, if_pos ⟨hb, hd⟩]
  · rw [turn_state_ne hne]
    rfl

theorem State.reloadActivity_obeys (h : s.obeys) (d : DomainIx) (n : Nat) : (s.reloadActivity d n).obeys := by
  unfold State.reloadActivity
  dsimp only
  split
  · exact h.of_stance (s.modDomain_stance_same _ ⟨rfl, rfl⟩)
  · rename_i hd
    obtain ⟨b, hb, hrevived⟩ := State.revival_obeys h hd (fun x => { x with state := .on, remaining := max x.remaining n })
      fun _ => ⟨rfl, rfl⟩
    rw [hb]
    exact hrevived
  all_goals exact h

/-! ## Branches that follow their domains -/

theorem Stance.anyDomainOf_iff {k : DomainState → Bool} : s.anyDomainOf b k = true ↔ s.stance.has b k :=
  State.anyDomainOf_iff

/-- A branch that follows the loss of a domain fits its domains. -/
theorem State.branchFollow_stance (s : State) (b : Branch) : ∃ m, (s.branchFollow b).stance = s.stance.enter b m ∧
    (s.mode = .parked → s.stance.bounds b s.branches[b].mode → s.stance.fits b m) := by
  have hself : s.stance = s.stance.enter b s.branches[b].mode := enter_self.symm
  have hrest : ¬ s.stance.has b DomainState.active → s.stance.fits b s.branches[b].params.rest.mode :=
    fits_of_dark (RestState.mode_cases _)
  have hpowered : ∀ {p : Prop},
      (s.stance.has b DomainState.working ∨ s.stance.has b (· == .releasing) → p → s.stance.fits b s.branches[b].mode) →
      ∃ m, (if s.anyDomainOf b DomainState.active = true then s else s.returnToRest b).stance = s.stance.enter b m ∧
        (s.mode = .parked → p → s.stance.fits b m) := fun hstays => by
    by_cases hactive : s.anyDomainOf b DomainState.active = true
    · exact ⟨s.branches[b].mode, by rw [if_pos hactive]; exact hself, fun _ h =>
        hstays (has_active_iff.1 (Stance.anyDomainOf_iff.1 hactive)) h⟩
    · rw [if_neg hactive]
      exact ⟨_, s.returnToRest_stance, fun _ _ => hrest (mt Stance.anyDomainOf_iff.2 hactive)⟩
  unfold State.branchFollow
  split
  · cases hm : s.branches[b].mode with
    | off | listen | isolated => exact ⟨s.branches[b].mode, hself, fun _ h => by rw [hm]; exact h⟩
    | waking =>
      by_cases hwaiting : s.anyDomainOf b DomainState.waiting = true
      · exact ⟨s.branches[b].mode, by rw [if_pos hwaiting]; exact hself, fun _ h => by
          rw [hm]
          exact ⟨Stance.anyDomainOf_iff.1 hwaiting, h⟩⟩
      · rw [if_neg hwaiting]
        by_cases hon : s.anyDomainOf b (· == .on) = true
        · rw [if_pos hon]
          exact ⟨.awake, s.enterBranch_stance _, fun _ h =>
            ⟨has_working_iff.2 (.inr (Stance.anyDomainOf_iff.1 hon)), h⟩⟩
        · rw [if_neg hon]
          refine ⟨_, s.returnToRest_stance, fun _ h => hrest fun hactive => ?_⟩
          rw [Stance.anyDomainOf_iff] at hwaiting hon
          exact (has_active_iff.1 hactive).elim (fun e => (has_working_iff.1 e).elim hwaiting hon) h
    | awake =>
      refine hpowered fun hactive h => ?_
      rw [hm]
      exact ⟨hactive.resolve_right h, h⟩
    | draining =>
      refine hpowered fun hactive h => ?_
      rw [hm]
      exact ⟨hactive.resolve_left h, h⟩
  · rename_i hparked
    exact ⟨s.branches[b].mode, hself, fun h => absurd h hparked⟩

theorem State.branchFollow_obeys (h : s.obeysBut D) (hD : ∀ c, c ≠ b → D c → D' c) :
    (s.branchFollow b).obeysBut D' := by
  by_cases hparked : s.mode = .parked
  · obtain ⟨m, hm, hfits⟩ := s.branchFollow_stance b
    have hbounds := (((lawfulBut_of_parked (x := s.stance) hparked).1 h).1 b).1
    rw [State.obeysBut, hm]
    refine h.change (b := b) hparked hparked rfl (fun c hc => enter_branch_ne m hc) (fun _ _ => rfl) ?_ hD
    rw [enter_branch_self]
    exact hfits hparked hbounds
  · have hself : s.branchFollow b = s := if_neg hparked
    rw [hself]
    rcases lawfulBut_cases h with ⟨hmode, -⟩ | ⟨hmode, h⟩ | ⟨hp, hf, h⟩
    · exact absurd hmode hparked
    · exact (lawfulBut_of_fallback hmode).2 h
    · exact (lawfulBut_of_runs hp hf).2 h

theorem State.followDomain_obeys (h : s.obeysBut D) (hD : ∀ c, s.domains[d].branch ≠ some c → D c → D' c) :
    (s.followDomain d).obeysBut D' := by
  unfold State.followDomain
  split
  · rename_i hd
    exact h.mono fun c => hD c (by rw [hd]; exact nofun)
  · rename_i b hd
    exact State.branchFollow_obeys h fun c hc => hD c (by rw [hd]; exact fun e => hc (Option.some.inj e).symm)

/-- A domain that eases, once its branch has followed. -/
theorem State.eased_obeys (h : s.obeysBut D) (f : Domain → Domain) (hf : ∀ y, (f y).branch = y.branch)
    (heases : s.domains[d].state.eases (f s.domains[d]).state) :
    ((s.modDomain d f).followDomain d).obeysBut D := by
  have hhome : (s.modDomain d f).domains[d].branch = s.domains[d].branch := by
    rw [State.modDomain_get, if_pos rfl, hf]
  refine State.followDomain_obeys (D := fun c => D c ∨ s.domains[d].branch = some c) ?_ fun c hc e =>
    e.resolve_right (by rwa [hhome] at hc)
  rw [State.obeysBut, s.modDomain_stance f hf]
  exact h.turn heases (fun _ => .inl) fun c hc hn => absurd (.inr hc) hn

/-! ## The arbiter -/

theorem State.grant_stance (s : State) (g : DomainIx) : (s.grant g).stance = s.stance.turn g .powerUp :=
  s.modDomain_stance (d := g) (fun x => { x with state := .powerUp, seen := true, settle := x.settleTime }) fun _ => rfl

theorem State.grantRounds_branch (n : Nat) (s : State) (d : DomainIx) :
    (s.grantRounds n).domains[d].branch = s.domains[d].branch := by
  rcases s.grantRounds_domain n d with h | ⟨-, h⟩
  · rw [h]
  · rw [h]
    split <;> rfl

/-- A domain that goes to Fault, once places have been granted and its branch has followed. -/
theorem State.reportFault_obeys {u : State} {left : DomainState} (hbranch : u.domains[d].branch = s.domains[d].branch)
    (h : u.obeysBut fun c => D c ∨ s.domains[d].branch = some c) : (u.reportFault d left).obeysBut D := by
  rw [State.obeysBut, State.reportFault, State.raise_stance]
  exact State.followDomain_obeys h fun c hc e => e.resolve_right (by rwa [hbranch] at hc)

theorem State.faulted_obeys (h : s.obeysBut D) (d : DomainIx) :
    (s.modDomain d Domain.faulted).obeysBut fun c => D c ∨ s.domains[d].branch = some c := by
  rw [State.obeysBut, s.modDomain_stance Domain.faulted fun _ => rfl]
  exact h.turn (DomainState.eases_of_dark rfl) (fun _ => .inl) fun c hc hn => absurd (.inr hc) hn

theorem State.grantRounds_obeys (n : Nat) {s : State} {D : Branch → Prop} (h : s.obeysBut D) :
    (s.grantRounds n).obeysBut D := by
  induction n generalizing s D with
  | zero => exact h
  | succ n ih =>
    rcases s.grantRounds_succ n with e | ⟨g, hqueued, hround⟩
    · rwa [e]
    have hgrant : (s.grant g).obeysBut D := by
      rw [State.obeysBut, State.grant_stance]
      have hqueued' : s.stance.state g = .queued := hqueued
      exact h.turn (by rw [hqueued']; exact ⟨fun _ => rfl, nofun, fun _ => rfl⟩) (fun _ => id)
        fun _ _ _ => ⟨by rw [hqueued']; rfl, rfl⟩
    rcases hround with ⟨-, e⟩ | ⟨-, e⟩
    · rw [e]
      refine State.reportFault_obeys (s := s.grant g) ?_ (ih (State.faulted_obeys hgrant g))
      rw [State.grantRounds_branch, State.modDomain_get, if_pos rfl]
      rfl
    · rw [e]
      exact ih hgrant

theorem State.runArbiter_obeys (h : s.obeysBut D) : s.runArbiter.obeysBut D := State.grantRounds_obeys 16 h

theorem State.enterFault_obeys (h : s.obeys) (d : DomainIx) : (s.enterFault d).obeys := by
  refine State.reportFault_obeys (s := s) ?_ (State.runArbiter_obeys (State.faulted_obeys h d))
  rw [State.runArbiter, State.grantRounds_branch, State.modDomain_get, if_pos rfl]
  rfl

theorem State.switchOff_obeys (h : s.obeys) (d : DomainIx) : (s.switchOff d).obeys := by
  unfold State.switchOff
  split
  · exact State.runArbiter_obeys (State.eased_obeys h _ (fun _ => rfl) (DomainState.eases_of_dark rfl))
  · exact h

end Sys2Proof.Machine
end

section
/-! Wake requests, isolations, the begin of a drain and admission keep the law of branches and domains (chapters 4 to 7). -/

namespace Sys2Proof.Machine

open Stance

variable {s t : State} {b : Branch} {d : DomainIx}

/-- The law holds, and not in Fallback, where no domain may wake. -/
def State.awakens (s : State) : Prop := s.obeys ∧ s.mode ≠ .fallback

theorem State.awakens.of_held (h : t.obeys) (hs : s.awakens) (e : t.held = s.held) : t.awakens :=
  ⟨h, by rw [State.mode_of_held e]; exact hs.2⟩

/-! ## Wake requests -/

/-- An Off domain queued, its branch with it. -/
theorem State.joined_obeys (h : s.awakens) (hd : s.domains[d].branch = some b) (hb : s.branches[b].mode ≠ .isolated)
    (f : Domain → Domain) (hf : ∀ y, (f y).branch = y.branch ∧ (f y).state = .queued) :
    ((s.modDomain d f).branchJoined b).obeys := by
  obtain ⟨h, hmode⟩ := h
  have hturn : (s.modDomain d f).stance = s.stance.turn d .queued := by
    rw [s.modDomain_stance f fun y => (hf y).1, (hf _).2]
  by_cases hparked : s.mode = .parked
  · have hfits := (((lawfulBut_of_parked (x := s.stance) hparked).1 h).1 b).2 id
    have hwaiting : (s.stance.turn d .queued).has b DomainState.waiting := ⟨d, hd, by rw [turn_state_self]; rfl⟩
    have hnone : ¬ s.stance.has b (· == .releasing) → ¬ (s.stance.turn d .queued).has b (· == .releasing) := by
      rintro hn ⟨i, hi, hk⟩
      rcases eq_or_ne i d with rfl | hne
      · rw [turn_state_self] at hk
        cases hk
      · rw [turn_state_ne hne] at hk
        exact hn ⟨i, hi, hk⟩
    have hother : ∀ i, s.stance.home i ≠ some b → (s.stance.turn d .queued).state i = s.stance.state i := fun i hi =>
      turn_state_ne fun e => hi (e ▸ hd)
    have hwoken : ∀ m, m = .waking ∨ m = .awake → ¬ s.stance.has b (· == .releasing) →
        ((s.stance.turn d .queued).enter b m).lawful := fun m hm hn => by
      refine h.change (b := b) hparked hparked rfl (fun c hc => enter_branch_ne (x := s.stance.turn d .queued) m hc) hother ?_
        fun _ _ => id
      rw [enter_branch_self]
      rcases hm with rfl | rfl
      · exact ⟨hwaiting, hnone hn⟩
      · exact ⟨has_working_of_waiting hwaiting, hnone hn⟩
    have hrest : ¬ s.stance.has b DomainState.active → ((s.modDomain d f).enterBranch b .waking).obeys := fun hdark => by
      rw [State.obeys, State.enterBranch_stance, hturn]
      exact hwoken _ (.inl rfl) fun e => hdark (has_active_iff.2 (.inr e))
    have hstays : s.branches[b].mode = .waking ∨ s.branches[b].mode = .awake → ¬ s.stance.has b (· == .releasing) →
        (s.modDomain d f).obeys := fun hm hn => by
      have hwoken := hwoken _ hm hn
      rw [State.obeys, hturn]
      rwa [show (s.stance.turn d .queued).enter b s.branches[b].mode = s.stance.turn d .queued from enter_self] at hwoken
    have hm' : s.stance.fits b s.branches[b].mode := hfits
    rw [State.branchJoined, if_pos (by exact hparked)]
    show (match s.branches[b].mode with
      | .off | .listen => (s.modDomain d f).enterBranch b .waking
      | .draining => (s.modDomain d f).withdrawMarker b
      | .waking | .awake | .isolated => s.modDomain d f).obeys
    cases hm : s.branches[b].mode <;> rw [hm] at hm'
    case off | listen => exact hrest hm'
    case waking => exact hstays (.inl hm) hm'.2
    case awake => exact hstays (.inr hm) hm'.2
    case isolated => exact absurd hm hb
    case draining =>
      rw [State.obeys, State.withdrawMarker_stance (s.modDomain d f) hm, hturn]
      have hqueued : (((s.stance.turn d .queued).enter b .awake).released b .on).state d = .queued := by
        show (if s.domains[d].branch = some b ∧ (s.stance.turn d .queued).state d = .releasing then DomainState.on
          else (s.stance.turn d .queued).state d) = .queued
        rw [turn_state_self, if_neg fun e => nomatch e.2]
      refine h.change (b := b) hparked hparked rfl
        (fun c hc => enter_branch_ne (x := s.stance.turn d .queued) .awake hc) (fun i hi => ?_) ?_ fun _ _ => id
      · exact (released_state_ne (x := (s.stance.turn d .queued).enter b .awake) hi).trans (hother i hi)
      · show Stance.fits _ b (((s.stance.turn d .queued).enter b .awake).branch b)
        rw [enter_branch_self]
        exact ⟨⟨d, hd, by rw [hqueued]; rfl⟩, released_on_none⟩
  · have hself : (s.modDomain d f).branchJoined b = s.modDomain d f := if_neg hparked
    rw [hself, State.obeys, hturn]
    refine (lawfulBut_of_runs (x := s.stance.turn d .queued) hparked hmode).2
      (((lawfulBut_of_runs (x := s.stance) hparked hmode).1 h).turn nofun fun c hc => ?_)
    have hc : s.domains[d].branch = some c := hc
    obtain rfl := Option.some.inj (hd.symm.trans hc)
    exact hb

theorem State.requestWake_obeys (h : s.awakens) (d : DomainIx) (k : WakeClass) (n : Nat) (r : Option RuleIx) :
    (s.requestWake d k n r).obeys := by
  have hqueued : ∀ y : Domain, (y.queuedFor k n r).branch = y.branch ∧ (y.queuedFor k n r).state = .queued := fun y => by
    obtain ⟨hstate, -, -, hbranch⟩ := y.queuedFor_fields k n r
    exact ⟨hbranch, hstate⟩
  unfold State.requestWake
  dsimp only
  split
  · split
    · rename_i hd
      rw [State.obeys, s.modDomain_stance _ fun y => (hqueued y).1, (hqueued _).2]
      exact lawful.turn_homeless h.1 h.2 nofun hd
    · rename_i b hd
      split
      · exact h.1
      · rename_i hb
        exact State.joined_obeys h hd hb _ hqueued
  · exact h.1.of_stance (s.modDomain_stance_same _ ⟨rfl, rfl⟩)
  · exact h.1.of_stance (s.modDomain_stance_same _ ⟨rfl, rfl⟩)
  · exact h.1.of_stance (s.modDomain_stance_same _ ⟨rfl, rfl⟩)
  · rename_i hd
    obtain ⟨b, hb, hrevived⟩ := State.revival_obeys h.1 hd (fun x => { x with state := .on, remaining := n })
      fun _ => ⟨rfl, rfl⟩
    rw [hb]
    exact hrevived
  · exact h.1

theorem State.requestWake_awakens (h : s.awakens) (d : DomainIx) (k : WakeClass) (n : Nat) (r : Option RuleIx) :
    (s.requestWake d k n r).awakens :=
  .of_held (State.requestWake_obeys h d k n r) h (s.requestWake_held d k n r)

theorem State.wake_awakens (h : s.awakens) (d : DomainIx) (k : WakeClass) (n : Nat) (r : Option RuleIx) :
    (s.wake d k n r).awakens :=
  .of_held (State.runArbiter_obeys (State.requestWake_obeys h d k n r)) h (s.wake_held d k n r)

theorem State.wakeGroup_obeys (h : s.awakens) (ds : List DomainIx) : (s.wakeGroup ds).obeys := by
  have hasked : (ds.foldl (fun t d => t.requestWake d .b t.domains[d].defaultLinger none) s).awakens :=
    List.foldlRecOn ds _ h fun _ hu d _ => State.requestWake_awakens hu d _ _ _
  exact State.runArbiter_obeys hasked.1

/-! ## Isolations -/

/-- A branch Isolated and its domains cut. -/
def Stance.isolated (x : Stance) (b : Branch) : Stance :=
  { x.enter b .isolated with state := fun d => if x.home d = some b ∧ (x.state d).active = true then .off else x.state d }

theorem Stance.isolated_dark (x : Stance) (b : Branch) : ¬ (x.isolated b).has b DomainState.active := by
  rintro ⟨d, hd, hk⟩
  have hk : (if x.home d = some b ∧ (x.state d).active = true then DomainState.off else x.state d).active = true := hk
  split at hk
  · cases hk
  · rename_i hn
    exact hn ⟨hd, hk⟩

theorem Stance.isolated_lawful {x : Stance} (h : x.lawful) (hmode : x.mode ≠ .fallback) (b : Branch) : (x.isolated b).lawful := by
  have hother : ∀ i, x.home i ≠ some b → (x.isolated b).state i = x.state i := fun i hi => if_neg fun e => hi e.1
  rcases lawfulBut_cases h with ⟨hparked, -⟩ | ⟨hf, -⟩ | ⟨hp, hf, hbranches, hnone⟩
  · refine h.change (b := b) hparked hparked rfl (fun c hc => enter_branch_ne (x := x) .isolated hc) hother ?_ fun _ _ => id
    show (x.isolated b).fits b ((x.enter b .isolated).branch b)
    rw [enter_branch_self]
    exact x.isolated_dark b
  · exact absurd hf hmode
  · refine (lawfulBut_of_runs (x := x.isolated b) hp hf).2 ⟨fun c => ?_, fun i => ?_⟩
    · show (x.enter b .isolated).branch c = .awake ∨ (x.enter b .isolated).branch c = .isolated ∧ _
      by_cases hc : c = b
      · subst hc
        exact .inr ⟨enter_branch_self _, x.isolated_dark c⟩
      · rw [enter_branch_ne _ hc, has_congr (x := x) (y := x.isolated b) rfl fun i hi =>
          hother i (by rw [hi]; exact fun e => hc (Option.some.inj e))]
        exact hbranches c
    · show (if x.home i = some b ∧ (x.state i).active = true then DomainState.off else x.state i) ≠ .releasing
      split
      · exact nofun
      · exact hnone i

theorem State.isolating_cut_stance (s : State) (b : Branch) : ((s.isolating b).mapDomains fun _ d =>
    if decide (d.branch = some b) && d.state.active then d.switchedOff else d).stance = s.stance.isolated b := by
  have hstance : (s.isolating b).stance = s.stance.enter b .isolated := by
    rw [State.isolating, State.stopDrain_stance]
    exact s.enterBranch_stance _
  rw [State.mapDomains_stance _ _ fun d y => by split <;> rfl, hstance]
  refine congrArg (fun g => ({ s.stance.enter b .isolated with state := g } : Stance)) (funext fun d => ?_)
  rw [State.isolating_domains]
  refine (apply_ite Domain.state _ _ _).trans (if_congr ?_ rfl rfl)
  rw [Bool.and_eq_true, decide_eq_true_iff]
  exact Iff.rfl

theorem State.isolate_obeys (h : s.awakens) (b : Branch) (c : IsolationCause) : (s.isolate b c).obeys := by
  by_cases hb : s.branches[b].mode = .isolated
  · rw [s.isolate_eq_self hb]
    exact h.1
  · have hcut : ((s.isolating b).cut fun d => d.branch = some b).obeys := by
      refine State.runArbiter_obeys ?_
      rw [State.obeysBut, State.isolating_cut_stance]
      exact isolated_lawful h.1 h.2 b
    rw [s.isolate_eq hb, State.obeys, State.raise_stance]
    exact hcut.of_stance (State.modBranch_stance_same _ _ fun _ => rfl)

theorem State.chatter_obeys (h : s.obeys) (b : Branch) : (s.chatter b).obeys := by
  unfold State.chatter
  dsimp only
  split
  · rename_i hlisten
    have hcounted : (s.modBranch b fun bs => { bs with chatterCount := bs.chatterCount + 1 }).obeys :=
      h.of_stance (s.modBranch_stance_same _ fun _ => rfl)
    split
    · exact State.isolate_obeys ⟨hcounted, by rw [show (s.modBranch b _).mode = s.mode from rfl, hlisten.1]; exact nofun⟩ b _
    · exact hcounted
  · exact h

theorem State.leaveIsolated_obeys (h : s.obeys) (hb : s.branches[b].mode = .isolated) : (s.leaveIsolated b).obeys := by
  have hb' : s.stance.branch b = .isolated := hb
  have hfreed : ((s.modBranch b BranchState.released).modPort (portOf b) fun ps => { ps with discards := 0 }).stance =
      s.stance := s.modBranch_stance_same _ fun _ => rfl
  have hawake : ∀ u : State, u.stance = s.stance → s.mode ≠ .parked → s.mode ≠ .fallback →
      (u.enterBranch b .awake).awakens := fun u hu hp hf => by
    obtain ⟨hbranches, hnone⟩ := (lawfulBut_of_runs (x := s.stance) hp hf).1 h
    have hmode : (u.enterBranch b .awake).mode = s.mode := congrArg Stance.mode hu
    refine ⟨?_, by rwa [hmode]⟩
    rw [State.obeys, State.enterBranch_stance, hu]
    refine (lawfulBut_of_runs (x := s.stance.enter b .awake) hp hf).2 ⟨fun c => ?_, hnone⟩
    by_cases hc : c = b
    · subst hc
      exact .inl (enter_branch_self _)
    · rw [enter_branch_ne _ hc]
      exact hbranches c
  unfold State.leaveIsolated
  dsimp only
  split
  · rename_i hparked
    have hfits := (((lawfulBut_of_parked (x := s.stance) hparked).1 h).1 b).2 id
    rw [hb'] at hfits
    rw [State.obeys, State.goRest_stance, hfreed]
    refine h.change (b := b) hparked hparked rfl (fun c hc => enter_branch_ne _ hc) (fun _ _ => rfl) ?_ fun _ _ => id
    rw [enter_branch_self]
    exact fits_of_dark (RestState.mode_cases _) hfits
  · rename_i hf
    obtain ⟨hlisten, -⟩ := (lawfulBut_of_fallback (x := s.stance) hf).1 h
    rw [hlisten b] at hb'
    cases hb'
  all_goals
    rename_i hmode
    exact State.wakeGroup_obeys (hawake _ hfreed (by rw [hmode]; exact nofun) (by rw [hmode]; exact nofun)) _

end Sys2Proof.Machine
end

section
/-! Admission, transmission, the begin of a drain, receptions and the account keep the law of branches and domains. -/

namespace Sys2Proof.Machine

open Stance

variable {s t : State} {b : Branch} {d : DomainIx}

/-! ## Operations that leave the stance as it is -/

theorem State.modPort_stance (s : State) (p : Port) (f : PortState → PortState) : (s.modPort p f).stance = s.stance := rfl

theorem State.dropAt_stance (s : State) (p : Port) (place : Nat) : (s.dropAt p place).stance = s.stance := rfl

theorem State.enqueue_stance (s : State) (p : Port) (f : Frame) (k : WakeClass) (hold : Bool) :
    (s.enqueue p f k hold).stance = s.stance := rfl

theorem State.holdOverflow_stance (s : State) (p : Port) (n : Nat) (k : WakeClass) :
    (s.holdOverflow p n k).stance = s.stance := s.raise_stance _ _ _ _

theorem State.headIdle_stance (s : State) (p : Port) : (s.headIdle p).stance = s.stance := rfl

theorem State.trunkGivesUp_stance (s : State) : s.trunkGivesUp.stance = s.stance := rfl

theorem State.mapPorts_stance (s : State) (f : Port → PortState → PortState) : (s.mapPorts f).stance = s.stance := rfl

theorem State.mapRules_stance (s : State) (f : RuleIx → Rule → Rule) : (s.mapRules f).stance = s.stance := by
  simp only [State.stance, State.mapRules_mode, State.mapRules_branches, State.mapRules_domains,
    State.mapRules_classification]

theorem State.mapSchedule_stance (s : State) (f : EntryIx → ScheduleEntry → ScheduleEntry) :
    (s.mapSchedule f).stance = s.stance := rfl

theorem State.capOrder_stance (s : State) : s.capOrder.stance = s.stance :=
  s.mapDomains_stance_same _ fun _ y => by
    unfold Domain.capped
    split <;> exact ⟨rfl, rfl⟩

theorem State.recompute_stance (s : State) : s.recompute.stance = s.stance := by
  have haccount : ({ s with account := s.account.recomputed s.budget } : State).stance = s.stance := rfl
  have hlow : ∀ (p : Prop) [Decidable p] (n : Nat), (if p then
      ({ s with account := s.account.recomputed s.budget } : State).raise .batteryLow none n 0
      else { s with account := s.account.recomputed s.budget }).stance = s.stance := fun p _ n => by
    split
    · rw [State.raise_stance, haccount]
    · exact haccount
  unfold State.recompute
  dsimp only
  split
  · exact hlow _ _
  split
  · rw [State.capOrder_stance, State.raise_stance]
    exact hlow _ _
  · rw [State.raise_stance]
    exact hlow _ _

theorem State.clearMarks_stance (s : State) : s.clearMarks.stance = s.stance := by
  have hdomains := s.mapDomains_stance_same (fun _ d => { d with seen := d.seen && d.state.enabled })
    fun _ _ => ⟨rfl, rfl⟩
  rw [State.clearMarks, State.mapBranches_stance_same, hdomains]
  exact fun _ _ => rfl

theorem State.accountNow_stance (s : State) : s.accountNow.stance = s.stance := by
  unfold State.accountNow
  dsimp only
  rw [State.recompute_stance, State.clearMarks_stance]
  split
  · rw [State.raise_stance]
    rfl
  · rfl

theorem State.issueBattery_stance (s : State) (v : Option (BitVec 16)) : (s.issueBattery v).stance = s.stance := by
  unfold State.issueBattery
  split
  · rfl
  · rw [State.takeBattery, State.recompute_stance]
    rfl

theorem State.dropConfirm_stance (s : State) (r : RuleIx) : (s.dropConfirm r).stance = s.stance :=
  congrArg (fun k => ({ s.stance with stray := s.mode == .fallback && k } : Stance)) Option.isSome_map

theorem State.clearWakers_stance (s : State) (r : RuleIx) : (s.clearWakers r).stance = s.stance :=
  s.mapDomains_stance_same _ fun _ y => by split <;> exact ⟨rfl, rfl⟩

theorem State.charge_stance (s : State) (r : RuleIx) (d : DomainIx) : (s.charge r d).stance = s.stance := by
  unfold State.charge
  dsimp only
  split
  · rfl
  split
  · rw [State.raise_stance, State.dropConfirm_stance]
    rfl
  · rfl

theorem State.judge_stance (s : State) (d : DomainIx) : (s.judge d).stance = s.stance := by
  unfold State.judge
  dsimp only
  refine (State.modDomain_stance_same _ _ ⟨rfl, rfl⟩).trans ?_
  split
  · exact s.charge_stance _ _
  · rfl

theorem State.confirm_stance (s : State) (b : Branch) : (s.confirm b).stance = s.stance := by
  unfold State.confirm
  dsimp only
  rw [State.mapDomains_stance_same]
  · exact s.mapRules_stance _
  · intro _ y
    split <;> exact ⟨rfl, rfl⟩

theorem State.beginEntry_stance (s : State) (p : Port) : (s.beginEntry p).stance = s.stance := by
  unfold State.beginEntry
  repeat' split
  all_goals rfl

theorem State.beginResponse_stance (s : State) (r : Response) : (s.beginResponse r).stance = s.stance := by
  unfold State.beginResponse
  split <;> rfl

theorem State.beginReport_stance (s : State) (r : Report) (rest : List Report) :
    (s.beginReport r rest).stance = s.stance := by
  unfold State.beginReport
  split <;> rfl

theorem State.beginTrunk_stance (s : State) : s.beginTrunk.stance = s.stance := by
  unfold State.beginTrunk
  split
  · exact s.beginResponse_stance _
  split
  · split
    · exact s.beginReport_stance _ _
    · exact s.beginEntry_stance _
  · rfl

theorem State.beginBranch_stance (s : State) (b : Branch) : (s.beginBranch b).stance = s.stance := by
  unfold State.beginBranch
  split
  · exact s.beginEntry_stance _
  · rfl

theorem State.delivered_stance (s : State) (p : Port) : (s.delivered p).stance = s.stance := by
  unfold State.delivered
  dsimp only
  split
  · unfold State.trunkDelivered
    split <;> rfl
  · rfl

theorem State.heardAt_stance (s : State) (p : Port) : (s.heardAt p).stance = s.stance := by
  unfold State.heardAt
  split <;> rfl

theorem State.reportOverrun_stance (s : State) (p : Port) : (s.reportOverrun p).stance = s.stance := by
  unfold State.reportOverrun
  split
  · rfl
  · exact State.raise_stance _ _ _ _ _

theorem State.secondStep_stance (s : State) : s.secondStep.stance = s.stance := by
  have hbranches : ∀ u : State, (u.mapBranches fun _ bs =>
      { bs with isolationTimer := tickDown bs.isolationTimer, windowTimer := tickDown bs.windowTimer }).stance = u.stance :=
    fun u => u.mapBranches_stance_same _ fun _ _ => rfl
  unfold State.secondStep
  dsimp only
  split
  · rw [State.mapSchedule_stance, State.mapPorts_stance, hbranches]
    rfl
  · rw [State.mapPorts_stance, hbranches]
    rfl

theorem State.msStep_stance (s : State) : s.msStep.stance = s.stance := by
  have h := s.mapDomains_stance_same
    (fun _ d => if d.state = .powerUp then { d with settle := d.settle - 1 } else d)
    fun _ y => by split <;> exact ⟨rfl, rfl⟩
  exact h

theorem State.tenMsStep_stance (s : State) : s.tenMsStep.stance = s.stance := by
  rw [State.tenMsStep, State.mapBranches_stance_same]
  exact fun _ _ => rfl

theorem State.hundredMsStep_stance (s : State) : s.hundredMsStep.stance = s.stance := by
  unfold State.hundredMsStep
  dsimp only
  split
  · rw [State.mapDomains_stance_same]
    · rfl
    · intro _ y
      split <;> exact ⟨rfl, rfl⟩
  · rfl

theorem State.advance_stance (s : State) : s.advance.stance = s.stance :=
  State.advance_keeps (P := fun u => u.stance = s.stance) (fun _ _ h => h) (fun u h => u.msStep_stance.trans h)
    (fun u h => u.tenMsStep_stance.trans h) (fun u h => u.hundredMsStep_stance.trans h)
    (fun u h => u.secondStep_stance.trans h) rfl

/-! ## Admission -/

theorem State.evictFor_obeys (h : s.obeys) (p : Port) (f : Frame) (hold : Bool) : (s.evictFor p f hold).obeys := by
  have hrefused := h.of_stance (s.holdOverflow_stance p 0 .a)
  unfold State.evictFor
  split
  · exact hrefused
  split
  · refine State.settlePort_obeys (h.of_stance ?_) p
    rw [State.holdOverflow_stance, State.enqueue_stance, State.dropAt_stance]
  · exact hrefused

theorem State.offerCopy_obeys (h : s.obeys) (p : Port) (f : Frame) (k : WakeClass) (hold : Bool) :
    (s.offerCopy p f k hold).obeys := by
  unfold State.offerCopy
  split
  · split
    · exact h.of_stance (s.enqueue_stance _ _ _ _)
    split
    · exact State.evictFor_obeys h p f hold
    all_goals exact h.of_stance (s.holdOverflow_stance _ _ _)
  · exact h

theorem State.offerCopies_obeys (h : s.obeys) (x : PortSet) (f : Frame) (k : WakeClass) (hold : Bool) :
    (s.offerCopies x f k hold).obeys :=
  List.foldlRecOn _ _ h fun _ hu p _ => State.offerCopy_obeys hu p f k hold

theorem State.issueWakes_obeys (h : s.awakens) (l : Level) (x : DomainSet) (k : WakeClass) (n : Nat) (r : Option RuleIx) :
    (s.issueWakes l x k n r).obeys := by
  have hwoken : (s.issueWakes l x k n r).awakens := List.foldlRecOn _ _ h fun _ hu d _ => State.wake_awakens hu d k _ r
  exact hwoken.1

theorem State.issueReloads_obeys (h : s.obeys) (l : Level) (x : DomainSet) : (s.issueReloads l x).obeys :=
  List.foldlRecOn _ _ h fun _ hu d _ => State.reloadActivity_obeys hu d _

theorem State.issueChatter_obeys (h : s.obeys) (due : Bool) (p : Port) : (s.issueChatter due p).obeys := by
  unfold State.issueChatter
  repeat' split
  · exact h
  · exact State.chatter_obeys h _
  · exact h

theorem State.dispatchMatch_obeys (h : s.awakens) (p : Port) (f : Frame) (m : Match) : (s.dispatchMatch p f m).obeys := by
  have copies : ∀ u : State, u.obeys → ∀ l a fwd k hold v,
      (((u.issueReloads l a).offerCopies fwd f k hold).issueBattery v).obeys := fun u hu l a fwd k hold v =>
    (State.offerCopies_obeys (State.issueReloads_obeys hu l a) fwd f k hold).of_stance (State.issueBattery_stance _ v)
  unfold State.dispatchMatch
  split
  · exact State.issueChatter_obeys (copies _ (State.issueWakes_obeys h _ _ _ _ _) _ _ _ _ _ _) _ _
  · exact State.issueChatter_obeys (copies s h.1 _ _ _ _ _ _) _ _
  · exact State.issueChatter_obeys (h.1.of_stance (s.issueBattery_stance _)) _ _

theorem State.dispatch_obeys (h : s.awakens) (c : Classification) : (s.dispatch c).obeys := by
  unfold State.dispatch
  split
  · unfold State.queueRequest
    split <;> exact h.1
  · exact State.offerCopies_obeys h.1 _ _ _ _
  · exact State.dispatchMatch_obeys h _ _ _
  · exact State.issueChatter_obeys (State.offerCopies_obeys h.1 _ _ _ _) _ _
  · exact State.issueChatter_obeys h.1 _ _

theorem State.scheduledWake_obeys (h : s.awakens) (i : EntryIx) : (s.scheduledWake i).obeys := by
  unfold State.scheduledWake
  dsimp only
  split
  · exact State.issueWakes_obeys h _ _ _ _ _
  all_goals exact h.1.of_stance (s.raise_stance _ _ _ _)

/-! ## Transmission -/

theorem State.countDiscard_obeys (h : s.obeys) (p : Port) : (s.countDiscard p).obeys := by
  have hcounted := h.of_stance
    (s.modPort_stance p fun ps => { ps with discards := min Config.attemptLimit (ps.discards + 1) })
  unfold State.countDiscard
  dsimp only
  generalize (s.modPort p fun ps => { ps with discards := min Config.attemptLimit (ps.discards + 1) }) = u at hcounted ⊢
  split
  · exact hcounted
  split
  · exact hcounted.of_stance u.trunkGivesUp_stance
  split
  · exact hcounted
  · rename_i hmode
    exact State.isolate_obeys ⟨hcounted, hmode⟩ _ _

theorem State.endEntry_obeys (h : s.obeys) (p : Port) (o : AttemptOutcome) : (s.endEntry p o).obeys := by
  have hdrop : (s.dropAt p 0).obeys := h.of_stance (s.dropAt_stance p 0)
  unfold State.endEntry
  split
  · split
    · exact State.settlePort_obeys (hdrop.of_stance (State.delivered_stance _ p)) p
    split
    · exact State.settlePort_obeys (State.countDiscard_obeys hdrop p) p
    split
    · exact State.settlePort_obeys hdrop p
    · exact State.settlePort_obeys (h.of_stance (s.headIdle_stance p)) p
  · exact h

theorem State.endRemoved_obeys (h : s.obeys) (p : Port) (o : AttemptOutcome) : (s.endRemoved p o).obeys := by
  have hfreed : State.obeys { s with freeBuffers := s.freeBuffers + 1 } := h.of_stance rfl
  unfold State.endRemoved
  dsimp only
  split
  · exact State.settlePort_obeys (hfreed.of_stance (State.delivered_stance _ p)) p
  · exact State.settlePort_obeys hfreed p

theorem State.endResponse_obeys (h : s.obeys) (o : AttemptOutcome) : (s.endResponse o).obeys := by
  have hempty : State.obeys { s with response := none } := h.of_stance rfl
  unfold State.endResponse
  split
  · exact h
  split
  · exact hempty.of_stance (State.delivered_stance _ _)
  split
  · exact State.countDiscard_obeys hempty _
  · exact h

theorem State.endReport_obeys (h : s.obeys) (o : AttemptOutcome) : (s.endReport o).obeys := by
  unfold State.endReport
  split
  · exact h
  rename_i r rest _
  have hshorter : ∀ k, State.obeys { s with reports := rest, reportsLost := k } := fun _ => h.of_stance rfl
  split
  · exact (hshorter s.reportsLost).of_stance (State.delivered_stance _ _)
  split
  · exact State.countDiscard_obeys (hshorter true) _
  · exact h

theorem State.endAttempt_obeys (h : s.obeys) (p : Port) (f : Flight) (o : AttemptOutcome) : (s.endAttempt p f o).obeys := by
  have hidle := h.of_stance (s.modPort_stance p fun ps => { ps with flight := none })
  unfold State.endAttempt
  dsimp only
  split
  · exact State.endEntry_obeys hidle p o
  · exact State.endRemoved_obeys hidle p o
  · exact State.endResponse_obeys hidle o
  · exact State.endReport_obeys hidle o

theorem State.chatterAt_obeys (h : s.obeys) (p : Port) : (s.chatterAt p).obeys := by
  unfold State.chatterAt
  split
  · exact h
  · exact State.chatter_obeys h _

/-! ## The end of a linger -/

theorem State.othersKeep_iff_working : s.othersKeep b d = true ↔
    ∃ i : DomainIx, i ≠ d ∧ s.domains[i].branch = some b ∧ s.domains[i].state.working = true := by
  unfold State.othersKeep
  rw [List.any_eq_true]
  simp only [mem_allDomains, true_and, Bool.and_eq_true, bne_iff_ne, beq_iff_eq, and_assoc, DomainState.working]

/-- In Parked the branch of an On domain is Awake, or Waking beside a domain that waits. -/
theorem State.branch_of_on (h : s.obeys) (hparked : s.mode = .parked) (hb : s.domains[d].branch = some b)
    (hd : s.domains[d].state = .on) : ¬ s.stance.has b (· == .releasing) ∧
      (s.branches[b].mode = .awake ∨ s.branches[b].mode = .waking ∧ s.stance.has b DomainState.waiting) := by
  have hfits := (((lawfulBut_of_parked (x := s.stance) hparked).1 h).1 b).2 id
  have hon : s.stance.has b DomainState.working := ⟨d, hb, by
    show s.domains[d].state.working = true
    rw [hd]
    rfl⟩
  have hfits : s.stance.fits b s.branches[b].mode := hfits
  cases hm : s.branches[b].mode <;> rw [hm] at hfits
  case off | listen | isolated => exact absurd (has_active_iff.2 (.inl hon)) hfits
  case waking => exact ⟨hfits.2, .inr ⟨rfl, hfits.1⟩⟩
  case awake => exact ⟨hfits.2, .inl rfl⟩
  case draining => exact absurd hon hfits.2

theorem State.lingerOut_obeys (h : s.obeys) (hparked : s.mode = .parked) (hd : s.domains[d].state = .on) :
    (s.lingerOut d).obeys := by
  have hoff : (s.modDomain d Domain.switchedOff).stance = s.stance.turn d .off := s.modDomain_stance _ fun _ => rfl
  unfold State.lingerOut
  split
  · rename_i hb
    rw [State.obeys, hoff]
    exact lawfulBut.turn h (DomainState.eases_of_dark rfl) (fun _ => id) fun c hc => nomatch hb.symm.trans hc
  rename_i b hb
  have hother : ∀ k i, s.stance.home i ≠ some b → (s.stance.turn d k).state i = s.stance.state i := fun k i hi =>
    turn_state_ne fun e => hi (e ▸ hb)
  obtain ⟨hnone, hbranch⟩ := State.branch_of_on h hparked hb hd
  split
  · rename_i hothers
    obtain ⟨i, hne, hi, hworking⟩ := State.othersKeep_iff_working.1 hothers
    have hgone : ¬ (s.stance.turn d .off).has b (· == .releasing) := by
      rintro ⟨j, hj, hk⟩
      rcases eq_or_ne j d with rfl | hjd
      · rw [turn_state_self] at hk
        cases hk
      · rw [turn_state_ne hjd] at hk
        exact hnone ⟨j, hj, hk⟩
    rw [State.obeys, hoff]
    refine h.change (b := b) hparked hparked rfl (fun _ _ => rfl) (hother _) ?_ fun _ _ => id
    show (s.stance.turn d .off).fits b s.branches[b].mode
    rcases hbranch with hm | ⟨hm, j, hj, hwaiting⟩ <;> rw [hm]
    · exact ⟨⟨i, hi, by rw [turn_state_ne hne]; exact hworking⟩, hgone⟩
    · have hjd : j ≠ d := by
        rintro rfl
        have hwaiting : s.domains[j].state.waiting = true := hwaiting
        rw [hd] at hwaiting
        cases hwaiting
      exact ⟨⟨j, hj, by rw [turn_state_ne hjd]; exact hwaiting⟩, hgone⟩
  · rename_i hothers
    have halone : ∀ i : DomainIx, i ≠ d → s.domains[i].branch = some b → s.domains[i].state.working ≠ true := fun i hi hbi hk =>
      hothers (State.othersKeep_iff_working.2 ⟨i, hi, hbi, hk⟩)
    have hm : s.branches[b].mode = .awake := by
      refine hbranch.resolve_right ?_
      rintro ⟨-, j, hj, hwaiting⟩
      have hwaiting : s.domains[j].state.waiting = true := hwaiting
      rcases eq_or_ne j d with rfl | hjd
      · rw [hd] at hwaiting
        cases hwaiting
      · exact halone j hjd hj (by rw [DomainState.working, hwaiting]; rfl)
    rw [State.placeMarker, if_pos (by exact hm)]
    refine State.settleDrain_obeys ?_ b
    have hreleasing : (s.modDomain d fun x => { x with state := .releasing, remaining := 0 }).stance =
        s.stance.turn d .releasing := s.modDomain_stance _ fun _ => rfl
    refine State.obeys.of_stance (s := (s.modDomain d _).enterBranch b .draining) ?_
      (State.modBranch_stance_same _ _ fun _ => rfl)
    rw [State.obeys, State.enterBranch_stance, hreleasing]
    refine h.change (b := b) hparked hparked rfl
      (fun c hc => enter_branch_ne (x := s.stance.turn d .releasing) .draining hc) (hother _) ?_ fun _ _ => id
    rw [enter_branch_self]
    refine ⟨⟨d, hb, by rw [beq_iff_eq]; exact turn_state_self⟩, ?_⟩
    rintro ⟨i, hi, hk⟩
    have hk : ((s.stance.turn d .releasing).state i).working = true := hk
    rcases eq_or_ne i d with rfl | hne
    · rw [turn_state_self] at hk
      cases hk
    · rw [turn_state_ne hne] at hk
      exact halone i hne hi hk

end Sys2Proof.Machine
end

section
/-! The changes of the part mode and the resets keep the law of branches and domains (chapter 1). -/

namespace Sys2Proof.Machine

open Stance

namespace Stance

variable {x y : Stance} {b c : Branch} {d : DomainIx} {m : BranchMode}

/-! ## What the law says of single branches -/

theorem lawful.dark_of_isolated (h : x.lawful) (hb : x.branch b = .isolated) : ¬ x.has b DomainState.active := by
  rcases lawfulBut_cases h with ⟨-, hbranches, -⟩ | ⟨-, hlisten, -⟩ | ⟨-, -, hbranches, -⟩
  · have hfits := (hbranches b).2 id
    rwa [hb] at hfits
  · rw [hlisten b] at hb
    cases hb
  · rcases hbranches b with e | ⟨-, hdark⟩
    · rw [e] at hb
      cases hb
    · exact hdark

/-- What Park needs of a branch: an Isolated one is dark, and only a Draining one has Releasing domains. -/
def parks (x : Stance) (b : Branch) : Prop :=
  (x.branch b = .isolated → ¬ x.has b DomainState.active) ∧ (x.branch b ≠ .draining → ¬ x.has b (· == .releasing))

theorem parks_of_fits (h : x.fits b (x.branch b)) : x.parks b := by
  have hreleasing : ¬ x.has b DomainState.active → ¬ x.has b (· == .releasing) := fun hn e => hn (has_active_iff.2 (.inr e))
  unfold parks
  cases hm : x.branch b <;> rw [hm] at h
  case off | listen => exact ⟨nofun, fun _ => hreleasing h⟩
  case isolated => exact ⟨fun _ => h, fun _ => hreleasing h⟩
  case waking | awake => exact ⟨nofun, fun _ => h.2⟩
  case draining => exact ⟨nofun, fun e => absurd rfl e⟩

theorem lawful.parks (h : x.lawful) (hmode : x.mode ≠ .fallback) (b : Branch) : x.parks b := by
  rcases lawfulBut_cases h with ⟨-, hbranches, -⟩ | ⟨hf, -⟩ | ⟨-, -, hbranches, hnone⟩
  · exact parks_of_fits ((hbranches b).2 id)
  · exact absurd hf hmode
  · exact ⟨h.dark_of_isolated, fun _ ⟨d, _, hk⟩ => hnone d (beq_iff_eq.1 hk)⟩

/-- A change at one branch and its domains, which sets no domain Releasing. -/
structure ChangedAt (b : Branch) (x y : Stance) : Prop where
  mode : y.mode = x.mode
  home : y.home = x.home
  branch : ∀ c, c ≠ b → y.branch c = x.branch c
  state : ∀ d, x.home d ≠ some b → y.state d = x.state d
  releasing : ∀ d, y.state d = .releasing → x.state d = .releasing

theorem ChangedAt.refl (b : Branch) (x : Stance) : ChangedAt b x x := ⟨rfl, rfl, fun _ _ => rfl, fun _ _ => rfl, fun _ => id⟩

theorem ChangedAt.enter (h : ChangedAt b x y) (m : BranchMode) : ChangedAt b x (y.enter b m) :=
  ⟨h.mode, h.home, fun c hc => (enter_branch_ne m hc).trans (h.branch c hc), h.state, h.releasing⟩

theorem ChangedAt.has_other (h : ChangedAt b x y) (hc : c ≠ b) {k : DomainState → Bool} : y.has c k ↔ x.has c k :=
  has_congr h.home fun d hd => h.state d (by rw [hd]; exact fun e => hc (Option.some.inj e))

theorem ChangedAt.parks_other (h : ChangedAt b x y) (hc : c ≠ b) (hx : x.parks c) : y.parks c := by
  rw [Stance.parks, h.branch c hc, h.has_other hc, h.has_other hc]
  exact hx

theorem ChangedAt.fits_other (h : ChangedAt b x y) (hc : c ≠ b) (hx : x.fits c (x.branch c)) : y.fits c (y.branch c) := by
  rw [h.branch c hc, fits_congr h.home fun d hd => h.state d (by rw [hd]; exact fun e => hc (Option.some.inj e))]
  exact hx

end Stance

variable {s : State} {b : Branch} {d : DomainIx}

theorem State.stance_home (s : State) (d : DomainIx) : s.stance.home d = s.domains[d].branch := rfl

theorem State.stance_state (s : State) (d : DomainIx) : s.stance.state d = s.domains[d].state := rfl

/-! ## Park -/

/-- A branch with its marker withdrawn, where only a Draining one has Releasing domains. -/
theorem State.withdrawn_stance (h : s.stance.parks b) : ChangedAt b s.stance (s.withdrawMarker b).stance ∧
    ¬ (s.withdrawMarker b).stance.has b (· == .releasing) ∧
    ∀ k : DomainState → Bool, k .releasing = false → s.stance.has b k → (s.withdrawMarker b).stance.has b k := by
  by_cases hb : s.branches[b].mode = .draining
  · rw [s.withdrawMarker_stance hb]
    have hstate : ∀ i, ((s.stance.enter b .awake).released b .on).state i =
        if s.stance.home i = some b ∧ s.stance.state i = .releasing then .on else s.stance.state i := fun _ => rfl
    refine ⟨⟨rfl, rfl, fun c hc => enter_branch_ne _ hc, fun i hi => ?_, fun i hi => ?_⟩, released_on_none, ?_⟩
    · exact released_state_ne (x := s.stance.enter b .awake) hi
    · rw [hstate] at hi
      split at hi
      · cases hi
      · exact hi
    · rintro k hk ⟨i, hi, hx⟩
      refine ⟨i, hi, ?_⟩
      rw [hstate, if_neg]
      · exact hx
      · rintro ⟨-, e⟩
        rw [e, hk] at hx
        cases hx
  · rw [s.withdrawMarker_eq_self hb]
    exact ⟨.refl b _, h.2 hb, fun _ _ => id⟩

/-- Park brings a branch into line with its domains. -/
theorem State.parkBranch_stance (h : s.stance.parks b) : ChangedAt b s.stance (s.parkBranch b).stance ∧
    (s.parkBranch b).stance.fits b ((s.parkBranch b).stance.branch b) := by
  obtain ⟨hchanged, hnone, hkept⟩ := State.withdrawn_stance h
  have hself : ∀ {m}, s.branches[b].mode = m → s.stance.fits b m →
      ChangedAt b s.stance s.stance ∧ s.stance.fits b (s.stance.branch b) := fun hm hfits => by
    have hm : s.stance.branch b = _ := hm
    rw [hm]
    exact ⟨.refl b _, hfits⟩
  have hwoken : ∀ m, (s.withdrawMarker b).stance.fits b m → ChangedAt b s.stance ((s.withdrawMarker b).enterBranch b m).stance ∧
      ((s.withdrawMarker b).enterBranch b m).stance.fits b (((s.withdrawMarker b).enterBranch b m).stance.branch b) :=
    fun m hm => by
      rw [State.enterBranch_stance]
      refine ⟨hchanged.enter m, ?_⟩
      rw [enter_branch_self]
      exact hm
  unfold State.parkBranch
  split
  · rename_i hisolated
    exact hself hisolated (h.1 hisolated)
  split
  · rename_i hwaiting
    exact hwoken .waking ⟨hkept _ rfl (Stance.anyDomainOf_iff.1 hwaiting), hnone⟩
  rename_i hwaiting
  rw [Stance.anyDomainOf_iff] at hwaiting
  split
  · rename_i hon
    exact hwoken .awake ⟨hkept _ rfl (has_working_iff.2 (.inr (Stance.anyDomainOf_iff.1 hon))), hnone⟩
  rename_i hon
  rw [Stance.anyDomainOf_iff] at hon
  have hworking : ¬ s.stance.has b DomainState.working := fun e => (has_working_iff.1 e).elim hwaiting hon
  split
  · rename_i hreleasing
    have hreleasing := Stance.anyDomainOf_iff.1 hreleasing
    have hm : s.branches[b].mode = .draining := by_contra fun hm => h.2 hm hreleasing
    exact hself hm ⟨hreleasing, hworking⟩
  rename_i hreleasing
  rw [Stance.anyDomainOf_iff] at hreleasing
  have hfits : s.stance.fits b s.branches[b].params.rest.mode :=
    fits_of_dark (RestState.mode_cases _) fun e => (has_active_iff.1 e).elim hworking hreleasing
  split
  · rename_i hrest
    exact hself hrest hfits
  · rw [State.returnToRest_stance]
    refine ⟨(ChangedAt.refl b _).enter _, ?_⟩
    rw [enter_branch_self]
    exact hfits

/-- Park brings the branches of a list into line and leaves the others ready for it. -/
theorem State.foldl_parkBranch_fits (l : List Branch) {u : State} (hmode : u.mode = .parked)
    (hparks : ∀ b, u.stance.parks b) (hfits : ∀ b, b ∉ l → u.stance.fits b (u.stance.branch b))
    (hhomes : ∀ d, u.stance.state d = .releasing → (u.stance.home d).isSome = true) : (l.foldl State.parkBranch u).obeys := by
  induction l generalizing u with
  | nil =>
    exact (lawfulBut_of_parked (x := u.stance) hmode).2
      ⟨fun b => ⟨bounds_of_fits (hfits b List.not_mem_nil), fun _ => hfits b List.not_mem_nil⟩, hhomes⟩
  | cons c l ih =>
    obtain ⟨hchanged, hc⟩ := State.parkBranch_stance (hparks c)
    refine ih (hchanged.mode.trans hmode) (fun b => ?_) (fun b hb => ?_) fun d hd => ?_
    · by_cases hbc : b = c
      · rw [hbc]
        exact parks_of_fits hc
      · exact hchanged.parks_other hbc (hparks b)
    · by_cases hbc : b = c
      · rw [hbc]
        exact hc
      · exact hchanged.fits_other hbc (hfits b fun e => (List.mem_cons.1 e).elim hbc hb)
    · rw [hchanged.home]
      exact hhomes d (hchanged.releasing d hd)

theorem State.parkLoaded_stance (s : State) : s.parkLoaded.stance = { s.stance with mode := .parked, stray := false } := by
  have hparked : ∀ u : State, ({ u with mode := .parked } : State).stance = { u.stance with mode := .parked, stray := false } :=
    fun _ => rfl
  have hstarted : s.parkStarted.stance = { s.stance with mode := .parked, stray := false } := by
    rw [State.parkStarted, State.mapSchedule_stance, hparked, State.recompute_stance]
    rfl
  rw [State.parkLoaded, State.mapDomains_stance_same]
  · exact hstarted
  · intro _ y
    unfold Domain.parked
    split <;> exact ⟨rfl, rfl⟩

theorem State.parkNow_obeys (h : s.obeys) (hmode : s.mode ≠ .fallback) : s.parkNow.obeys := by
  rw [State.parkNow_eq]
  have hstance := s.parkLoaded_stance
  refine State.foldl_parkBranch_fits allBranches (congrArg Stance.mode hstance) (fun b => ?_)
    (fun b hb => absurd (allBranches_complete b) hb) fun d hd => ?_
  · rw [hstance]
    exact lawful.parks h hmode b
  · rw [hstance] at hd ⊢
    obtain ⟨-, b, hb, -⟩ := lawfulBut.draining_of_releasing h hd
    rw [hb]
    rfl

/-! ## Entries to Unconfigured and Drive -/

/-- The wake requests to every domain give the law of Unconfigured and Drive. -/
theorem State.wakeAll_obeys (hp : s.mode ≠ .parked) (hf : s.mode ≠ .fallback) (hbranches : ∀ b : Branch,
    s.branches[b].mode = .awake ∨ s.branches[b].mode = .isolated ∧ ¬ s.stance.has b DomainState.active) :
    (s.wakeGroup allDomains).obeys := by
  rw [State.wakeGroup_unparked hp fun b e => by rcases hbranches b with h | ⟨h, -⟩ <;> rw [h] at e <;> cases e]
  refine State.runArbiter_obeys ((lawfulBut_of_runs (x := s.allAsked.stance) hp hf).2 ⟨fun b => ?_, fun d => ?_⟩)
  · refine (hbranches b).imp_right fun ⟨hb, hdark⟩ => ⟨hb, ?_⟩
    rintro ⟨d, hd, hk⟩
    rw [State.stance_home, State.allAsked_domain] at hd
    rw [State.stance_state, State.allAsked_domain] at hk
    have hhome : s.domains[d].branch = some b := by
      rw [← hd]
      unfold Domain.asked
      repeat' split
      all_goals rfl
    have hcut : s.cutsOff s.domains[d] = true := State.cutsOff_iff.2 ⟨b, hhome, hb⟩
    refine hdark ⟨d, hhome, ?_⟩
    show s.domains[d].state.active = true
    rw [hcut] at hk
    unfold Domain.asked at hk
    cases hs : s.domains[d].state <;> rw [hs] at hk
    case off | fault => simp [hs, DomainState.active, -Fin.getElem_fin] at hk
    all_goals rfl
  · rw [State.stance_state, State.allAsked_domain]
    unfold Domain.asked
    cases hs : s.domains[d].state <;> dsimp only
    case off => split <;> simp [hs, -Fin.getElem_fin]
    all_goals simp [hs, -Fin.getElem_fin]

theorem State.rouseBranches_mode (s : State) (b : Branch) : s.rouseBranches.branches[b].mode =
    if s.branches[b].mode = .isolated then .isolated else .awake := by
  rw [State.rouseBranches, State.mapBranches_get, State.mapPorts_branches]
  unfold BranchState.roused
  split
  · assumption
  · rfl

theorem State.has_congr_domains {t : State} {k : DomainState → Bool} (h : t.domains = s.domains) :
    t.stance.has b k ↔ s.stance.has b k := by
  unfold Stance.has State.stance
  rw [h]

/-- A state whose Isolated branches are dark, with its other branches roused. -/
theorem State.roused_branches {u : State} (hdark : ∀ b : Branch, s.branches[b].mode = .isolated → ¬ s.stance.has b DomainState.active)
    (hmode : ∀ b : Branch, u.branches[b].mode = if s.branches[b].mode = .isolated then .isolated else .awake)
    (hhas : ∀ b, u.stance.has b DomainState.active ↔ s.stance.has b DomainState.active) (b : Branch) :
    u.branches[b].mode = .awake ∨ u.branches[b].mode = .isolated ∧ ¬ u.stance.has b DomainState.active := by
  rw [hmode, hhas]
  by_cases hb : s.branches[b].mode = .isolated
  · exact .inr ⟨if_pos hb, hdark b hb⟩
  · exact .inl (if_neg hb)

theorem State.enterUnconfigured_obeys
    (hdark : ∀ b : Branch, s.branches[b].mode = .isolated → ¬ s.stance.has b DomainState.active) : s.enterUnconfigured.obeys := by
  unfold State.enterUnconfigured
  have hmode : ({ s with mode := .unconfigured, deadline := Config.configurationDeadline } : State).rouseBranches.mode =
      .unconfigured := by
    rw [State.rouseBranches, State.mapBranches_mode, State.mapPorts_mode]
  refine State.wakeAll_obeys (by rw [hmode]; exact nofun) (by rw [hmode]; exact nofun)
    (State.roused_branches hdark (fun b => State.rouseBranches_mode _ b) fun b => State.has_congr_domains ?_)
  exact State.rouseBranches_domains _

theorem State.departNow_obeys (h : s.obeys) : s.departNow.obeys := by
  have hmode : s.departStarted.mode = .drive := by
    rw [State.departStarted, State.mapDomains_mode, State.mapBranches_mode, State.rouseBranches, State.mapBranches_mode,
      State.mapPorts_mode]
  rw [State.departNow_eq]
  refine State.wakeAll_obeys (by rw [hmode]; exact nofun) (by rw [hmode]; exact nofun)
    (State.roused_branches (fun b => lawful.dark_of_isolated h) (fun b => ?_) fun b => ?_)
  · rw [State.departStarted, State.mapDomains_branches, State.mapBranches_get]
    exact State.rouseBranches_mode _ b
  · refine exists_congr fun d => ?_
    rw [State.stance_home, State.stance_state, State.departStarted_domains]
    exact Iff.rfl

theorem State.land_obeys (h : s.obeys) (p : Port) (f : Frame) : (s.land p f).obeys := by
  have hheard : ((s.modPort p fun ps => { ps with landing := ps.landing ++ [f] }).heardAt p).obeys :=
    h.of_stance (State.heardAt_stance _ p)
  have hnotice : ∀ u : State, u.obeys → ∀ b, (u.receptionNotice b).obeys := fun u hu b =>
    State.withdrawMarker_obeys (hu.of_stance (u.confirm_stance b)) b
  have hended : ∀ u : State, u.obeys → (if s.mode = .fallback then u.enterUnconfigured else u).obeys := fun u hu => by
    split
    · exact State.enterUnconfigured_obeys fun b => lawful.dark_of_isolated hu
    · exact hu
  unfold State.land
  dsimp only
  refine hended _ ?_
  split
  · exact hheard
  · exact hnotice _ hheard _

/-! ## Resets -/

theorem State.fullReset_obeys (s : State) (straps : Fin 4) : (s.fullReset straps).obeys := by
  rw [State.fullReset_eq]
  refine State.enterUnconfigured_obeys fun b hb => ?_
  rw [State.coldStart_branch] at hb
  cases hb

theorem Domain.warmed_not_releasing (x : Domain) : x.warmed.state ≠ .releasing := by
  unfold Domain.warmed
  dsimp only
  split
  · exact nofun
  · exact nofun
  · rename_i h
    show x.state ≠ _
    rw [h]
    exact nofun
  all_goals exact nofun

theorem State.warmReset_obeys (s : State) (straps : Fin 4) : (s.warmReset straps).obeys := by
  rw [State.warmReset_eq]
  have hmode : (s.warmStart straps).mode = .unconfigured := by
    rw [State.warmStart, State.mapDomains_mode, State.mapSchedule_mode, State.mapRules_mode, State.mapBranches_mode,
      State.mapPorts_mode]
  refine State.runArbiter_obeys ((lawfulBut_of_runs (x := (s.warmStart straps).recomputeSilently.stance)
    (fun e => nomatch hmode.symm.trans e) fun e => nomatch hmode.symm.trans e).2 ⟨fun b => .inl ?_, fun d => ?_⟩)
  · show (s.warmStart straps).branches[b].mode = .awake
    rw [State.warmStart_branch]
    rfl
  · show (s.warmStart straps).domains[d].state ≠ .releasing
    rw [State.warmStart_domain]
    exact Domain.warmed_not_releasing _

/-! ## The entry to Fallback -/

theorem State.cut_all_dark (s : State) (d : DomainIx) : (s.cut fun _ => true).domains[d].state.active = false := by
  have hcut : (s.mapDomains fun _ d => if true && d.state.active then d.switchedOff else d).domains[d].state.active = false := by
    rw [State.mapDomains_get, Bool.true_and]
    split
    · rfl
    · rename_i h
      exact Bool.eq_false_iff.2 h
  rcases State.runArbiter_domain (s := s.mapDomains fun _ d => if true && d.state.active then d.switchedOff else d) d with
    h | ⟨hqueued, -⟩
  · rw [State.cut, h]
    exact hcut
  · rw [hqueued] at hcut
    cases hcut

theorem State.flushQueues_stance (s : State) : s.flushQueues.stance = s.stance :=
  List.foldlRecOn (motive := fun u : State => u.stance = s.stance) allPorts _ rfl fun _ hu _ _ => hu

theorem State.enterFallback_obeys (s : State) : s.enterFallback.obeys := by
  rw [State.obeys, State.enterFallback]
  rw [State.raise_stance, State.mapPorts_stance, State.flushQueues_stance, State.mapBranches_stance]
  have hheld := State.cut_held { s with mode := .fallback, deadline := 0, requests := [], classification := none } fun _ => true
  have hmode := State.mode_of_held hheld
  have hclassification := congrArg State.classification hheld
  have hdark := State.cut_all_dark { s with mode := .fallback, deadline := 0, requests := [], classification := none }
  generalize State.cut { s with mode := .fallback, deadline := 0, requests := [], classification := none } _ = u at *
  refine (lawfulBut_of_fallback (x := { u.stance with branch := fun b => u.branches[b].fallen.mode }) hmode).2
    ⟨fun _ => rfl, hdark, ?_⟩
  show (u.mode == .fallback && u.classification.isSome) = false
  have hclassification : u.classification = none := hclassification
  rw [hclassification]
  exact Bool.and_false _

end Sys2Proof.Machine
end

section
/-! Every step keeps branches and domains to the states their part mode allows (O9). -/

namespace Sys2Proof.Machine

open Stance

variable {s t : State} {b : Branch} {d : DomainIx}

/-! ## Write Domain -/

/-- A domain in Off or Fault may change its branch. -/
theorem Stance.lawful.rehome {x : Stance} (h : x.lawful) (hd : (x.state d).active = false) (o : Option Branch) :
    ({ x with home := Function.update x.home d o } : Stance).lawful := by
  have hhas : ∀ b (k : DomainState → Bool), (∀ l, k l = true → l.active = true) →
      (({ x with home := Function.update x.home d o } : Stance).has b k ↔ x.has b k) := fun b k hk =>
    exists_congr fun i => and_congr_left fun hi => by
      have hne : i ≠ d := by
        rintro rfl
        exact Bool.eq_false_iff.1 hd (hk _ hi)
      show Function.update x.home d o i = some b ↔ _
      rw [Function.update_of_ne hne]
  have hactive := fun b => hhas b DomainState.active fun _ => id
  have hwaiting := fun b => hhas b DomainState.waiting fun _ => DomainState.active_of_waiting
  have hworking := fun b => hhas b DomainState.working fun _ => DomainState.active_of_working
  have hreleasing := fun b => hhas b (· == .releasing) fun _ hl => by rw [beq_iff_eq.1 hl]; rfl
  have hfits : ∀ b m, ({ x with home := Function.update x.home d o } : Stance).fits b m ↔ x.fits b m := fun b m => by
    cases m <;> simp only [fits, hactive, hwaiting, hworking, hreleasing]
  rcases lawfulBut_cases h with ⟨hparked, hbranches, hhomes⟩ | ⟨hf, hsleeps⟩ | ⟨hp, hf, hbranches, hnone⟩
  · refine (lawfulBut_of_parked (x := { x with home := Function.update x.home d o }) hparked).2
      ⟨fun b => ?_, fun i hi => ?_⟩
    · have hb := (hfits b (x.branch b)).2 ((hbranches b).2 id)
      exact ⟨bounds_of_fits hb, fun _ => hb⟩
    · have hne : i ≠ d := by
        rintro rfl
        have hi : x.state i = .releasing := hi
        rw [hi] at hd
        cases hd
      show (Function.update x.home d o i).isSome = true
      rw [Function.update_of_ne hne]
      exact hhomes i hi
  · exact (lawfulBut_of_fallback (x := { x with home := Function.update x.home d o }) hf).2 hsleeps
  · exact (lawfulBut_of_runs (x := { x with home := Function.update x.home d o }) hp hf).2
      ⟨fun b => (hbranches b).imp_right fun ⟨hb, hdark⟩ => ⟨hb, mt (hactive b).1 hdark⟩, hnone⟩

theorem State.writeDomain_obeys (h : s.obeys) (y : DomainParams)
    (hbranch : s.domains[d].state.active = true → y.branch = s.domains[d].branch) :
    (s.modDomain d fun x => x.withParams y).obeys := by
  by_cases hactive : s.domains[d].state.active = true
  · exact h.of_stance (s.modDomain_stance_same _ ⟨hbranch hactive, rfl⟩)
  · have hstate : (fun i : DomainIx => (s.modDomain d fun x => x.withParams y).domains[i].state) =
        fun i : DomainIx => s.domains[i].state := funext fun i => by
      rw [State.modDomain_get]
      split
      · rename_i hi
        rw [hi]
        rfl
      · rfl
    have hhome : (fun i : DomainIx => (s.modDomain d fun x => x.withParams y).domains[i].branch) =
        Function.update (fun i : DomainIx => s.domains[i].branch) d y.branch := funext fun i => by
      rw [State.modDomain_get, Function.update_apply]
      exact apply_ite Domain.branch _ _ _
    have hstance : (s.modDomain d fun x => x.withParams y).stance =
        { s.stance with home := Function.update s.stance.home d y.branch } :=
      congrArg₂ (fun f g => ({ s.stance with state := f, home := g } : Stance)) hstate hhome
    rw [State.obeys, hstance]
    exact lawful.rehome h (Bool.eq_false_iff.2 hactive) _

/-! ## Commands -/

theorem State.putRule_stance (s : State) (r : RuleIx) (x : RuleRecord) : (s.putRule r x).stance = s.stance := by
  rw [State.putRule, State.dropConfirm_stance, State.clearWakers_stance]
  rfl

theorem State.setEnable_stance (s : State) (r : RuleIx) (on : Bool) : (s.setEnable r on).stance = s.stance := by
  unfold State.setEnable
  dsimp only
  split
  · rfl
  · rw [State.dropConfirm_stance, State.clearWakers_stance]
    rfl

theorem Acted.obeys {c : Instr} (h : Acted s c t) (hs : s.obeys) : t.obeys := by
  cases h with
  | ruleWritten r _ x _ => exact hs.of_stance (s.putRule_stance r x)
  | enableSet r on => exact hs.of_stance (s.setEnable_stance r on)
  | domainWritten d _ x _ hbranch => exact State.writeDomain_obeys hs x hbranch
  | forcedOn d hmode => exact (State.wake_awakens ⟨hs, hmode⟩ d _ _ _).1
  | forcedOff d => exact State.switchOff_obeys hs d
  | faultCleared d hfault =>
    exact State.eased_obeys hs (fun x => { x with state := .off }) (fun _ => rfl) (DomainState.eases_of_dark rfl)
  | limitSet k => exact State.runArbiter_obeys (s := { s with inrushLimit := k }) (hs.of_stance rfl)
  | branchWritten b _ x y => exact hs.of_stance (State.modBranch_stance_same _ _ fun _ => rfl)
  | portReleased b hisolated => exact State.leaveIsolated_obeys hs hisolated
  | budgetWritten _ x => exact State.obeys.of_stance (s := { s with budget := x }) (hs.of_stance rfl) (State.recompute_stance _)
  | parked hmode => exact State.parkNow_obeys hs hmode
  | departed => exact State.departNow_obeys hs
  | _ => exact hs.of_stance rfl

/-- Outside Fallback a classification in flight does not count. -/
theorem State.classification_stance (hmode : s.mode ≠ .fallback) (k : Option Classification) :
    ({ s with classification := k } : State).stance = s.stance := by
  have hstray : ∀ l : Bool, (s.mode == .fallback && l) = false := fun l => by rw [beq_false_of_ne hmode, Bool.false_and]
  exact congrArg (fun l => ({ s.stance with stray := l } : Stance)) ((hstray _).trans (hstray _).symm)

theorem State.take_stance (hmode : s.mode ≠ .fallback) (p : Port) (f : Frame) (rest : List Frame) :
    (s.take p f rest).stance = s.stance :=
  State.classification_stance hmode (some { frame := f, port := p, verdict := s.classify p f })

/-- Under the law no classification is in flight in Fallback. -/
theorem State.obeys.classifies (h : s.obeys) {k : Classification} (hk : s.classification = some k) : s.mode ≠ .fallback := by
  intro hf
  obtain ⟨-, -, hstray⟩ := (lawfulBut_of_fallback (x := s.stance) hf).1 h
  have hstray : (s.mode == .fallback && s.classification.isSome) = false := hstray
  rw [hf, hk] at hstray
  cases hstray

theorem Effect.obeys {c : Instr} (h : Effect s c t) (hs : s.obeys) : t.obeys := by
  cases h with
  | answered u _ _ _ _ h => exact (h.obeys hs).of_stance rfl
  | fullReset straps => exact s.fullReset_obeys straps
  | resetByInput straps => exact s.warmReset_obeys straps
  | resetByRequest straps => exact s.warmReset_obeys straps
  | babbled p => exact State.chatterAt_obeys (hs.of_stance (s.heardAt_stance p)) p
  | landed p f => exact State.land_obeys hs p f
  | overran p =>
    refine State.chatterAt_obeys (hs.of_stance ?_) p
    rw [State.reportOverrun_stance, State.heardAt_stance]
  | took p f rest hmode => exact hs.of_stance (State.take_stance hmode p f rest)
  | dispatched k hk =>
    have hmode := hs.classifies hk
    exact State.dispatch_obeys (s := { s with classification := none })
      ⟨hs.of_stance (State.classification_stance hmode none), hmode⟩ k
  | beganTrunk => exact hs.of_stance s.beginTrunk_stance
  | beganBranch b => exact hs.of_stance (s.beginBranch_stance b)
  | attemptEnded p f o => exact State.endAttempt_obeys hs p f o
  | fellBack => exact s.enterFallback_obeys
  | faulted d level => exact State.enterFault_obeys (s := s.setFaultInput d level) (hs.of_stance rfl) d
  | settled d hstate =>
    refine State.runArbiter_obeys (State.eased_obeys hs Domain.settled (fun _ => rfl) ?_)
    rw [hstate]
    exact ⟨fun _ => rfl, nofun, fun _ => rfl⟩
  | lingered d hmode hstate =>
    refine State.lingerOut_obeys (hs.of_stance (s.judge_stance d)) ((s.judge_mode d).trans hmode) ?_
    rw [s.judge_domain]
    exact hstate
  | drainLimited b =>
    refine State.settleDrain_obeys ?_ b
    exact hs.of_stance (State.modBranch_stance_same _ _ fun _ => rfl)
  | entryExpired p place => exact State.settlePort_obeys (hs.of_stance (s.dropAt_stance p place)) p
  | accounted => exact hs.of_stance s.reloadAccounting.accountNow_stance
  | windowOpened b => exact hs.of_stance (State.modBranch_stance_same _ _ fun _ => rfl)
  | isolationEnded b hisolated => exact State.leaveIsolated_obeys hs hisolated
  | scheduleFired i hmode =>
    exact (State.scheduledWake_obeys ⟨hs, by rw [hmode]; exact nofun⟩ i).of_stance rfl
  | secondPassed => exact hs.of_stance s.secondStep_stance
  | _ => exact hs.of_stance rfl

/-- Settles O9: the law read off a state's stance, which each operation keeps, a branch that has lost a domain
following it before the operation ends. -/
theorem branchesFollowDomains : Obligations.BranchesFollowDomains := by
  unfold Obligations.BranchesFollowDomains
  intro s t hs hstep
  rw [branchLaw_iff] at hs ⊢
  exact step_keeps (P := State.obeys) (fun _ _ h => h.of_stance rfl) (fun _ _ _ h he => he.obeys h)
    (fun s h => h.of_stance s.advance_stance) hs hstep

end Sys2Proof.Machine
end
